-- ==== Sys2Proof/Word.lean ====
section
/-! DEFINITION. The word types of the DZ44 and a kernel-friendly map over fixed-length vectors. -/

namespace Sys2Proof

/-- One byte of a frame or of show memory. -/
abbrev Byte := BitVec 8

/-- Show time: 32 bits of milliseconds, all arithmetic modulo 2^32 (R3). -/
abbrev ShowTime := BitVec 32

/-- One 16-bit signed narration sample (R129, R175). -/
abbrev Sample := BitVec 16

/-- A station set, station `s` in bit `s` (R175). -/
abbrev StationSet := BitVec 32

/-- A set of claimable resources: bits 0 to 3 axes, bit 4 voice A, bit 5 voice B (R175). -/
abbrev Claims := BitVec 6

/-- Map over a vector through its list, so that the kernel evaluates it. -/
def vmap {α β : Type} {n : Nat} (f : α → β) (v : Vector α n) : Vector β n :=
  ⟨⟨v.toList.map f⟩, by simp⟩

/-- Map two vectors of one length together. -/
def vmap2 {α β γ : Type} {n : Nat} (f : α → β → γ) (v : Vector α n) (w : Vector β n) : Vector γ n :=
  ⟨⟨List.zipWith f v.toList w.toList⟩, by simp⟩

theorem vmap_getElem {α β : Type} {n : Nat} (f : α → β) (v : Vector α n) (i : Fin n) :
    (vmap f v)[i] = f v[i] := by
  simp [vmap]

theorem vmap2_getElem {α β γ : Type} {n : Nat} (f : α → β → γ) (v : Vector α n) (w : Vector β n)
    (i : Fin n) : (vmap2 f v w)[i] = f v[i] w[i] := by
  simp [vmap2]

end Sys2Proof
end

