-- ==== Sys2Proof/Syntax.lean ====
section
/-! DEFINITION. The commands of the DZ44: one constructor of `Instr` for each row of the table of
operations and events (spec/opcode_table.json), in the table's order. The table gives no row an
operand; the operands here are what the event brings from outside the part (pin levels, frame
fields, show memory bytes) or which of several like things (slot, axis, voice, input) it befalls. -/

namespace Sys2Proof

/-- The two narration voices (0.6.23). -/
inductive Voice where
  | a
  | b
deriving DecidableEq, Repr

/-- The input pins as one beat finds them (TABLE II). -/
structure Pins where
  /-- Levels of VIN0 to VIN7, bit n for VINn, 1 for high (R49). -/
  vin : BitVec 8
  /-- Another station, or anything else but this station, pulls HOLDL low (R161). -/
  holdOther : Bool
  /-- Levels of AX0HOME to AX3HOME, 0 (low) being active (R148). -/
  home : BitVec 4
  /-- Levels of AX0LMN to AX3LMN, 0 (low) being active (R148). -/
  lmn : BitVec 4
  /-- Levels of AX0LMP to AX3LMP, 0 (low) being active (R148). -/
  lmp : BitVec 4
deriving DecidableEq, Repr

/-- The pins at rest: every level high, nobody pulling HOLDL. -/
def Pins.rest : Pins := { vin := 0xFF#8, holdOther := false, home := 0xF#4, lmn := 0xF#4, lmp := 0xF#4 }

/-- Why a reception ends as a bad frame (R17). -/
inductive BadCause where
  /-- The payload length field gives more than 24 bytes. -/
  | tooLong
  /-- The line holds one level for more than five bit times. -/
  | fragment
  /-- The CRC-16 does not match. -/
  | badCrc
  /-- A known kind with a payload length that chapter 13 does not allow for it. -/
  | badLength
deriving DecidableEq, Repr

/-- A cue of a scene record with its operand fields as the ten bytes give them, not yet judged
against the ranges of TABLE XXXVII and TABLE XXXVIII (R85, R175). -/
inductive Cue where
  | fade (channel : Byte) (target : BitVec 16) (duration : BitVec 24)
  | cycle (channel table : Byte) (blend : BitVec 16)
  | clip (voice clip mode : Byte)
  | silence (voice : Byte)
  | move (axis : Byte) (target : BitVec 24) (profile : Byte)
  | home (axis : Byte)
  | flag (flag value : Byte)
  | announce (cue : Byte) (delay : BitVec 16)
  | direct (station scene : Byte) (delay : BitVec 16)
  | start (scene : Byte)
  | await (kind op1 op2 : Byte) (timeout : BitVec 16) (onTimeout : Byte)
  /-- An action code above 0Ah. -/
  | unknown (action : Byte)
deriving DecidableEq, Repr

/-- The commands: one constructor for each row of spec/opcode_table.json. -/
inductive Instr where
  | powerOnReset
  | pinReset
  /-- Reset is released with the straps STN4..STN0 at these levels. -/
  | resetRelease (straps : BitVec 5)
  /-- A beat with these pin levels. With `leave` the events that come due at the beat are left to
  their own commands, in the order those come; what is still due at the next beat is taken first
  there. Without it they are taken in this step. -/
  | beat (pins : Pins) (leave : Bool)
  /-- A beat that is a slew beat. -/
  | slewBeat (pins : Pins) (leave : Bool)
  /-- A sample period ends. With `leave` a clip end or tail end that comes due is left to its own
  command or to the next sample period. -/
  | samplePeriod (leave : Bool)
  | peerExpiry (station : Fin 32)
  | pendingCueDue
  | lineIdle
  | receptionStart
  | badFrame (cause : BadCause)
  | rateDoubt
  | beacon (sender : Byte) (stamp : BitVec 32) (g x : BitVec 16) (flags : Byte)
  | cueLongForm (sender cue : Byte) (startAt : BitVec 32)
  | cueShortForm (sender target scene : Byte) (startAt : BitVec 32)
  | talk (sender voice clip : Byte)
  | answer (sender target kind outcome reason : Byte) (data : List Byte)
  | start (sender target : Byte) (operands : List Byte)
  | stop (sender target : Byte) (operands : List Byte)
  | stopAll (sender target : Byte) (operands : List Byte)
  | setFlag (sender target : Byte) (operands : List Byte)
  | hold (sender target : Byte) (operands : List Byte)
  | query (sender target : Byte) (operands : List Byte)
  | clearFaults (sender target : Byte) (operands : List Byte)
  | restart (sender target : Byte) (operands : List Byte)
  | orderUnknownKind (sender target kind : Byte) (operands : List Byte)
  /-- The line has stayed idle for `waited` bit times since it was judged idle. -/
  | attemptBegin (waited : Nat)
  | jam
  | jamEnd
  | busGiveUp
  | attemptSent
  | regularBoundary
  | earlySpacingEnd
  | trialWindowEnd
  | learningLimit
  | inputChange (input : Fin 8)
  | inputStuck (input : Fin 8)
  | lingerExpiry (group : Fin 4)
  | patienceExpiry (scene : Fin 64)
  /-- The transfer of a run's initial read ends with these bytes on SMIN, those before the data-start mark
  and the mark included (R175). -/
  | sceneReadComplete (smin : List Byte)
  /-- The transfer of a refill or reload read ends with these bytes on SMIN. -/
  | refillReadComplete (smin : List Byte)
  | claimingComplete (slot : Fin 4)
  | cueDue (slot : Fin 4)
  | fade (slot : Fin 4) (channel : Byte) (target : BitVec 16) (duration : BitVec 24)
  | cycle (slot : Fin 4) (channel table : Byte) (blend : BitVec 16)
  | clip (slot : Fin 4) (voice clip mode : Byte)
  | silence (slot : Fin 4) (voice : Byte)
  | move (slot : Fin 4) (axis : Byte) (target : BitVec 24) (profile : Byte)
  | home (slot : Fin 4) (axis : Byte)
  | flag (slot : Fin 4) (flag value : Byte)
  | announce (slot : Fin 4) (cue : Byte) (delay : BitVec 16)
  | direct (slot : Fin 4) (station scene : Byte) (delay : BitVec 16)
  | startCue (slot : Fin 4) (scene : Byte)
  | await (slot : Fin 4) (kind op1 op2 : Byte) (timeout : BitVec 16) (onTimeout : Byte)
  | awaitTimeout (slot : Fin 4)
  | endingResourcesIdle (slot : Fin 4)
  | slotGoesFree (slot : Fin 4)
  | blendEnd (channel : Fin 16)
  | overrideRampEnd (channel : Fin 16)
  | motionStarved (axis : Fin 4)
  | guardClear (axis : Fin 4)
  | retryWaitEnd (voice : Voice)
  | claimGranted (voice : Voice)
  | quietLimit (voice : Voice)
  /-- The transfer of a voice burst ends with these bytes on SMIN. -/
  | burstComplete (smin : List Byte)
  | clipEnd (voice : Voice)
  | tailEnd (voice : Voice)
  | holdBegins
  | holdEnd
  | holdLineStuck
  | showMemoryTimeout
  | showMemoryFailed
  /-- The transfer of the Start-up Loader ends with these bytes on SMIN. -/
  | loadTransferComplete (smin : List Byte)
  | joiningIntervalEnd
  | restartBegin
  | restartReload
  | frameOfUnknownKind (kind sender : Byte) (payload : List Byte)
deriving DecidableEq, Repr

end Sys2Proof
end

