-- ==== Sys2Proof/Config.lean ====
section
/-! DEFINITION. What the configuration image and the two directories fix (TABLE LXV): the settings each
block takes when the Start-up Loader accepts an image, and the constants of the part. The part
leaves no value open that an implementation fixes, so no free constant stands here (log entry 2). -/

namespace Sys2Proof

/-- Bus rates (R15); the code of a rate is its place here (R173). -/
inductive Rate where
  | r250
  | r500
  | r1000
deriving DecidableEq, Repr

/-- The kinds of visitor input (TABLE XXII). -/
inductive InputKind where
  | button
  | presence
  | guard
  | holdKey
  | unused
deriving DecidableEq, Repr

/-- Settings of a visitor input (TABLE XXII). -/
structure InputCfg where
  kind : InputKind
  /-- ACTIVE_LOW polarity. -/
  activeLow : Bool
  /-- Debounce time, 1 to 255 beats. -/
  debounce : Nat
  localScene : Option (Fin 64)
  cue : Option Byte
  /-- Stuck limit, 1 to 255 s. -/
  stuckLimit : Nat
  group : Fin 4
deriving DecidableEq, Repr

/-- Settings of a presence group (TABLE XXII). -/
structure GroupCfg where
  linger : Nat
  arrival : Option (Fin 64)
deriving DecidableEq, Repr

/-- Settings of a lighting channel (TABLE XLIII). -/
structure ChannelCfg where
  load : Nat
  /-- SQUARE curve; LINEAR when clear. -/
  square : Bool
  exempt : Bool
  /-- GO_TO hold behaviour; FREEZE when clear. -/
  goTo : Bool
  /-- Initial mode CYCLE with this table; FADE when none. -/
  initialTable : Option (Fin 4)
  holdLevel : Nat
  group : Option (Fin 4)
  walkLevel : Nat
  walkRate : Nat
  powerUp : Nat
deriving DecidableEq, Repr

/-- One point of a cycle table (R106). -/
structure CyclePoint where
  phase : Nat
  level : Nat
deriving DecidableEq, Repr

/-- A cycle table (TABLE XLIII): period in ms and its 2 to 8 points. -/
structure CycleTable where
  period : Nat
  points : List CyclePoint
deriving DecidableEq, Repr

/-- A motion profile (TABLE LVII). -/
structure Profile where
  vmax : Nat
  accel : Nat
deriving DecidableEq, Repr

/-- Settings of an axis (TABLE LVII). -/
structure AxisCfg where
  softMin : Int
  softMax : Int
  /-- Home direction PLUS; MINUS when clear. -/
  homePlus : Bool
  homeOffset : Int
  homeProfile : Fin 4
  travelLimit : Nat
  profiles : Vector Profile 4
  reservation : Nat
  guardMask : BitVec 8
  guardDelay : Nat
  powerWait : Nat
  autoHome : Bool
  faultHolds : Bool
deriving DecidableEq, Repr

/-- A listen window (R92). -/
structure Window where
  enabled : Bool
  /-- None for any station. -/
  origin : Option (Fin 32)
  low : Nat
  high : Nat
  offset : Int
deriving DecidableEq, Repr

/-- A clip directory entry (TABLE LII). -/
structure ClipEntry where
  present : Bool
  earshot : Bool
  mustPlay : Bool
  address : Nat
  length : Nat
  gain : Nat
  quietLimit : Nat
deriving DecidableEq, Repr

/-- A scene directory entry (TABLE XXVIII). -/
structure SceneEntry where
  present : Bool
  loop : Bool
  address : Nat
  priority : Fin 4
  claims : Claims
  lockout : Nat
  patience : Nat
  cueCount : Nat
deriving DecidableEq, Repr

/-- An accepted configuration: the image's settings and the directories (TABLE LXV). -/
structure Config where
  /-- CRC-16 of the image, for the identity page (R169). -/
  crc : BitVec 16
  /-- A fixed rate, or none for LEARN (R31). -/
  rate : Option Rate
  fallback : Rate
  beaconPeriod : Nat
  staleLimit : Nat
  earlySpacing : Nat
  clockGroup : StationSet
  stepLimit : Nat
  earshot : StationSet
  claimWindow : Nat
  gainA : Nat
  gainB : Nat
  duckLevel : Nat
  clipAddress : Nat
  clipCount : Nat
  feeder : StationSet
  capacity : Nat
  floor : Nat
  ceiling : Nat
  gain : Nat
  orderSet : StationSet
  lateLimit : Nat
  windows : Vector Window 8
  releaseDelay : Nat
  holdFade : Nat
  restartFade : Nat
  opening : Option (Fin 64)
  sceneAddress : Nat
  sceneCount : Nat
  channels : Vector ChannelCfg 16
  tables : Vector CycleTable 4
  axes : Vector AxisCfg 4
  inputs : Vector InputCfg 8
  groups : Vector GroupCfg 4
  /-- Clip directory entries below the clip count, in order (R129). -/
  clips : List ClipEntry
  /-- Scene directory entries below the scene count, in order (R63). -/
  scenes : List SceneEntry
deriving DecidableEq, Repr

/-- Whether a station is a member of a station set. -/
def inSet (set : StationSet) (station : Nat) : Bool := set.getLsbD station

/-- The size of the 24-bit address space of show memory (0.6.38). -/
def addressSpace : Nat := 16777216

end Sys2Proof
end

