-- ==== Sys2Proof/Machine/Bytes.lean ====
section
/-! DEFINITION. Bytes, the CRC-16, the bay bus frame and its line code (R173 to R176). -/

namespace Sys2Proof.Machine

/-- `n` bytes of a number, high byte first (R173). -/
def bytesOf : Nat → Nat → List Byte
  | 0, _ => []
  | n + 1, x => BitVec.ofNat 8 (x / 256 ^ n) :: bytesOf n x

/-- `n` bytes of a signed number, in two's complement, high byte first (R173). -/
def bytesOfInt (n : Nat) (x : Int) : List Byte :=
  bytesOf n (x.emod (256 ^ n)).toNat

/-- The number that bytes spell, high byte first (R173). -/
def natOf (bytes : List Byte) : Nat :=
  bytes.foldl (fun acc b => acc * 256 + b.toNat) 0

/-- The number read from `size` bytes at an offset. -/
def field (bytes : List Byte) (offset size : Nat) : Nat :=
  natOf ((bytes.drop offset).take size)

/-- The signed number read from `size` bytes at an offset (R173). -/
def fieldInt (bytes : List Byte) (offset size : Nat) : Int :=
  (BitVec.ofNat (8 * size) (field bytes offset size)).toInt

/-- One bit of a byte. -/
def bitOf (b : Nat) (i : Nat) : Bool := b.testBit i

/-- One CRC step for one message bit: polynomial 1021h (R174). -/
def crcBit (crc : BitVec 16) (bit : Bool) : BitVec 16 :=
  if crc.msb != bit then (crc <<< 1) ^^^ 0x1021#16 else crc <<< 1

/-- The bits of a byte, most significant bit first (R174). -/
def bitsOfByte (b : Byte) : List Bool :=
  [b.getLsbD 7, b.getLsbD 6, b.getLsbD 5, b.getLsbD 4, b.getLsbD 3, b.getLsbD 2, b.getLsbD 1,
    b.getLsbD 0]

/-- The CRC-16 of R174: starting value FFFFh, each byte most significant bit first, no inversion. -/
def crc16 (bytes : List Byte) : BitVec 16 :=
  bytes.foldl (fun crc b => (bitsOfByte b).foldl crcBit crc) 0xFFFF#16

/-! ### The frame -/

def kindBeacon : Byte := 0x01#8
def kindCue : Byte := 0x02#8
def kindTalk : Byte := 0x03#8
def kindOrder : Byte := 0x04#8
def kindAnswer : Byte := 0x05#8

/-- Bytes 0 to n + 2 of a frame: kind, sender, payload length, payload (13.1). -/
def frameHead (kind sender : Byte) (payload : List Byte) : List Byte :=
  kind :: sender :: BitVec.ofNat 8 payload.length :: payload

/-- The bytes of a frame, CRC-16 included, high byte first (R174). -/
def frameBytes (kind sender : Byte) (payload : List Byte) : List Byte :=
  let head := frameHead kind sender payload
  head ++ bytesOf 2 (crc16 head).toNat

/-! ### The line code -/

/-- The line levels that carry `bits`, true for recessive, given the level and the length of the run
so far: after five equal levels one of the other level is inserted (R174). -/
def stuffFrom : Bool → Nat → List Bool → List Bool
  | _, _, [] => []
  | level, run, b :: rest =>
    if b = level then
      if run + 1 = 5 then b :: (!b) :: stuffFrom (!b) 1 rest
      else b :: stuffFrom b (run + 1) rest
    else b :: stuffFrom b 1 rest

/-- The levels of a frame on the line: the dominant start marker (false), then each byte most
significant bit first with stuffed bits (R174). -/
def lineLevels (bytes : List Byte) : List Bool :=
  false :: stuffFrom false 1 (bytes.flatMap bitsOfByte)

/-- Remove the stuffed bits; none where a sixth equal level ends the reception as a fragment
(R17, R174). -/
def destuffFrom : Bool → Nat → List Bool → Option (List Bool)
  | _, run, [] => if run = 5 then none else some []
  | level, run, b :: rest =>
    if run = 5 then
      if b = level then none else destuffFrom b 1 rest
    else if b = level then (destuffFrom b (run + 1) rest).map (b :: ·)
    else (destuffFrom b 1 rest).map (b :: ·)

/-- The bits after the start marker that line levels carry, without the stuffed ones. -/
def destuff : List Bool → Option (List Bool)
  | false :: rest => destuffFrom false 1 rest
  | _ => none

/-! ### Payloads of the messages this station sends (13.1) -/

/-- The flags byte of a BEACON. -/
def beaconFlags (talking localHold faultPresent : Bool) (flags : BitVec 4) : Byte :=
  flags ++ (0#1) ++ BitVec.ofBool faultPresent ++ BitVec.ofBool localHold ++ BitVec.ofBool talking

def beaconPayload (stamp : BitVec 32) (g x : Nat) (flags : Byte) : List Byte :=
  bytesOf 4 stamp.toNat ++ bytesOf 2 g ++ bytesOf 2 x ++ [flags]

def cueLongPayload (cue : Byte) (startAt : BitVec 32) : List Byte :=
  cue :: bytesOf 4 startAt.toNat

def cueShortPayload (target scene : Nat) (startAt : BitVec 32) : List Byte :=
  BitVec.ofNat 8 target :: BitVec.ofNat 8 scene :: bytesOf 4 startAt.toNat

/-- The code of a voice: A 00h, B 01h. -/
def voiceCode : Voice → Byte
  | .a => 0#8
  | .b => 1#8

def talkPayload (voice : Voice) (clip : Nat) : List Byte :=
  [voiceCode voice, BitVec.ofNat 8 clip]

def answerPayload (target : Nat) (kind outcome reason : Byte) (data : List Byte) : List Byte :=
  BitVec.ofNat 8 target :: kind :: outcome :: reason :: data

/-! ### Cues -/

/-- The cue that an action code and six operand bytes spell (R175). -/
def cueOf (action : Byte) (ops : List Byte) : Cue :=
  let u8 := fun i => BitVec.ofNat 8 (field ops i 1)
  let u16 := fun i => BitVec.ofNat 16 (field ops i 2)
  let u24 := fun i => BitVec.ofNat 24 (field ops i 3)
  match action.toNat with
  | 0 => .fade (u8 0) (u16 1) (u24 3)
  | 1 => .cycle (u8 0) (u8 1) (u16 2)
  | 2 => .clip (u8 0) (u8 1) (u8 2)
  | 3 => .silence (u8 0)
  | 4 => .move (u8 0) (u24 1) (u8 4)
  | 5 => .home (u8 0)
  | 6 => .flag (u8 0) (u8 1)
  | 7 => .announce (u8 0) (u16 1)
  | 8 => .direct (u8 0) (u8 1) (u16 2)
  | 9 => .start (u8 0)
  | 10 => .await (u8 0) (u8 1) (u8 2) (u16 3) (u8 5)
  | _ => .unknown action

/-- The data-start mark (R175). -/
def dataStart : Byte := 0xA5#8

/-- The command bytes that the port sends for a transfer: 03h and the address (R175). -/
def readCommand (address : Nat) : List Byte := 0x03#8 :: bytesOf 3 (address % addressSpace)

end Sys2Proof.Machine
end

