-- ==== Sys2Proof/Decode.lean ====
section
/-! DEFINITION. Reading commands from words. The table of this block gives no row any bits, so a word
of the table spells no command. What does spell a command is a frame on the bay bus, and
`frameCommand` reads it by R17 and R174. -/

namespace Sys2Proof

/-- The command that a word spells by the table's bits: no row has bits. -/
def decodeTableWord (_nbits _w : Nat) : Option Instr := none

/-- Whether chapter 13 allows a payload length for a kind; any length for an unknown kind (R17). -/
def lengthAllowed (kind : Byte) (n : Nat) : Bool :=
  if kind = Machine.kindBeacon then n = 9
  else if kind = Machine.kindCue then n = 5 ∨ n = 6
  else if kind = Machine.kindTalk then n = 2
  else if kind = Machine.kindOrder then 2 ≤ n ∧ n ≤ 8
  else if kind = Machine.kindAnswer then 4 ≤ n ∧ n ≤ 24
  else true

/-- The order that a code names, with its target and operands (13.1). -/
def orderCommand (sender target code : Byte) (ops : List Byte) : Instr :=
  match code.toNat with
  | 1 => .start sender target ops
  | 2 => .stop sender target ops
  | 3 => .stopAll sender target ops
  | 4 => .setFlag sender target ops
  | 5 => .hold sender target ops
  | 6 => .query sender target ops
  | 7 => .clearFaults sender target ops
  | 8 => .restart sender target ops
  | _ => .orderUnknownKind sender target code ops

/-- The command of a frame whose CRC is correct and whose length its kind allows (13.1, R174). -/
def messageCommand (kind sender : Byte) (payload : List Byte) : Instr :=
  let byte := fun i => BitVec.ofNat 8 (Machine.field payload i 1)
  let word := fun i => BitVec.ofNat 32 (Machine.field payload i 4)
  let half := fun i => BitVec.ofNat 16 (Machine.field payload i 2)
  if kind = Machine.kindBeacon then .beacon sender (word 0) (half 4) (half 6) (byte 8)
  else if kind = Machine.kindCue then
    if payload.length = 5 then .cueLongForm sender (byte 0) (word 1)
    else .cueShortForm sender (byte 0) (byte 1) (word 2)
  else if kind = Machine.kindTalk then .talk sender (byte 0) (byte 1)
  else if kind = Machine.kindOrder then orderCommand sender (byte 0) (byte 1) (payload.drop 2)
  else if kind = Machine.kindAnswer then
    .answer sender (byte 0) (byte 1) (byte 2) (byte 3) (payload.drop 4)
  else .frameOfUnknownKind kind sender payload

/-- The command that the bytes of a received frame are: a message by its kind, or a bad frame by
R17. Bytes that stop short are a fragment. -/
def frameCommand (bytes : List Byte) : Instr :=
  match bytes with
  | kind :: sender :: len :: rest =>
    let n := len.toNat
    if 24 < n then .badFrame .tooLong
    else if rest.length < n + 2 then .badFrame .fragment
    else
      let payload := rest.take n
      if Machine.field rest n 2 ≠ (Machine.crc16 (kind :: sender :: len :: payload)).toNat then
        .badFrame .badCrc
      else if lengthAllowed kind n then messageCommand kind sender payload
      else .badFrame .badLength
  | _ => .badFrame .fragment

end Sys2Proof
end

