-- ==== Sys2Proof/Machine/State.lean ====
section
/-! DEFINITION. The state of the DZ44 as plain data, block by block (TABLE I), the queue of waiting
commands, and the state after reset. -/

namespace Sys2Proof.Machine

/-- Why the part stops with a fault: never. Every row of the table has an effect on every state, so
the type has no constructor (safe). -/
inductive Fault where
deriving DecidableEq, Repr

/-- Why a command has no meaning in the model. -/
inductive Refusal where
  /-- Raised by an arm of `exec` whose command has no meaning yet, under its mnemonic (safe). No arm
  of this model raises it. -/
  | notModelled (mnemonic : String)
deriving DecidableEq, Repr

/-! ### Fault list (FLT) -/

/-- Fault kinds in the order of TABLE LXIV; the place is the kind's code on the QUERY pages. -/
inductive FaultKind where
  | configCrc
  | configRange
  | showMemoryTimeout
  | showMemoryFailed
  | sceneRecordBad
  | cueInvalid
  | clipInvalid
  | voiceUnderrun
  | axisLimit
  | homeNotFound
  | axisNotReady
  | motionStarved
  | inputStuck
  | duplicateStation
  | busGiveUp
  | rateDoubt
  | holdLineStuck
  | queueDrop
  | cueLate
  | clockStepped
deriving DecidableEq, Repr

/-- The sorts of a QUEUE_DROP, and `plain` for every other kind (R164, R174). -/
inductive DropSort where
  | plain
  | outbound
  | requestQueue
  | requestExpiry
  | pendingCue
  | clipQueue
  | quietLimit
deriving DecidableEq, Repr

/-- The key of a fault-list entry: its kind with its whole detail (R164). -/
structure FaultKey where
  kind : FaultKind
  sort : DropSort
  number : Nat
deriving DecidableEq, Repr

/-- An entry of the fault list (R164). -/
structure FaultEntry where
  key : FaultKey
  first : ShowTime
  last : ShowTime
  count : Nat
deriving DecidableEq, Repr

structure FaultList where
  /-- Up to 16 entries in order of first occurrence. -/
  entries : List FaultEntry
  overflow : Bool
deriving DecidableEq, Repr

/-! ### Show Clock (SCK) -/

structure Clock where
  /-- The divider chain runs; it is held at the start of a period while clear (R1). -/
  running : Bool
  /-- Second stage of the divider: sample periods ended since the last beat boundary, up to 24 (R1). -/
  samples : Nat
  showTime : ShowTime
  /-- Advance debt, 0 to 1000 ms. -/
  debt : Nat
  /-- Spacing count, 0 to 8 beats. -/
  spacing : Nat
  /-- Frame-start capture. -/
  capture : Option ShowTime
deriving DecidableEq, Repr

/-! ### Bay Bus Interface (BBI) -/

inductive RateState where
  | noRate
  | learning
  | rateSet
deriving DecidableEq, Repr

/-- States of the transmitter (TABLE XII). -/
inductive TxState where
  | off
  | defer
  | wait
  | send
  | jam
deriving DecidableEq, Repr

/-- Blocks that originate queued messages (TABLE IX). -/
inductive Origin where
  | viu
  | sce
  | nre
deriving DecidableEq, Repr

/-- A message of the outbound queue (R21). `claim` numbers the claim that a TALK speaks for, and
`restart` marks the DONE of a RESTART; both let a report of the outcome find its originator. -/
inductive OutMsg where
  | talk (voice : Voice) (clip : Fin 256) (claim : Nat)
  | cueLong (cue : Byte) (startAt : ShowTime)
  | cueShort (target : Fin 32) (scene : Fin 64) (startAt : ShowTime)
  | answer (target : Fin 32) (kind outcome reason : Byte) (data : List Byte) (restart : Bool)
deriving DecidableEq, Repr

/-- An entry of the outbound queue (R21). -/
structure OutEntry where
  id : Nat
  msg : OutMsg
  origin : Origin
  /-- Failed-attempt count. -/
  failed : Nat
deriving DecidableEq, Repr

/-- What an attempt carries: the beacon with its failed-attempt count, or a queue entry by its id. -/
inductive Carried where
  | beacon (failed : Nat)
  | entry (id : Nat)
deriving DecidableEq, Repr

/-- An attempt under way: what it carries, the bytes of its frame, and whether a RESTART has begun
since, so that no report of its outcome is made (R34). -/
structure Attempt where
  what : Carried
  frame : List Byte
  silent : Bool
deriving DecidableEq, Repr

structure Bus where
  rateState : RateState
  rate : Option Rate
  /-- Learning timer in beats (R32). -/
  learnTimer : Nat
  /-- Which of the trial rates 1000, 500, 250 kbit/s is under trial, 0 to 2 (R31). -/
  trial : Fin 3
  /-- Beats of the present trial window (R31). -/
  trialTimer : Nat
  /-- The line is judged idle (R16). -/
  lineIdle : Bool
  /-- A reception is in progress (R16). -/
  receiving : Bool
  tx : TxState
  attempt : Option Attempt
  /-- Outbound queue in order of joining, up to 8 entries. -/
  queue : List OutEntry
  nextId : Nat
  /-- Beacon request: absent, or pending with its failed-attempt count. -/
  request : Option Nat
  deferred : Bool
  /-- The deferred mark was set by an early request raised while a beacon is in flight (R28). -/
  markedInFlight : Bool
  /-- Early spacing: beats left, or not running. -/
  spacing : Option Nat
  /-- Beacon period count, or stopped. -/
  period : Option Nat
  badRun : Nat
deriving DecidableEq, Repr

/-! ### Peer Table (PTB) -/

/-- A peer entry (TABLE XVII). -/
structure Peer where
  station : Fin 32
  /-- FRESH; STALE when clear. -/
  fresh : Bool
  g : Nat
  x : Nat
  talking : Bool
  localHold : Bool
  flags : BitVec 4
  faultPresent : Bool
  age : Nat
  /-- A beat has found the entry FRESH with its age above the stale limit then in force: its expiry is
  due (R39, R41). -/
  expired : Bool
deriving DecidableEq, Repr

/-! ### Visitor Input Unit (VIU) -/

/-- The record of one input (section 4.2). -/
structure InputRec where
  /-- Debounced level: active. -/
  level : Bool
  stability : Nat
  latch : Bool
  presses : Nat
  stuck : Bool
  held : Nat
deriving DecidableEq, Repr

inductive GroupState where
  | idle
  | occupied
  | linger
deriving DecidableEq, Repr

/-- A presence group (R55). -/
structure Group where
  state : GroupState
  timer : Nat
deriving DecidableEq, Repr

structure Viu where
  inputs : Vector InputRec 8
  groups : Vector Group 4
  /-- The first beat in ACTIVE, at which the groups are judged, is still to come (R58). -/
  judgeGroups : Bool
deriving DecidableEq, Repr

/-! ### Scene Engine (SCE) -/

/-- Origins of scene requests (TABLE XXIX). -/
inductive ReqOrigin where
  | button (input : Fin 8)
  | presence (group : Fin 4)
  | cue (station : Fin 32) (long : Bool)
  | order (station : Fin 32)
  | chain (slot : Fin 4)
  | opening
deriving DecidableEq, Repr

/-- Outcomes of a disposition, in the order of the disposition byte (R64, R174). -/
inductive Disposition where
  | ignored
  | restarted
  | merged
  | queued
  | started
  | refused
  | dropped
  | failed
deriving DecidableEq, Repr

/-- Run states in the order of TABLE XXXII. -/
inductive RunState where
  | free
  | loading
  | claiming
  | running
  | waiting
  | ending
  | stopping
deriving DecidableEq, Repr

inductive StopReason where
  | order
  | all
  | preempted
  | restart
  | awaitEnd
  | readFailed
deriving DecidableEq, Repr

/-- A cue of a cue window with its index and offset (R83). -/
structure LoadedCue where
  index : Nat
  offset : Nat
  cue : Cue
deriving DecidableEq, Repr

/-- Await kinds with their operands (TABLE XXXVIII). -/
inductive AwaitKind where
  | peerFlag (station : Fin 32) (flag : Fin 4) (value : Bool)
  | voiceIdle (voice : Voice)
  | axisIdle (axis : Fin 4)
  | presence (group : Fin 4) (occupied : Bool)
deriving DecidableEq, Repr

/-- The await record of a WAITING run (R89). -/
structure Await where
  kind : AwaitKind
  timeout : Nat
  remaining : Nat
  /-- On-timeout choice END; CONTINUE when clear. -/
  onEnd : Bool
  /-- Serial number of the await, by which a report meets only the awaits begun before it. -/
  begun : Nat
deriving DecidableEq, Repr

/-- A successor (R68). `tell` says that its origin is still to be told an outcome (R64). -/
structure Successor where
  scene : Fin 64
  priority : Fin 4
  claims : Claims
  origin : ReqOrigin
  tell : Bool
deriving DecidableEq, Repr

/-- The kinds of scene read (R83). -/
inductive ReadKind where
  | initial
  | refill
  | reload
deriving DecidableEq, Repr

/-- The read in flight for a run: none; one whose data is wanted; or one whose data is to be
discarded, with a reload read that waits for its end (R83). -/
inductive ReadState where
  | none
  | wanted (kind : ReadKind)
  | discard (thenReload : Bool)
deriving DecidableEq, Repr

/-- A run slot (TABLE XXXI). -/
structure Slot where
  state : RunState
  scene : Fin 64
  priority : Fin 4
  claims : Claims
  sceneTime : BitVec 32
  nextCue : Nat
  /-- Unread index (R83). -/
  unread : Nat
  window : List LoadedCue
  await : Option Await
  origin : ReqOrigin
  startTime : ShowTime
  stopReason : Option StopReason
  successor : Option Successor
  /-- The initial read has completed with a good header (R72, R73). -/
  loaded : Bool
  /-- The origin is still to be told STARTED or FAILED (R64). -/
  tell : Bool
  read : ReadState
  /-- Serial number of the run, by which a read finds the run that asked for it. -/
  run : Nat
  /-- The instant at which the run left FREE (R68). -/
  leftFree : Nat
deriving DecidableEq, Repr

/-- A slot in FREE with every field cleared (R80). A cleared origin is OPENING, the model's choice: the
spec gives no empty origin (log entry 12). -/
def Slot.clear : Slot :=
  { state := .free, scene := 0, priority := 0, claims := 0#6, sceneTime := 0#32, nextCue := 0,
    unread := 0, window := [], await := none, origin := .opening, startTime := 0#32,
    stopReason := none, successor := none, loaded := false, tell := false, read := .none, run := 0,
    leftFree := 0 }

/-- An entry of the request queue (R69). -/
structure Request where
  scene : Fin 64
  priority : Fin 4
  origin : ReqOrigin
  /-- Join instant in beats. -/
  joined : Nat
  patience : Nat
deriving DecidableEq, Repr

/-- Order kinds in the order of TABLE XL; the code is the place plus one (chapter 13). -/
inductive OrderKind where
  | start
  | stop
  | stopAll
  | setFlag
  | hold
  | query
  | clearFaults
  | restart
deriving DecidableEq, Repr

/-- A PENDING order latch (R98). -/
structure Latch where
  kind : OrderKind
  operands : List Byte
  sender : Fin 32
deriving DecidableEq, Repr

structure Sce where
  slots : Vector Slot 4
  /-- Claim table: axes 0 to 3 at places 0 to 3, voice A at 4, voice B at 5 (R78). -/
  claims : Vector (Option (Fin 4)) 6
  /-- Request queue in service order, up to 8 entries. -/
  queue : List Request
  /-- Bay flags 0 to 3. -/
  flags : BitVec 4
  /-- Order latch: EMPTY, or PENDING with its order. -/
  latch : Option Latch
  nextRun : Nat
  nextAwait : Nat
deriving DecidableEq, Repr

/-! ### Cue Scheduler (CSC) -/

/-- An entry of the pending cue list (R94). -/
structure PendingCue where
  scene : Fin 64
  startAt : ShowTime
  station : Fin 32
  long : Bool
deriving DecidableEq, Repr

/-! ### Lighting Engine (LTE) -/

/-- A channel's course: mode with the table and records present in it (TABLE XLIV). -/
inductive Course where
  | fade (s0 target p d : Nat)
  | cycle (table : Fin 4)
  | blend (table : Fin 4) (c p d : Nat)
deriving DecidableEq, Repr

inductive RampDir where
  | none
  | towardHold
  | towardLive
deriving DecidableEq, Repr

/-- A lighting channel (TABLE XLIV). -/
structure Channel where
  course : Course
  /-- Base value v. -/
  v : Nat
  /-- The cycle value computed at the last frame for the present course, if any (R108). -/
  cyc : Option Nat
  latched : Option Nat
  q : Nat
  dir : RampDir
  walk : Nat
  intent : Nat
  level : Nat
  output : Nat
deriving DecidableEq, Repr

structure Lte where
  channels : Vector Channel 16
  /-- Width driven on PWM0 to PWM15 in the present PWM period (R104). -/
  pwm : Vector Nat 16
deriving DecidableEq, Repr

/-! ### Load Governor (LGV) -/

/-- A record of the reservation ledger (R125). -/
structure Reservation where
  axis : Fin 4
  amount : Nat
deriving DecidableEq, Repr

structure Lgv where
  allowance : Nat
  ledger : List Reservation
  /-- Admission line in order of joining. -/
  line : List (Fin 4)
  /-- Exempt demand E of the last frame. -/
  exempt : Nat
  /-- Non-exempt demand D of the last frame. -/
  demand : Nat
  scale : Nat
  /-- Non-exempt load L of the last frame. -/
  lamps : Nat
  /-- Granted load G as last composed: at a frame's end, a beacon's start marker, a QUERY summary page or a
  recompute (R122). -/
  granted : Nat
deriving DecidableEq, Repr

/-! ### Narration Engine (NRE) -/

/-- Voice states in the order of TABLE LIV. -/
inductive VoiceState where
  | idle
  | waitQuiet
  | claiming
  | priming
  | playing
  | paused
  | tailing
deriving DecidableEq, Repr

inductive AirMark where
  | none
  | granted
  | courtesy
deriving DecidableEq, Repr

/-- A clip held as the current clip or in the next context, with its context (TABLE LIII). -/
structure Held where
  clip : Fin 256
  owner : Fin 4
  air : AirMark
  fetch : Nat
  toFetch : Nat
  toPlay : Nat
deriving DecidableEq, Repr

/-- An entry of a clip queue. -/
structure Queued where
  clip : Fin 256
  owner : Fin 4
  /-- Mode CUT; QUEUE when clear. -/
  cut : Bool
deriving DecidableEq, Repr

inductive Burst where
  | none
  | outstanding
  | discard
deriving DecidableEq, Repr

/-- A voice (TABLE LIII). -/
structure VoiceRec where
  state : VoiceState
  /-- The 2048-place ring: pairs of place and sample, places strictly rising, none of sample 0. -/
  ring : List (Nat × Sample)
  write : Nat
  read : Nat
  fill : Nat
  current : Option Held
  next : Option Held
  /-- Boundary list: none, or one ring position. -/
  boundary : Option Nat
  queue : List Queued
  burst : Burst
  /-- The outstanding burst was taken from the next context (R137). -/
  burstNext : Bool
  ramp : Nat
  goal : Nat
  /-- Tail end PAUSE; STOP when clear. -/
  tailPause : Bool
  tailCount : Nat
  quiet : Nat
  retry : Option Nat
  claim : Option Nat
  /-- Number of the present claim, carried by its TALK (R134). -/
  claimId : Nat
  underrun : Bool
  /-- Output sample s of the present sample period (R143). -/
  sample : Sample
deriving DecidableEq, Repr

/-- A voice after power-on reset (R146). -/
def VoiceRec.clear : VoiceRec :=
  { state := .idle, ring := [], write := 0, read := 0, fill := 0, current := none, next := none,
    boundary := none, queue := [], burst := .none, burstNext := false, ramp := 0, goal := 0,
    tailPause := false, tailCount := 0, quiet := 0, retry := none, claim := none, claimId := 0,
    underrun := false, sample := 0#16 }

structure Nre where
  a : VoiceRec
  b : VoiceRec
  /-- Voice B's duck value. -/
  duck : Nat
  talking : Bool
  /-- The sample that both channels of the serial audio out carry (R143). -/
  audio : Sample
deriving DecidableEq, Repr

/-! ### Motion Engine (MTE) -/

/-- Axis states in the order of TABLE LIX. -/
inductive AxisState where
  | unhomed
  | homing
  | idle
  | waitPower
  | moving
  | stopping
  | held
  | fault
deriving DecidableEq, Repr

/-- A move: MOVE with its target in steps and its profile, or HOME. -/
inductive Move where
  | move (target : Int) (profile : Fin 4)
  | home
deriving DecidableEq, Repr

inductive StopKind where
  | holdGuard
  | abort
deriving DecidableEq, Repr

/-- An axis (TABLE LVIII). -/
structure Axis where
  state : AxisState
  /-- Position p in 1/256 step. -/
  p : Int
  /-- Velocity v in 1/256 step per beat. -/
  v : Nat
  /-- Direction PLUS; MINUS when clear. Driven on AXnDIR. -/
  plus : Bool
  move : Option Move
  stopKind : Option StopKind
  homed : Bool
  waitTimer : Nat
  guardTimer : Nat
  guardClear : Bool
  showHold : Bool
  /-- Pulses issued on AXnSTEP within the last beat (R148). -/
  pulses : Nat
  /-- The driver enable AXnEN is active (R148, TABLE LXI). -/
  enable : Bool
deriving DecidableEq, Repr

/-- An axis after power-on reset (R159). -/
def Axis.clear : Axis :=
  { state := .unhomed, p := 0, v := 0, plus := false, move := none, stopKind := none,
    homed := false, waitTimer := 0, guardTimer := 0, guardClear := false, showHold := false,
    pulses := 0, enable := false }

/-! ### Hold Logic (HLD) -/

structure Hld where
  orderHold : Bool
  /-- Local hold is active; HOLDL is driven low while it is (R160). -/
  localHold : Bool
  inEffect : Bool
  /-- HOLDL was low at its last sample where hold is judged. -/
  lineLow : Bool
  /-- Release timer, or stopped. -/
  release : Option Nat
  /-- At the last sample the release timer reached the delay then in force: the end of hold is due (R161). -/
  releaseDue : Bool
  stuck : Nat
  /-- The present stuck episode has been reported (R163). -/
  stuckReported : Bool
deriving DecidableEq, Repr

/-! ### Show Memory Port (SMP) and Start-up Loader (SUL) -/

/-- Who asks for a transfer. -/
inductive Requester where
  | loader
  | voice (v : Voice)
  | scene (slot : Fin 4) (run : Nat) (kind : ReadKind)
deriving DecidableEq, Repr

/-- A request for a transfer, with the instant it was made at (R167). -/
structure Transfer where
  who : Requester
  address : Nat
  count : Nat
  instant : Nat
deriving DecidableEq, Repr

inductive PortState where
  | ready
  /-- A transfer in progress, and whether it is the retry after a timeout (R168). -/
  | busy (t : Transfer) (retried : Bool)
  | failed
deriving DecidableEq, Repr

structure Port where
  state : PortState
  /-- Requests waiting, in the order they were made. -/
  waiting : List Transfer
  /-- The bytes last sent on SMOUT: the read command and the address of a transfer (R175). -/
  sent : List Byte
  /-- The beats counted since the address of the transfer in progress was sent; it stops past 2 (R168; log
  entry 47). -/
  timer : Nat
deriving DecidableEq, Repr

/-- Station states in the order of TABLE LXVI. -/
inductive Station where
  | reset
  | loading
  | learning
  | joining
  | active
  | configFault
deriving DecidableEq, Repr

/-- How far the load has come (R169). -/
inductive LoadPhase where
  | idle
  /-- A RESTART waits until every slot is FREE (R172). -/
  | awaitSlots
  | header
  /-- The body is read; the CRC the header carries. -/
  | body (crc : BitVec 16)
  /-- The clip directory is read; the settings found good. -/
  | clips (staged : Config)
  /-- The scene directory is read. -/
  | scenes (staged : Config)
deriving DecidableEq, Repr

structure Sul where
  station : Station
  number : Fin 32
  /-- A RESTART has begun and the station has not yet left LOADING. -/
  restarting : Bool
  phase : LoadPhase
  /-- Beats of the JOINING interval. -/
  joinTimer : Nat
deriving DecidableEq, Repr

/-! ### Signals between blocks -/

/-- What one block tells another at an instant, not yet taken. The agenda of signals is empty between
commands (log entry 5). -/
inductive Signal where
  /-- A service event of the request queue (R71). -/
  | serve
  /-- An examination event of the admission line (R124). -/
  | examine
  /-- The run's cues are to be executed as far as they are due (R84). -/
  | runCues (slot : Fin 4)
  /-- The refill conditions are to be tested (R83). -/
  | refillCues (slot : Fin 4)
  /-- The slot is tested for the end of LOADING, CLAIMING, ENDING or STOPPING. -/
  | slotTest (slot : Fin 4)
  /-- A voice reports idle (R131), with the number of awaits begun by then. -/
  | voiceIdle (v : Voice) (before : Nat)
  /-- A drained event of a voice (R132). -/
  | drained (v : Voice)
  /-- A state report of an axis, with whether the axis was then idle with no move pending (R158), and the
  number of awaits begun by then. -/
  | axisReport (axis : Fin 4) (idle : Bool) (before : Nat)
  /-- A scene request is made (R64). -/
  | request (scene : Fin 64) (origin : ReqOrigin)
  /-- A peer entry is presented to its readers (R38, R39, R41). -/
  | peerSeen (station : Fin 32)
  /-- A presence group has changed state (R57). -/
  | groupChanged (group : Fin 4)
  /-- A scene read of a run has failed (R168). -/
  | readFailed (slot : Fin 4) (run : Nat) (kind : ReadKind)
  /-- A burst of a voice has failed (R139). -/
  | burstFailed (v : Voice)
  /-- A transfer of the load has failed (R169). -/
  | loadFailed
  /-- The order latch is tested for the end of a STOP or STOP_ALL (R77). -/
  | latchTest
  /-- The end of the runs is tested for a RESTART (R81). -/
  | restartTest
  /-- A RESTART begins (R172). -/
  | restartBegin
  /-- A long-form CUE this station has sent is handed to its own Cue Scheduler (R26). -/
  | ownCue (cue : Byte) (startAt : ShowTime)
deriving DecidableEq, Repr

/-! ### The machine -/

/-- The whole part. `agenda`, `beats` and `instant` are the model's own (log entries 5 and 6). -/
structure State where
  clk : Clock
  bus : Bus
  /-- Peer entries in ascending order of station number, up to 31 (R35). -/
  ptb : List Peer
  viu : Viu
  sce : Sce
  /-- Pending cue list, up to 8 entries in ascending order of lead (R94). -/
  csc : List PendingCue
  lte : Lte
  lgv : Lgv
  nre : Nre
  mte : Vector Axis 4
  hld : Hld
  flt : FaultList
  smp : Port
  sul : Sul
  /-- The configuration in force: none before the first accepted image, in CONFIG_FAULT, and in a
  RESTART begun there until its image is accepted. -/
  cfg : Option Config
  /-- Input pins as the last beat found them. -/
  pins : Pins
  /-- Beats since the release of reset. -/
  beats : Nat
  /-- Number of the present instant: commands with an effect since reset. -/
  instant : Nat
  /-- Signals not yet taken. -/
  agenda : List Signal
  /-- Commands waiting, first in first out. -/
  pending : List Instr
deriving DecidableEq, Repr

/-- An input record after reset (TABLE XXV). -/
def InputRec.clear : InputRec :=
  { level := false, stability := 0, latch := false, presses := 0, stuck := false, held := 0 }

/-- A channel after reset (R114). -/
def Channel.clear : Channel :=
  { course := .fade 0 0 0 0, v := 0, cyc := none, latched := none, q := 0, dir := .none, walk := 0,
    intent := 0, level := 0, output := 0 }

/-- The Show Clock while reset is applied (TABLE V). -/
def Clock.clear : Clock :=
  { running := false, samples := 0, showTime := 0#32, debt := 0, spacing := 0, capture := none }

/-- The Bay Bus Interface while reset is applied (TABLE XIV). -/
def Bus.clear : Bus :=
  { rateState := .noRate, rate := none, learnTimer := 0, trial := 0, trialTimer := 0,
    lineIdle := false, receiving := false, tx := .off, attempt := none, queue := [], nextId := 0,
    request := none, deferred := false, markedInFlight := false, spacing := none, period := none,
    badRun := 0 }

/-- The Load Governor while reset is applied (R127). -/
def Lgv.clear : Lgv :=
  { allowance := 0, ledger := [], line := [], exempt := 0, demand := 0, scale := 4096, lamps := 0,
    granted := 0 }

/-- The Visitor Input Unit while reset is applied (TABLE XXV). -/
def Viu.clear : Viu :=
  { inputs := Vector.replicate 8 InputRec.clear
    groups := Vector.replicate 4 { state := .idle, timer := 0 }
    judgeGroups := false }

/-- The Scene Engine while reset is applied (TABLE XXXIII, R91, R101). -/
def Sce.clear : Sce :=
  { slots := Vector.replicate 4 Slot.clear, claims := Vector.replicate 6 none, queue := [],
    flags := 0#4, latch := none, nextRun := 0, nextAwait := 0 }

/-- The Hold Logic while reset is applied (R160, R161, R163). -/
def Hld.clear : Hld :=
  { orderHold := false, localHold := false, inEffect := false, lineLow := false, release := none,
    releaseDue := false, stuck := 0, stuckReported := false }

/-- The machine while power-on reset or pin reset is applied: station state RESET, every block at the
values its chapter gives for that reset, no command waiting. -/
def State.reset : State :=
  { clk := Clock.clear
    bus := Bus.clear
    ptb := []
    viu := Viu.clear
    sce := Sce.clear
    csc := []
    lte := { channels := Vector.replicate 16 Channel.clear, pwm := Vector.replicate 16 0 }
    lgv := Lgv.clear
    nre := { a := VoiceRec.clear, b := VoiceRec.clear, duck := 256, talking := false, audio := 0#16 }
    mte := Vector.replicate 4 Axis.clear
    hld := Hld.clear
    flt := { entries := [], overflow := false }
    smp := { state := .ready, waiting := [], sent := [], timer := 0 }
    sul := { station := .reset, number := 0, restarting := false, phase := .idle, joinTimer := 0 }
    cfg := none
    pins := Pins.rest
    beats := 0
    instant := 0
    agenda := []
    pending := [] }

end Sys2Proof.Machine
end

