-- ==== Sys2Proof/Machine/Ops.lean ====
section
/-! DEFINITION. The named operations over the state that every block shares: reading and writing a slot,
an axis, a voice, a channel; the ring of a voice; the tests on show time; posting signals. -/

namespace Sys2Proof.Machine

/-! ### Show time -/

/-- Half the range of show time. -/
def halfRange : Nat := 2147483648

/-- A show time T is reached when (now - T) mod 2^32 is below 2^31 (R4). -/
def reached (now t : ShowTime) : Bool := (now - t).toNat < halfRange

/-- How far ahead of now a show time that is not reached lies (R4). -/
def ahead (now t : ShowTime) : Nat := (t - now).toNat

/-- The lead of a start-at: how far ahead it lies, and none once it is reached (R94). -/
def lead (now t : ShowTime) : Nat := if reached now t then 0 else ahead now t

/-- Sample periods in a beat (R1). -/
def samplesPerBeat : Nat := 24

/-! ### Writing one block of the state -/

def State.onClk (s : State) (f : Clock → Clock) : State := { s with clk := f s.clk }
def State.onBus (s : State) (f : Bus → Bus) : State := { s with bus := f s.bus }
def State.onViu (s : State) (f : Viu → Viu) : State := { s with viu := f s.viu }
def State.onSce (s : State) (f : Sce → Sce) : State := { s with sce := f s.sce }
def State.onLte (s : State) (f : Lte → Lte) : State := { s with lte := f s.lte }
def State.onLgv (s : State) (f : Lgv → Lgv) : State := { s with lgv := f s.lgv }
def State.onNre (s : State) (f : Nre → Nre) : State := { s with nre := f s.nre }
def State.onMte (s : State) (f : Axis → Axis) : State := { s with mte := vmap f s.mte }
def State.onHld (s : State) (f : Hld → Hld) : State := { s with hld := f s.hld }
def State.onSmp (s : State) (f : Port → Port) : State := { s with smp := f s.smp }
def State.onSul (s : State) (f : Sul → Sul) : State := { s with sul := f s.sul }

/-- The run slot `i`. -/
def State.slot (s : State) (i : Fin 4) : Slot := s.sce.slots[i]

/-- Write the run slot `i`. -/
def State.setSlot (s : State) (i : Fin 4) (x : Slot) : State :=
  s.onSce fun e => { e with slots := e.slots.set i x }

/-- Change the run slot `i`. -/
def State.onSlot (s : State) (i : Fin 4) (f : Slot → Slot) : State := s.setSlot i (f (s.slot i))

/-- The axis `a`. -/
def State.axis (s : State) (a : Fin 4) : Axis := s.mte[a]

/-- Write the axis `a`. -/
def State.setAxis (s : State) (a : Fin 4) (x : Axis) : State := { s with mte := s.mte.set a x }

/-- Change the axis `a`. -/
def State.onAxis (s : State) (a : Fin 4) (f : Axis → Axis) : State := s.setAxis a (f (s.axis a))

/-- The voice `v`. -/
def State.voice (s : State) (v : Voice) : VoiceRec :=
  match v with
  | .a => s.nre.a
  | .b => s.nre.b

/-- Write the voice `v`. -/
def State.setVoice (s : State) (v : Voice) (x : VoiceRec) : State :=
  match v with
  | .a => s.onNre fun n => { n with a := x }
  | .b => s.onNre fun n => { n with b := x }

/-- Change the voice `v`. -/
def State.onVoice (s : State) (v : Voice) (f : VoiceRec → VoiceRec) : State :=
  s.setVoice v (f (s.voice v))

/-- The lighting channel `c`. -/
def State.channel (s : State) (c : Fin 16) : Channel := s.lte.channels[c]

/-- Write the lighting channel `c`. -/
def State.setChannel (s : State) (c : Fin 16) (x : Channel) : State :=
  s.onLte fun l => { l with channels := l.channels.set c x }

/-- Change the lighting channel `c`. -/
def State.onChannel (s : State) (c : Fin 16) (f : Channel → Channel) : State :=
  s.setChannel c (f (s.channel c))

/-- Change the record of input `i`. -/
def State.onInput (s : State) (i : Fin 8) (f : InputRec → InputRec) : State :=
  s.onViu fun u => { u with inputs := u.inputs.set i (f u.inputs[i]) }

/-- Change the presence group `g`. -/
def State.onGroup (s : State) (g : Fin 4) (f : Group → Group) : State :=
  s.onViu fun u => { u with groups := u.groups.set g (f u.groups[g]) }

/-- Put signals before those that wait, to be taken in their order. -/
def State.post (s : State) (signals : List Signal) : State :=
  { s with agenda := signals ++ s.agenda }

/-- Do `f` for each member of a list in turn. -/
def forEach {α : Type} (xs : List α) (f : α → State → State) (s : State) : State :=
  xs.foldl (fun s x => f x s) s

def allSlots : List (Fin 4) := [0, 1, 2, 3]
def allAxes : List (Fin 4) := [0, 1, 2, 3]
def allGroups : List (Fin 4) := [0, 1, 2, 3]
def allInputs : List (Fin 8) := [0, 1, 2, 3, 4, 5, 6, 7]
def allChannels : List (Fin 16) := [0, 1, 2, 3, 4, 5, 6, 7, 8, 9, 10, 11, 12, 13, 14, 15]
def allVoices : List Voice := [.a, .b]

/-! ### Reading the configuration in force -/

/-- The blocks run under accepted settings: in LEARNING, JOINING and ACTIVE, and in the LOADING of a
RESTART begun outside CONFIG_FAULT (R50, R103, R148, R161, R172). -/
def State.configured (s : State) : Bool := s.cfg.isSome

/-- Hold is in effect for this station. -/
def State.held (s : State) : Bool := s.hld.inEffect

/-- The scene directory entry of a scene: none when it is absent (R63). -/
def State.sceneEntry (s : State) (n : Fin 64) : Option SceneEntry :=
  match s.cfg with
  | none => none
  | some c =>
    match c.scenes[n.val]? with
    | some e => if e.present then some e else none
    | none => none

/-- The clip directory entry of a clip: none when it is absent (R129). -/
def State.clipEntry (s : State) (n : Fin 256) : Option ClipEntry :=
  match s.cfg with
  | none => none
  | some c =>
    match c.clips[n.val]? with
    | some e => if e.present then some e else none
    | none => none

/-- The cue count of a slot's scene. -/
def State.cueCount (s : State) (i : Fin 4) : Nat :=
  match s.sceneEntry (s.slot i).scene with
  | some e => e.cueCount
  | none => 0

/-- The stale limit in force: 1000 in CONFIG_FAULT (R41). -/
def State.staleLimit (s : State) : Nat :=
  match s.cfg with
  | some c => c.staleLimit
  | none => 1000

/-- The feeder group in force: empty without a configuration (R41). -/
def State.feeder (s : State) : StationSet :=
  match s.cfg with
  | some c => c.feeder
  | none => 0#32

/-- The clock group in force: empty without a configuration (R6). -/
def State.clockGroup (s : State) : StationSet :=
  match s.cfg with
  | some c => c.clockGroup
  | none => 0#32

/-- The earshot set in force: empty without a configuration (R129). -/
def State.earshot (s : State) : StationSet :=
  match s.cfg with
  | some c => c.earshot
  | none => 0#32

/-- The order set in force: every station without a configuration (R97). -/
def State.orderSet (s : State) : StationSet :=
  match s.cfg with
  | some c => c.orderSet
  | none => BitVec.allOnes 32

/-- The beacon period in force: 250 in CONFIG_FAULT (R27). -/
def State.beaconPeriod (s : State) : Nat :=
  match s.cfg with
  | some c => c.beaconPeriod
  | none => 250

/-- The early spacing in force: 20 in CONFIG_FAULT (R28). -/
def State.earlySpacing (s : State) : Nat :=
  match s.cfg with
  | some c => c.earlySpacing
  | none => 20

/-- The claim window in force. -/
def State.claimWindow (s : State) : Nat :=
  match s.cfg with
  | some c => c.claimWindow
  | none => 0

/-- The settings of axis `a` in force. -/
def State.axisCfg (s : State) (a : Fin 4) : Option AxisCfg := s.cfg.map fun c => c.axes[a]

/-- The settings of input `i` in force. -/
def State.inputCfg (s : State) (i : Fin 8) : Option InputCfg := s.cfg.map fun c => c.inputs[i]

/-- The kind an input is treated as: UNUSED without a configuration (R48). -/
def State.inputKind (s : State) (i : Fin 8) : InputKind :=
  match s.inputCfg i with
  | some c => c.kind
  | none => .unused

/-- The peer entry of a station. -/
def State.peer (s : State) (n : Nat) : Option Peer := s.ptb.find? fun e => e.station.val = n

/-! ### The ring of a voice (R137, R140)

The ring has 2048 places. It is held as pairs of place and sample in one canonical form: places
strictly rising, no pair with sample 0. A place not listed reads as 0. -/

def ringSize : Nat := 2048

/-- The sample at a place of a ring. -/
def ringGet : List (Nat × Sample) → Nat → Sample
  | [], _ => 0#16
  | (k, x) :: rest, place =>
    if place < k then 0#16 else if place = k then x else ringGet rest place

/-- Put a sample at a place before all that is listed, unless it is 0. -/
def ringCons (place : Nat) (x : Sample) (rest : List (Nat × Sample)) : List (Nat × Sample) :=
  if x = 0#16 then rest else (place, x) :: rest

/-- Write a sample at a place of a ring, keeping the canonical form. -/
def ringSet : List (Nat × Sample) → Nat → Sample → List (Nat × Sample)
  | [], place, x => ringCons place x []
  | (k, y) :: rest, place, x =>
    if place < k then ringCons place x ((k, y) :: rest)
    else if place = k then ringCons place x rest
    else (k, y) :: ringSet rest place x

/-- Write samples from a place onward, wrapping from 2047 to 0 (R137). -/
def ringWrite : List (Nat × Sample) → Nat → List Sample → List (Nat × Sample)
  | ring, _, [] => ring
  | ring, place, x :: xs => ringWrite (ringSet ring (place % ringSize) x) (place + 1) xs

/-- All places of a ring from `low` on are listed in rising order, below 2048, with samples not 0. -/
def ringWfFrom : Nat → List (Nat × Sample) → Bool
  | _, [] => true
  | low, (k, x) :: rest => low ≤ k && k < ringSize && x ≠ 0#16 && ringWfFrom (k + 1) rest

/-- The canonical form of a ring. -/
def ringWf (ring : List (Nat × Sample)) : Bool := ringWfFrom 0 ring

/-! ### Claims -/

/-- The claim-table place of a voice. -/
def voicePlace : Voice → Fin 6
  | .a => 4
  | .b => 5

/-- The claim-table place of an axis. -/
def axisPlace (a : Fin 4) : Fin 6 := ⟨a.val, by omega⟩

/-- The members of a claim set, axes first. -/
def placesOf (c : Claims) : List (Fin 6) :=
  [(0 : Fin 6), 1, 2, 3, 4, 5].filter fun r => c.getLsbD r.val

/-- Write a place of the claim table. -/
def State.setClaim (s : State) (r : Fin 6) (x : Option (Fin 4)) : State :=
  s.onSce fun e => { e with claims := e.claims.set r x }

end Sys2Proof.Machine
end

