-- ==== Sys2Proof/Machine/Requests.lean ====
section
/-! DEFINITION. What every block may ask of another: a beacon request (R27 to R29), a fault report
(R164), a place in the outbound queue (R21), a transfer of the show memory port (R166, R167). -/

namespace Sys2Proof.Machine

/-! ### Beacon requests -/

/-- A beacon is in flight, and its outcome is to be reported. One that a RESTART outlived has lost its request
(R34), so that early requests do not wait for it (log entry 17). -/
def Bus.beaconInFlight (b : Bus) : Bool :=
  match b.attempt with
  | some { what := .beacon _, silent := false, .. } => true
  | _ => false

/-- A request becomes pending, or merges into the pending one (R27, R29). -/
def Bus.raise (b : Bus) : Bus :=
  match b.request with
  | some _ => b
  | none => { b with request := some 0 }

/-- A regular request: it does not wait for the early spacing, and it clears a deferred mark (R27). -/
def Bus.raiseRegular (b : Bus) : Bus := { b.raise with deferred := false, markedInFlight := false }

/-- An early request (R28). -/
def Bus.raiseEarly (b : Bus) : Bus :=
  if b.beaconInFlight then { b with deferred := true, markedInFlight := true }
  else if b.spacing.isSome then { b with deferred := true }
  else b.raise

def State.earlyRequest (s : State) : State := s.onBus Bus.raiseEarly

def State.regularRequest (s : State) : State := s.onBus Bus.raiseRegular

/-! ### Fault reports -/

/-- The entry of the fault list after one more report of its key at show time `now` (R164). -/
def FaultEntry.again (e : FaultEntry) (now : ShowTime) : FaultEntry :=
  { e with last := now, count := min (e.count + 1) 255 }

/-- The fault list after a report of `key` at show time `now` (R164). -/
def FaultList.report (l : FaultList) (key : FaultKey) (now : ShowTime) : FaultList :=
  if l.entries.any (fun e => e.key = key) then
    { l with entries := l.entries.map fun e => if e.key = key then e.again now else e }
  else if l.entries.length < 16 then
    { l with entries := l.entries ++ [{ key := key, first := now, last := now, count := 1 }] }
  else { l with overflow := true }

/-- A block reports a fault or notice; the first entry of an empty list raises an early request
(R164). -/
def State.report (s : State) (kind : FaultKind) (number : Nat) (sort : DropSort := .plain) : State :=
  let s' := { s with flt := s.flt.report { kind := kind, sort := sort, number := number } s.clk.showTime }
  if s.flt.entries.isEmpty then s'.earlyRequest else s'

/-! ### The outbound queue -/

/-- The detail of an outbound QUEUE_DROP or of a BUS_GIVE_UP: the target of a short-form CUE or an
ANSWER, this station's own number otherwise (R21, R25). -/
def OutMsg.detail (own : Nat) : OutMsg → Nat
  | .cueShort target _ _ => target.val
  | .answer target _ _ _ _ _ => target.val
  | .talk _ _ _ => own
  | .cueLong _ _ => own

/-- Whether the outbound queue has room (R21). -/
def State.outboundRoom (s : State) : Bool := s.bus.queue.length < 8

/-- Place a message at the back of the outbound queue (R21). -/
def Bus.place (b : Bus) (msg : OutMsg) (origin : Origin) : Bus :=
  { b with
    queue := b.queue ++ [{ id := b.nextId, msg := msg, origin := origin, failed := 0 }]
    nextId := b.nextId + 1 }

/-- A request to queue a message. A full queue refuses a TALK without a fault, and drops a CUE or an
ANSWER with QUEUE_DROP (R21). -/
def State.enqueue (s : State) (msg : OutMsg) (origin : Origin) : State :=
  if s.outboundRoom then s.onBus (·.place msg origin)
  else
    match msg with
    | .talk _ _ _ => s
    | m => s.report .queueDrop (m.detail s.sul.number.val) .outbound

/-! ### The show memory port -/


/-- The order within a class: the voice of lower fill, voice A when equal; the scene read requested
earliest, the lowest slot among those of one instant (R167). -/
def State.portKey (s : State) (t : Transfer) : Nat × Nat × Nat :=
  match t.who with
  | .loader => (0, 0, 0)
  | .voice .a => (1, s.nre.a.fill, 0)
  | .voice .b => (1, s.nre.b.fill, 1)
  | .scene i _ _ => (2, t.instant, i.val)

/-- Strict order of arbitration keys. -/
def keyLt (x y : Nat × Nat × Nat) : Bool :=
  x.1 < y.1 || (x.1 = y.1 && (x.2.1 < y.2.1 || (x.2.1 = y.2.1 && x.2.2 < y.2.2)))

/-- The request the arbiter chooses: the first of least key (R167). -/
def State.choice (s : State) : List Transfer → Option Transfer
  | [] => none
  | t :: rest =>
    match s.choice rest with
    | none => some t
    | some u => if keyLt (s.portKey u) (s.portKey t) then some u else some t

/-- In READY with requests waiting the arbiter chooses one and the port enters BUSY, sending the read command
and the address (R166, R167, R175). -/
def State.arbitrate (s : State) : State :=
  match s.smp.state with
  | .ready =>
    match s.choice s.smp.waiting with
    | none => s
    | some t =>
      s.onSmp fun p =>
        { state := .busy t false, waiting := p.waiting.erase t, sent := readCommand t.address
          timer := 0 }
  | _ => s

/-- What a failed transfer tells its requester (R168). -/
def Transfer.failure (t : Transfer) : Signal :=
  match t.who with
  | .loader => .loadFailed
  | .voice v => .burstFailed v
  | .scene i run kind => .readFailed i run kind

/-- A request for a transfer: it fails at once in FAILED, else it waits for the arbiter (R166). -/
def State.askPort (s : State) (who : Requester) (address count : Nat) : State :=
  let t : Transfer := { who := who, address := address, count := count, instant := s.instant }
  match s.smp.state with
  | .failed => s.post [t.failure]
  | _ => (s.onSmp fun p => { p with waiting := p.waiting ++ [t] }).arbitrate

/-- The transfer in progress ends and the port is READY; the arbiter is not yet asked, so that the
requester takes the outcome first (R166). -/
def State.portReady (s : State) : State := s.onSmp fun p => { p with state := .ready, timer := 0 }

/-- The port's count at a beat: while a transfer is in progress, the beats since its address was sent (R168).
-/
def Port.beat (p : Port) : Port :=
  match p.state with
  | .busy _ _ => { p with timer := min (p.timer + 1) 3 }
  | _ => p

end Sys2Proof.Machine
end

