-- ==== Sys2Proof/Machine/Clock.lean ====
section
/-! DEFINITION. The Show Clock (chapter 1): the clock's work at a beat, the offset of a beacon, slewing and
stepping, and the entries of the pending cue list that a change of show time reaches. -/

namespace Sys2Proof.Machine

/-- The second stage has counted the sample periods of a beat, and the beat completes with the last of them
(R1). -/
def Clock.beatDue (c : Clock) : Bool := c.running && samplesPerBeat ≤ c.samples

/-- A sample period of the present beat is still to end (R1). -/
def Clock.sampleDue (c : Clock) : Bool := c.running && c.samples < samplesPerBeat

/-- The beat at hand is a slew beat: the debt is above 0 and the spacing count reaches 8 (R10). -/
def Clock.slewDue (c : Clock) : Bool := 0 < c.debt && 8 ≤ c.spacing + 1

/-- The clock's work at a beat (R10). -/
def Clock.beat (c : Clock) : Clock :=
  if c.debt = 0 then { c with showTime := c.showTime + 1#32 }
  else if c.slewDue then
    { c with showTime := c.showTime + 2#32, debt := c.debt - 1, spacing := 0 }
  else { c with showTime := c.showTime + 1#32, spacing := c.spacing + 1 }

/-- The offset of a stamp against a capture, read as signed (R8). -/
def offsetOf (stamp capture : ShowTime) : Int := (stamp - capture).toInt

/-- A step of show time by d: the debt and the spacing count return to 0 (R11). -/
def Clock.step (c : Clock) (d : Int) : Clock :=
  { c with showTime := c.showTime + BitVec.ofInt 32 d, debt := 0, spacing := 0 }

/-- A small offset raises the debt to the larger of the two (R9). -/
def Clock.slew (c : Clock) (d : Int) : Clock := { c with debt := max c.debt d.toNat }

/-- The requests that a change of show time brings: the head entries of the pending cue list that are
reached leave it, each as a request with origin CUE, in list order (R96). -/
def State.takePendingCues (s : State) : State :=
  let due := s.csc.takeWhile fun e => reached s.clk.showTime e.startAt
  ({ s with csc := s.csc.dropWhile fun e => reached s.clk.showTime e.startAt }).post
    (due.map fun (e : PendingCue) => Signal.request e.scene (.cue e.station e.long))

/-- Some entry at the head of the pending cue list is reached (R96). -/
def State.pendingDue (s : State) : Bool :=
  match s.csc with
  | [] => false
  | e :: _ => reached s.clk.showTime e.startAt

/-- What the Show Clock does with an accepted beacon (R8, R9, R11): nothing for a sender outside the
clock group in force, for an offset not above 0, or without a capture. -/
def State.discipline (s : State) (sender : Fin 32) (stamp : ShowTime) : State :=
  match s.cfg, s.clk.capture with
  | some c, some capture =>
    if inSet c.clockGroup sender.val then
      let d := offsetOf stamp capture
      if d ≤ 0 then s
      else if d ≤ c.stepLimit then s.onClk (·.slew d)
      else ((s.onClk (·.step d)).report .clockStepped sender.val).takePendingCues
    else s
  | _, _ => s

end Sys2Proof.Machine
end

