-- ==== Sys2Proof/Machine/Flags.lean ====
section
/-! DEFINITION. The bay flags (R91). -/

namespace Sys2Proof.Machine

/-- The four flags with one of them written. -/
def writeFlag (flags : BitVec 4) (f : Fin 4) (v : Bool) : BitVec 4 :=
  if v then flags ||| BitVec.twoPow 4 f.val else flags &&& ~~~(BitVec.twoPow 4 f.val)

/-- Set one bay flag; a change raises an early request (R91, R28). -/
def State.setFlag (s : State) (f : Fin 4) (v : Bool) : State :=
  if s.sce.flags.getLsbD f.val = v then s
  else (s.onSce fun e => { e with flags := writeFlag e.flags f v }).earlyRequest

/-- All flags go to 0, each change raising an early request (R91). -/
def State.clearFlags (s : State) : State :=
  forEach [(0 : Fin 4), 1, 2, 3] (fun f s => s.setFlag f false) s

end Sys2Proof.Machine
end

