-- ==== Sys2Proof/Machine/Governor.lean ====
section
/-! DEFINITION. The Load Governor (chapter 8): allowance, lighting demand and scale, granted load, and
the reserved total. The admission line is examined in Motion.lean, where admitted axes start. -/

namespace Sys2Proof.Machine

/-- Reserved total M: the sum of the ledger's amounts (R125). -/
def Lgv.reserved (l : Lgv) : Nat := (l.ledger.map (·.amount)).foldl (· + ·) 0

/-- Lighting allowance A_L = max(0, A - M - E) (R120, R122). -/
def Lgv.lightingAllowance (l : Lgv) : Nat := l.allowance - l.reserved - l.exempt

/-- The granted load as composed at this instant: G = M + E + min(L, A_L) (R122). -/
def Lgv.compose (l : Lgv) : Nat := l.reserved + l.exempt + min l.lamps l.lightingAllowance

/-- The granted load is composed, and held as last composed (R122). -/
def Lgv.note (l : Lgv) : Lgv := { l with granted := l.compose }

/-- The load that a peer entry counts for: G when FRESH, X when STALE (R42). -/
def Peer.counted (e : Peer) : Nat := if e.fresh then e.g else e.x

/-- Peer load O: the sum of the counted loads of the feeder-group entries (R42, R118). -/
def State.peerLoad (s : State) : Nat :=
  s.ptb.foldl (fun acc e => if inSet s.feeder e.station.val then acc + e.counted else acc) 0

/-- clamp(x, a, b) (0.8.3). -/
def clampInt (x a b : Int) : Int := if x < a then a else if b < x then b else x

/-- The allowance that a recompute gives (R118): `clamp (G_s + floor (S g / 16), F, X)`. -/
def recomputed (c : Config) (peerLoad granted : Nat) : Nat :=
  let spare : Int := (c.capacity : Int) - peerLoad - granted
  (clampInt (granted + (spare * c.gain).fdiv 16) c.floor c.ceiling).toNat

/-- The recompute at a regular boundary (R118). Without a configuration it leaves A at 0. An
examination of the admission line follows (R124). -/
def State.recompute (s : State) : State :=
  match s.cfg with
  | some c =>
    let gs := s.lgv.compose
    (s.onLgv fun l => { l with allowance := recomputed c s.peerLoad gs, granted := gs }).post [.examine]
  | none => s.onLgv fun l => { l with allowance := 0, granted := 0 }

/-- Rounding up a division by 4095 (R120). -/
def ceilDiv (x d : Nat) : Nat := (x + (d - 1)) / d

/-- The exact sum of load times value over the channels that `pick` keeps. -/
def loadSum (chans : Vector ChannelCfg 16) (vals : Vector Nat 16) (pick : ChannelCfg → Bool) : Nat :=
  (List.zipWith (fun c x => if pick c then c.load * x else 0) chans.toList vals.toList).foldl (· + ·) 0

/-- The demands of a frame's curve levels (R120). -/
def Lgv.demands (l : Lgv) (chans : Vector ChannelCfg 16) (levels : Vector Nat 16) : Lgv :=
  { l with
    exempt := ceilDiv (loadSum chans levels (·.exempt)) 4095
    demand := ceilDiv (loadSum chans levels (!·.exempt)) 4095 }

/-- The scale of a frame with demand `d` and lighting allowance `al` (R121). -/
def scaleOf (d al : Nat) : Nat := if d ≤ al then 4096 else al * 4096 / d

/-- The governor's answer to a frame's curve levels: demands and scale (R120, R121). -/
def Lgv.frameScale (l : Lgv) (chans : Vector ChannelCfg 16) (levels : Vector Nat 16) : Lgv :=
  let l := l.demands chans levels
  { l with scale := scaleOf l.demand l.lightingAllowance }

/-- The governor takes a frame's outputs: the non-exempt load, and the granted load composed (R122). -/
def Lgv.frameLoad (l : Lgv) (chans : Vector ChannelCfg 16) (outputs : Vector Nat 16) : Lgv :=
  { l with lamps := loadSum chans outputs (!·.exempt) / 4095 }.note

end Sys2Proof.Machine
end

