-- ==== Sys2Proof/Machine/Lighting.lean ====
section
/-! DEFINITION. The Lighting Engine (chapter 7): courses, cycle values, the hold override, walk light,
curves, the lighting frame, and what acceptance and CONFIG_FAULT do to a channel. -/

namespace Sys2Proof.Machine

/-- `a + trunc ((b - a) * p / d)` (R105, R106, R107, R109). -/
def between (a b : Nat) (p d : Nat) : Nat :=
  ((a : Int) + (((b : Int) - a) * p).tdiv d).toNat

/-- The level of a table at a phase, walking its points; `first` is the level at the turn's end
(R106). -/
def levelAt (first phase : Nat) : List CyclePoint → Nat
  | [] => first
  | [last] => between last.level first (phase - last.phase) (65536 - last.phase)
  | p :: q :: rest =>
    if phase < q.phase then between p.level q.level (phase - p.phase) (q.phase - p.phase)
    else levelAt first phase (q :: rest)

/-- The phase of a cycle: `floor ((show time mod P) * 65536 / P)` (R106). -/
def phaseOf (now : ShowTime) (period : Nat) : Nat := now.toNat % period * 65536 / period

/-- The live cycle value of a table at a show time (R106). -/
def tableValue (t : CycleTable) (now : ShowTime) : Nat :=
  match t.points with
  | [] => 0
  | p :: _ => levelAt p.level (phaseOf now t.period) t.points

/-- The table of a course in CYCLE or BLEND. -/
def Course.table : Course → Option (Fin 4)
  | .fade _ _ _ _ => none
  | .cycle t => some t
  | .blend t _ _ _ => some t

/-- Stage 1 of a frame for the course: the elapsed count rises, but not in hold (R105, R107). -/
def Course.advance (hold : Bool) : Course → Course
  | .fade s0 t p d => .fade s0 t (if p < d && !hold then p + 1 else p) d
  | .cycle t => .cycle t
  | .blend t c p d => .blend t c (if p < d && !hold then p + 1 else p) d

/-- Stage 2: the base value of a course with the given cycle value (R105, R106, R107). -/
def Course.value (cyc : Nat) : Course → Nat
  | .fade s0 t p d => if d = 0 then t else between s0 t p d
  | .cycle _ => cyc
  | .blend _ c p d => if d ≤ p then cyc else between c cyc p d

/-- A blend whose elapsed count has reached its duration is due to enter CYCLE (R107). -/
def Course.blendDone : Course → Bool
  | .blend _ _ p d => d ≤ p
  | _ => false

/-- A finished blend enters CYCLE on its table (R107). -/
def Channel.endBlend (x : Channel) : Channel :=
  match x.course with
  | .blend t _ p d => if d ≤ p then { x with course := .cycle t } else x
  | _ => x

/-- The release ramp has reached 0 (R109). -/
def Channel.rampDone (x : Channel) : Bool := x.dir = .towardLive && x.q = 0

/-- A release ramp at 0 ends: the direction becomes NONE (R109). -/
def Channel.endRamp (x : Channel) : Channel := if x.rampDone then { x with dir := .none } else x

/-- Stage 1 for the override ramp (R109). -/
def Channel.moveRamp (x : Channel) (goTo : Bool) (h : Nat) : Channel :=
  if goTo then
    match x.dir with
    | .none => x
    | .towardHold => { x with q := min (x.q + 1) h }
    | .towardLive => ({ x with q := x.q - 1 }).endRamp
  else x

/-- The overridden value u (R109). With H = 0 it is the hold level in hold and v after it. -/
def Channel.overridden (x : Channel) (c : ChannelCfg) (h : Nat) (hold : Bool) : Nat :=
  if c.goTo then
    if h = 0 then (if hold then c.holdLevel else x.v)
    else between x.v c.holdLevel x.q h
  else x.v

/-- The walk contribution moves toward its goal by at most the walk rate (R110). -/
def walkToward (walk goal rate : Nat) : Nat :=
  if walk ≤ goal then (if goal - walk ≤ rate then goal else walk + rate)
  else (if walk - goal ≤ rate then goal else walk - rate)

/-- The walk contribution after stage 1 (R110). -/
def Channel.walkNext (x : Channel) (c : ChannelCfg) (groups : Vector Group 4) : Nat :=
  match c.group with
  | none => 0
  | some g =>
    walkToward x.walk (if groups[g].state = .idle then 0 else c.walkLevel) c.walkRate

/-- The curve level of an intent (R111). -/
def curveLevel (square : Bool) (x : Nat) : Nat := if square then x * x / 1048576 else x / 16

/-- The cycle value a frame uses: the latched one in hold, else the live one (R106, R108). In hold
without a latched value the live value is latched: the first computed after hold began. R114 gives that for
the first frame; for a channel put on another table after its last frame before hold it is the model's choice
(log entry 35). -/
def Channel.takeCycle (x : Channel) (tables : Vector CycleTable 4) (now : ShowTime) (hold : Bool) :
    Channel :=
  match x.course.table with
  | none => x
  | some t =>
    if hold then
      match x.latched with
      | some _ => x
      | none =>
        let live := tableValue tables[t] now
        { x with cyc := some live, latched := some live }
    else { x with cyc := some (tableValue tables[t] now) }

/-- The cycle value in use at stage 2. -/
def Channel.cycleInUse (x : Channel) : Nat :=
  match x.latched with
  | some l => l
  | none => x.cyc.getD 0

/-- Stages 1 to 5 of a lighting frame for one channel (R103). -/
def Channel.frame (x : Channel) (c : ChannelCfg) (cfg : Config) (now : ShowTime) (hold : Bool)
    (groups : Vector Group 4) : Channel :=
  let x := { x with course := x.course.advance hold, walk := x.walkNext c groups }
  let x := (x.moveRamp c.goTo cfg.holdFade).takeCycle cfg.tables now hold
  let x := { x with v := x.course.value x.cycleInUse }
  let x := x.endBlend
  let intent := max (x.overridden c cfg.holdFade hold) x.walk
  { x with intent := intent, level := curveLevel c.square intent }

/-- The output of a channel under a scale (R112). -/
def outputOf (exempt : Bool) (level scale : Nat) : Nat :=
  if exempt then level else level * scale / 4096

/-- One lighting frame (R103): sixteen channels through stages 1 to 5, the governor's scale, the
outputs, the governor's load; then an examination of the admission line (R124). -/
def State.lightingFrame (s : State) : State :=
  match s.cfg with
  | none => s
  | some cfg =>
    let chans := vmap2 (fun x c => x.frame c cfg s.clk.showTime s.hld.inEffect s.viu.groups)
      s.lte.channels cfg.channels
    let lgv := s.lgv.frameScale cfg.channels (vmap (·.level) chans)
    let chans := vmap2 (fun x c => { x with output := outputOf c.exempt x.level lgv.scale })
      chans cfg.channels
    let lgv := lgv.frameLoad cfg.channels (vmap (·.output) chans)
    ({ s with lte := { s.lte with channels := chans }, lgv := lgv }).post [.examine]

/-! ### Cues, hold, acceptance -/

/-- A FADE cue takes a channel (R105). -/
def Channel.startFade (x : Channel) (target d : Nat) : Channel :=
  { x with course := .fade x.v target 0 d, cyc := none, latched := none }

/-- The cycle value that a channel's last frame computed for a table, if it computed one (R108). -/
def Channel.cycleOf (x : Channel) (table : Fin 4) : Option Nat :=
  if x.course.table = some table then x.cyc else none

/-- A CYCLE cue takes a channel (R107). A channel that stays on its table keeps the cycle value of its last
frame, which hold would latch before the next (R108). -/
def Channel.startCycle (x : Channel) (table : Fin 4) (blend : Nat) : Channel :=
  { x with
    course := if blend = 0 then .cycle table else .blend table x.v 0 blend
    cyc := x.cycleOf table
    latched := none }

/-- Hold comes into effect for a channel (R108, R109). -/
def Channel.holdBegins (x : Channel) (goTo : Bool) : Channel :=
  let x := if x.course.table.isSome then { x with latched := x.cyc } else x
  if goTo then { x with dir := .towardHold } else x

/-- Hold ends for a channel (R108, R109). -/
def Channel.holdEnds (x : Channel) (goTo : Bool) : Channel :=
  let x := { x with latched := none }
  if goTo then { x with dir := .towardLive } else x

/-- A channel at the first acceptance after power-on or pin reset (R114). -/
def Channel.first (x : Channel) (c : ChannelCfg) : Channel :=
  match c.initialTable with
  | none => { x with course := .fade x.v c.powerUp 0 0 }
  | some t => { x with course := .cycle t }

/-- A channel's restart fade at the acceptance of a reloaded image (R115). -/
def Channel.restartFade (x : Channel) (c : ChannelCfg) (d : Nat) : Channel :=
  match c.initialTable with
  | none => x.startFade c.powerUp d
  | some t => x.startCycle t d

/-- The new settings of a channel at the acceptance of a reloaded image: its override (R115). -/
def Channel.newOverride (x : Channel) (wasGoTo : Bool) (c : ChannelCfg) (h : Nat) (hold : Bool) :
    Channel :=
  if c.goTo then
    if wasGoTo then { x with q := min x.q h }
    else if hold then { x with q := 0, dir := .towardHold }
    else x
  else { x with q := 0, dir := .none }

/-- In hold a channel that an acceptance puts into BLEND or CYCLE latches its new table's present cycle
value at that instant (R115). -/
def Channel.latchNew (x : Channel) (tables : Vector CycleTable 4) (now : ShowTime) (hold : Bool) :
    Channel :=
  if hold then
    match x.course.table with
    | none => x
    | some t => { x with cyc := some (tableValue tables[t] now), latched := some (tableValue tables[t] now) }
  else x

/-- A channel at the acceptance of a reloaded image (R115). -/
def Channel.reloaded (x : Channel) (wasGoTo : Bool) (c : ChannelCfg) (cfg : Config) (now : ShowTime)
    (hold : Bool) : Channel :=
  ((x.newOverride wasGoTo c cfg.holdFade hold).restartFade c cfg.restartFade).latchNew
    cfg.tables now hold

/-- Whether each channel is a GO_TO channel under a configuration. -/
def goTos : Option Config → Vector Bool 16
  | none => Vector.replicate 16 false
  | some c => vmap (·.goTo) c.channels

/-- Present the start of hold to the Lighting Engine (R108, R109). -/
def State.lightsHoldBegins (s : State) : State :=
  s.onLte fun l => { l with channels := vmap2 (fun x g => x.holdBegins g) l.channels (goTos s.cfg) }

/-- Present the end of hold to the Lighting Engine (R108, R109). -/
def State.lightsHoldEnds (s : State) : State :=
  s.onLte fun l => { l with channels := vmap2 (fun x g => x.holdEnds g) l.channels (goTos s.cfg) }

/-- The Lighting Engine at an acceptance: R114 after power-on or pin reset, R115 in a RESTART. -/
def State.lightsAccept (s : State) (old : Option Config) (cfg : Config) : State :=
  if s.sul.restarting then
    s.onLte fun l =>
      { l with
        channels := vmap2 (fun (x : Channel × Bool) c =>
            x.1.reloaded x.2 c cfg s.clk.showTime s.hld.inEffect)
          (vmap2 Prod.mk l.channels (goTos old)) cfg.channels }
  else s.onLte fun l => { l with channels := vmap2 (fun x c => x.first c) l.channels cfg.channels }

/-- The Lighting Engine on entry to CONFIG_FAULT: every channel dark (R116). The pins go inactive with
the next PWM period. -/
def State.lightsDark (s : State) : State :=
  s.onLte fun l => { l with channels := Vector.replicate 16 Channel.clear }

end Sys2Proof.Machine
end

