-- ==== Sys2Proof/Machine/LocalHold.lean ====
section
/-! DEFINITION. Local hold (R160): its three sources, and bringing it up to them. -/

namespace Sys2Proof.Machine

/-- Some HOLD_KEY input is active (R60). -/
def State.keyHold (s : State) : Bool :=
  allInputs.any fun i => s.inputKind i = .holdKey && (s.viu.inputs[i]).level

/-- Some axis holds the show (R154). -/
def State.showHold (s : State) : Bool := allAxes.any fun a => (s.axis a).showHold

/-- Local hold as its sources give it; it is reckoned only under accepted settings (R160). -/
def State.localSources (s : State) : Bool :=
  s.configured && (s.keyHold || s.hld.orderHold || s.showHold)

/-- Bring local hold up to its sources; a change raises an early request (R160). -/
def State.syncLocalHold (s : State) : State :=
  let now := s.localSources
  if now = s.hld.localHold then s
  else (s.onHld fun h => { h with localHold := now }).earlyRequest

end Sys2Proof.Machine
end

