-- ==== Sys2Proof/Machine/Motion.lean ====
section
/-! DEFINITION. The Motion Engine (chapter 10) and the admission of its axes by the Load Governor
(R123 to R125). -/

namespace Sys2Proof.Machine

/-! ### Reports -/

/-- An axis is IDLE, UNHOMED or FAULT with no move pending (R75, R158). -/
def Axis.idle (x : Axis) : Bool :=
  x.move.isNone && (x.state = .idle || x.state = .unhomed || x.state = .fault)

/-- The axis reports its state to the Scene Engine as it is at this instant (R158). -/
def State.reportAxis (s : State) (a : Fin 4) : State := 
  s.post [.axisReport a (s.axis a).idle s.sce.nextAwait]

/-- The reservation of an axis, if it holds one, is reported released: the ledger drops its record and
the admission line is examined (R125). -/
def State.releaseReservation (s : State) (a : Fin 4) : State :=
  if s.lgv.ledger.any (fun r => r.axis = a) then
    (s.onLgv fun l => { l with ledger := l.ledger.filter fun r => r.axis ≠ a }).post [.examine]
  else s

/-- An axis leaves the admission line other than by admission (R123). -/
def State.leaveLine (s : State) (a : Fin 4) : State :=
  if a ∈ s.lgv.line then
    (s.onLgv fun l => { l with line := l.line.filter fun x => x ≠ a }).post [.examine]
  else s

/-- The state an axis comes to when its move is discarded: IDLE after a MOVE, UNHOMED after a HOME
(R152, R157). -/
def restState : Option Move → AxisState
  | some .home => .unhomed
  | _ => .idle

/-! ### Guard -/

/-- Some active GUARD input is named by a mask (R155). -/
def State.guardActive (s : State) (mask : BitVec 8) : Bool :=
  allInputs.any fun i =>
    mask.getLsbD i.val && s.inputKind i = .guard && (s.viu.inputs[i]).level

/-- Hold comes into effect, or the guard stops being clear: an axis in MOVING or HOMING enters STOPPING
with its move kept (R155). -/
def Axis.holdGuard (x : Axis) : Axis :=
  match x.state with
  | .moving => { x with state := .stopping, stopKind := some .holdGuard }
  | .homing => { x with state := .stopping, stopKind := some .holdGuard }
  | _ => x

/-- Report an axis whose state differs from before (R158). -/
def State.reportIfChanged (s : State) (a : Fin 4) (before : AxisState) : State :=
  if (s.axis a).state = before then s else s.reportAxis a

/-- Write an axis and report a change of its state (R158). -/
def State.putAxis (s : State) (a : Fin 4) (x : Axis) : State :=
  (s.setAxis a x).reportIfChanged a (s.axis a).state

/-- The guard of an axis stops being clear (R155). -/
def State.guardFalls (s : State) (a : Fin 4) : State :=
  s.putAxis a { (s.axis a).holdGuard with guardTimer := 0, guardClear := false }

/-! ### The admission line -/

/-- An axis enters WAIT_POWER and joins the admission line at the back (R123, R152). -/
def State.joinLine (s : State) (a : Fin 4) (m : Move) : State :=
  let s := s.putAxis a
    { s.axis a with state := .waitPower, move := some m, waitTimer := 0, v := 0, stopKind := none }
  (s.onLgv fun l => { l with line := l.line.filter (fun x => x ≠ a) ++ [a] }).post [.examine]

/-- An axis in HELD resumes when hold is not in effect and its guard is clear (R156). -/
def State.resume (s : State) (a : Fin 4) : State :=
  let x := s.axis a
  if x.state = .held && !s.held && x.guardClear then
    match x.move with
    | some m => s.joinLine a m
    | none => s
  else s

/-- An admitted axis starts: MOVING, or HOMING from p = 0, or HELD at once when its guard is not clear
(R152, R153). The homed flag is clear while the axis homes, as R153 presupposes where it says that it stays
clear (log entry 39). -/
def Axis.admitted (x : Axis) (c : AxisCfg) : Axis :=
  if x.guardClear then
    match x.move with
    | some .home =>
      { x with state := .homing, p := 0, v := 0, plus := c.homePlus, homed := false }
    | _ => { x with state := .moving, v := 0 }
  else { x with state := .held, v := 0 }

/-- Admit the axis at the front of the line with its configured reservation (R124). -/
def State.admitAxis (s : State) (a : Fin 4) (c : AxisCfg) : State :=
  let s := s.onLgv fun l =>
    { l with
      line := l.line.filter (fun x => x ≠ a)
      ledger := l.ledger ++ [{ axis := a, amount := c.reservation }] }
  let s := s.putAxis a ((s.axis a).admitted c)
  if (s.axis a).state = .held then s.releaseReservation a else s

/-- The test M + r + E ≤ A (R124). -/
def Lgv.fits (l : Lgv) (r : Nat) : Bool := l.reserved + r + l.exempt ≤ l.allowance

/-- Examine the admission line (R124): admit the front axis when it fits, and go on with the next. -/
def State.examineLine (s : State) : State :=
  match s.cfg, s.lgv.line with
  | some c, a :: _ =>
    if !s.held && s.lgv.fits c.axes[a].reservation then
      (s.admitAxis a c.axes[a]).post [.examine]
    else s
  | _, _ => s

/-! ### Cues and aborts -/

/-- A skipped MOVE or HOME (R151). -/
def State.notReady (s : State) (a : Fin 4) : State := s.report .axisNotReady a.val

/-- A MOVE for an axis with its clamped target (R151, TABLE LX). -/
def State.moveAxis (s : State) (a : Fin 4) (target : Int) (profile : Fin 4) : State :=
  let x := s.axis a
  let replaced := s.setAxis a { x with move := some (.move target profile) }
  match x.state, x.move with
  | .idle, _ =>
    if target * 256 = x.p then s.reportAxis a
    else if x.guardClear then s.joinLine a (.move target profile)
    else
      (s.putAxis a { x with state := .held, move := some (.move target profile) }).resume a
  | .waitPower, some (.move _ _) => replaced
  | .moving, _ => replaced
  | .stopping, some (.move _ _) =>
    if x.stopKind = some .holdGuard then replaced else s.notReady a
  | .held, some (.move _ _) => replaced
  | _, _ => s.notReady a

/-- A HOME for an axis (R151, TABLE LX). -/
def State.homeAxis (s : State) (a : Fin 4) : State :=
  let x := s.axis a
  match x.state, x.move with
  | .unhomed, _ => s.joinLine a .home
  | .fault, _ => s.joinLine a .home
  | .idle, _ => (s.setAxis a { x with homed := false }).joinLine a .home
  | .homing, _ => s
  | .waitPower, some .home => s
  | .waitPower, _ => s.setAxis a { x with homed := false, move := some .home }
  | .held, some .home => s
  | .held, _ => s.setAxis a { x with homed := false, move := some .home }
  | .moving, _ => s.notReady a
  | .stopping, _ => s.notReady a

/-- An abort reaches an axis (R157). -/
def State.abortAxis (s : State) (a : Fin 4) : State :=
  let x := s.axis a
  match x.state with
  | .moving => s.putAxis a { x with state := .stopping, stopKind := some .abort }
  | .homing => s.putAxis a { x with state := .stopping, stopKind := some .abort }
  | .stopping => s.setAxis a { x with stopKind := some .abort }
  | .waitPower => (s.putAxis a { x with state := restState x.move, move := none }).leaveLine a
  | .held => s.putAxis a { x with state := restState x.move, move := none }
  | _ => s

/-- The power wait limit passes: the move is abandoned (R152). -/
def State.starve (s : State) (a : Fin 4) : State :=
  let x := s.axis a
  ((s.report .motionStarved a.val).putAxis a
    { x with state := restState x.move, move := none }).leaveLine a

/-- An axis in WAIT_POWER has waited for its power wait limit (R152). -/
def State.starveDue (s : State) (a : Fin 4) : Bool :=
  match s.axisCfg a with
  | some c => (s.axis a).state = .waitPower && c.powerWait ≤ (s.axis a).waitTimer
  | none => false

/-- The guard of an axis has been inactive for its guard clear delay and does not count as clear yet
(R155). -/
def State.guardDue (s : State) (a : Fin 4) : Bool :=
  match s.axisCfg a with
  | some c =>
    !(s.axis a).guardClear && !s.guardActive c.guardMask && c.guardDelay ≤ (s.axis a).guardTimer
  | none => false

/-- The guard of an axis is clear; a HELD axis may resume (R155, R156). -/
def State.clearGuard (s : State) (a : Fin 4) : State :=
  (s.onAxis a fun x => { x with guardClear := true }).resume a

/-- The timers of one axis at a beat: the wait timer out of hold, the guard timer while no named guard
input is active (R152, R155). -/
def Axis.timers (x : Axis) (c : AxisCfg) (hold guardActive : Bool) : Axis :=
  { x with
    waitTimer := if x.state = .waitPower && !hold then min (x.waitTimer + 1) 60000 else x.waitTimer
    guardTimer := if guardActive then 0 else if x.guardTimer < c.guardDelay then x.guardTimer + 1
      else x.guardTimer
    guardClear := if c.guardMask = 0#8 then true else x.guardClear }

/-- Hold comes into effect for an axis (R155). -/
def State.axisHoldBegins (s : State) (a : Fin 4) : State := s.putAxis a (s.axis a).holdGuard

/-! ### The motion period -/

/-- The target of a move in 1/256 step. -/
def Move.goal : Move → Option Int
  | .move target _ => some (target * 256)
  | .home => none

/-- The profile a move runs under: its own, or the home profile (R149, R153). -/
def profileOf (c : AxisCfg) : Move → Profile
  | .move _ k => c.profiles[k]
  | .home => c.profiles[c.homeProfile]

/-- The signed unit of a direction. -/
def sign (plus : Bool) : Int := if plus then 1 else -1

/-- The speed of a period of an axis in MOVING toward its target (R149). -/
def nextSpeed (pr : Profile) (v : Nat) (r : Nat) : Nat :=
  if 2 * pr.accel * r ≤ v * v then max (v - pr.accel) pr.accel
  else if pr.vmax < v then max (v - pr.accel) pr.vmax
  else if v < pr.vmax then min (v + pr.accel) pr.vmax
  else v

/-- The distance from p to the soft limit in a direction (R150). -/
def limitDistance (c : AxisCfg) (p : Int) (plus : Bool) : Nat :=
  if plus then (c.softMax * 256 - p).toNat else (p - c.softMin * 256).toNat

/-- Pulses of a step from p to q: the changes of floor (p / 256) (R148). -/
def pulsesOf (p q : Int) : Nat := (q.fdiv 256 - p.fdiv 256).natAbs

/-- Move p by a step in the direction of travel (R148). -/
def Axis.stepBy (x : Axis) (step : Nat) : Axis :=
  let q := x.p + sign x.plus * step
  { x with p := q, pulses := pulsesOf x.p q }

/-- What a motion period does to an axis, beside its new record. -/
inductive MotionEvent where
  | none
  /-- The axis has come to rest: its reservation is released (R125). -/
  | rest
  /-- A limit input stopped it (R154). -/
  | limit
  /-- Homing travelled past its limit (R153). -/
  | notFound
deriving DecidableEq, Repr

/-- The limit input in a direction is active (low) (R154). -/
def limitActive (pins : Pins) (a : Fin 4) (plus : Bool) : Bool :=
  if plus then !pins.lmp.getLsbD a.val else !pins.lmn.getLsbD a.val

/-- The home input is active (low) (R148). -/
def homeActive (pins : Pins) (a : Fin 4) : Bool := !pins.home.getLsbD a.val

/-- The direction of travel that the limit inputs are judged against: toward the target for an axis in MOVING
that has not yet a speed, else the direction field (TABLE LVIII, R154). -/
def Axis.travelPlus (x : Axis) : Bool :=
  match x.state, x.move with
  | .moving, some (.move t _) => if x.v = 0 && t * 256 ≠ x.p then x.p < t * 256 else x.plus
  | _, _ => x.plus

/-- At rest after a move or a stop, with the move discarded or kept as pending. -/
def Axis.atRest (x : Axis) (state : AxisState) (move : Option Move) : Axis :=
  { x with state := state, v := 0, move := move, stopKind := none }

/-- The home switch is found (R153). -/
def Axis.found (x : Axis) (c : AxisCfg) : Axis :=
  { x.atRest .idle none with p := c.homeOffset * 256, homed := true }

/-- A step of homing at speed v, with the travel limit examined: past it the homing has failed, in FAULT with
the homed flag clear (R153). -/
def Axis.homingStep (x : Axis) (c : AxisCfg) (v : Nat) : Axis × Bool :=
  let y := ({ x with v := v }).stepBy v
  if c.travelLimit * 256 < y.p.natAbs then ({ y.atRest .fault none with homed := false }, true)
  else (y, false)

/-- A period of an axis in MOVING (R149, R150). -/
def Axis.movingPeriod (x : Axis) (c : AxisCfg) (t : Int) (pr : Profile) : Axis × MotionEvent :=
  let goal := t * 256
  let r := (goal - x.p).natAbs
  if r = 0 then (x.atRest .idle none, .rest)
  else
    let toPlus : Bool := x.p < goal
    if toPlus = x.plus || x.v = 0 then
      let v := nextSpeed pr x.v r
      (({ x with plus := toPlus, v := v }).stepBy (min v r), .none)
    else
      let v := x.v - pr.accel
      let room := limitDistance c x.p x.plus
      (({ x with v := if room < v then 0 else v }).stepBy (min v room), .none)

/-- Where a stop ends once v is 0: HELD with the move pending, or at rest without it (R155, R157). -/
def Axis.stopped (x : Axis) : Axis :=
  match x.stopKind with
  | some .abort => x.atRest (restState x.move) none
  | _ => x.atRest .held x.move

/-- A period of a stop of a MOVE (R155, R157). -/
def Axis.stopMovePeriod (x : Axis) (c : AxisCfg) (t : Int) (pr : Profile) : Axis × MotionEvent :=
  let goal := t * 256
  let r := (goal - x.p).natAbs
  if r = 0 then (x.atRest .idle none, .rest)
  else
    let toPlus : Bool := x.p < goal
    let v := x.v - pr.accel
    let room := if toPlus = x.plus then r else limitDistance c x.p x.plus
    let y := ({ x with v := if room < v then 0 else v }).stepBy (min v room)
    if toPlus = x.plus && y.p = goal then (y.atRest .idle none, .rest)
    else if y.v = 0 then (y.stopped, .rest)
    else (y, .none)

/-- A period of a stop of a HOME (R153, R155, R157). -/
def Axis.stopHomePeriod (x : Axis) (c : AxisCfg) (pr : Profile) : Axis × MotionEvent :=
  let v := x.v - pr.accel
  let (y, failed) := x.homingStep c v
  if failed then (y, .notFound)
  else if v = 0 then (y.stopped, .rest)
  else (y, .none)

/-- A motion period of an axis in HOMING, MOVING or STOPPING (R148, R149, R150, R153, R154, R155). -/
def Axis.period (x : Axis) (a : Fin 4) (c : AxisCfg) (pins : Pins) : Axis × MotionEvent :=
  let x := { x with pulses := 0 }
  if limitActive pins a x.travelPlus then (x.atRest .fault none, .limit)
  else
    match x.state, x.move with
    | .homing, _ =>
      if homeActive pins a then (x.found c, .rest)
      else
        let pr := profileOf c .home
        let (y, failed) := x.homingStep c (min (x.v + pr.accel) pr.vmax)
        (y, if failed then .notFound else .none)
    | .moving, some (.move t k) => x.movingPeriod c t (profileOf c (.move t k))
    | .stopping, some (.move t k) => x.stopMovePeriod c t (profileOf c (.move t k))
    | .stopping, _ =>
      if homeActive pins a then (x.found c, .rest)
      else x.stopHomePeriod c (profileOf c .home)
    | _, _ => (x, .none)

/-- A limit or homing fault sets the show-hold mark of an axis that is set to hold the show (R154). -/
def Axis.markHold (x : Axis) (c : AxisCfg) : Axis :=
  if c.faultHolds then { x with showHold := true } else x

/-- The axis moves in this state and has a motion period with switches sampled (R148). -/
def AxisState.inMotion : AxisState → Bool
  | .homing => true
  | .moving => true
  | .stopping => true
  | _ => false

/-- One axis's motion period with what it reports; a show-hold mark is presented to the Hold Logic (R148, R153,
R154, R158, R160). -/
def State.axisPeriod (a : Fin 4) (s : State) : State :=
  match s.axisCfg a with
  | none => s
  | some c =>
    let x := s.axis a
    if x.state.inMotion then
      let (y, ev) := x.period a c s.pins
      match ev with
      | .none => s.putAxis a y
      | .rest => ((s.putAxis a y).releaseReservation a).resume a
      | .limit =>
        (((s.putAxis a (y.markHold c)).report .axisLimit a.val).releaseReservation a).syncLocalHold
      | .notFound =>
        (((s.putAxis a (y.markHold c)).report .homeNotFound a.val).releaseReservation a).syncLocalHold
    else s.setAxis a { x with pulses := 0 }

/-- An axis on entry to CONFIG_FAULT: at rest at once, unhomed, its driver disabled, its position kept
(R159). -/
def Axis.disabled (x : Axis) : Axis := { Axis.clear with p := x.p, plus := x.plus }

/-- The guard of an axis under new settings is clear with an empty mask, or when no named input is active and
its timer has reached the new delay; so a guard whose last active input the acceptance presents as inactive is
clear at once with a delay of 0 (R59, R155). `first` says that no settings were in force before: the guard
counts as not clear until the first beat (TABLE LXI). How R159 and TABLE LXI go together is as log entry 43
says. -/
def Axis.newGuard (x : Axis) (k : AxisCfg) (active first : Bool) : Axis :=
  { x with
    guardTimer := if active then 0 else x.guardTimer
    guardClear :=
      !first && (k.guardMask = 0#8 || (!active && k.guardDelay ≤ x.guardTimer)) }

/-- An axis at the acceptance of an image, the new configuration being in force: its driver is enabled, its
guard is judged by the new settings, so that a HELD axis may resume, and a homed axis outside the new soft
limits becomes UNHOMED (R147, R148, R155, R156). -/
def State.axisAccept (first : Bool) (c : Config) (a : Fin 4) (s : State) : State :=
  let k := c.axes[a]
  let s := s.onAxis a fun x => { x.newGuard k (s.guardActive k.guardMask) first with enable := true }
  let x := s.axis a
  if x.homed && (x.p < k.softMin * 256 || k.softMax * 256 < x.p) then
    ((s.putAxis a { x.atRest .unhomed none with homed := false }).leaveLine a).releaseReservation a
  else s.resume a

end Sys2Proof.Machine
end

