-- ==== Sys2Proof/Machine/Narration.lean ====
section
/-! DEFINITION. The Narration Engine (chapter 9): the clip queue, the earshot gate, fetch, play, tails,
hold, the mixer and the talking flag. A voice's meeting with the Scene Engine (idle reports, drained
events) is by signals. -/

namespace Sys2Proof.Machine

def otherVoice : Voice → Voice
  | .a => .b
  | .b => .a

/-- The settings of a clip, with those of an absent clip silent. -/
def State.clipOf (s : State) (n : Fin 256) : ClipEntry :=
  (s.clipEntry n).getD
    { present := false, earshot := false, mustPlay := false, address := 0, length := 0, gain := 0,
      quietLimit := 0 }

/-- A clip is valid: present, of length at least 1, within the address space (R129). -/
def State.clipValid (s : State) (n : Fin 256) : Bool :=
  match s.clipEntry n with
  | some e => 1 ≤ e.length && e.address + 2 * e.length ≤ addressSpace
  | none => false

/-- The voice is in PRIMING, PLAYING, PAUSED or TAILING with a GRANTED or COURTESY clip (R144). -/
def VoiceRec.talks (v : VoiceRec) : Bool :=
  match v.state, v.current with
  | .idle, _ => false
  | .waitQuiet, _ => false
  | .claiming, _ => false
  | _, some c => c.air ≠ .none
  | _, none => false

/-- The ramp goal of an air mark: 64 for COURTESY, 256 otherwise (R136, R142). -/
def AirMark.goal : AirMark → Nat
  | .courtesy => 64
  | _ => 256

/-- The ramp goal of the current clip (R142). -/
def VoiceRec.airGoal (v : VoiceRec) : Nat :=
  match v.current with
  | some c => c.air.goal
  | none => 256

/-- The samples left to fetch of a context that may be absent. -/
def leftToFetch : Option Held → Nat
  | some c => c.toFetch
  | none => 0

/-- The samples left to play of a context that may be absent. -/
def leftToPlay : Option Held → Nat
  | some c => c.toPlay
  | none => 0

/-! ### Priming and fetching -/

/-- The test by which a voice in PRIMING enters PLAYING (R140). -/
def State.primeTest (s : State) (v : Voice) : State :=
  let x := s.voice v
  if x.state = .priming && !s.held && (512 ≤ x.fill || leftToFetch x.current = 0) then
    s.setVoice v { x with state := .playing, ramp := x.goal }
  else s

/-- The states in which a voice refills (R137). -/
def VoiceRec.mayRefill (x : VoiceRec) : Bool :=
  match x.state with
  | .priming => true
  | .playing => true
  | .paused => true
  | .tailing => x.tailPause
  | _ => false

/-- The refill test (R137): ask the port for a burst of up to 256 samples. -/
def State.refill (s : State) (v : Voice) : State :=
  let x := s.voice v
  if x.burst = .none && x.mayRefill && x.fill ≤ 1024 then
    match x.current, x.next with
    | some c, n =>
      if 0 < c.toFetch then
        (s.setVoice v { x with burst := .outstanding, burstNext := false }).askPort (.voice v)
          c.fetch (2 * min 256 c.toFetch)
      else
        match n with
        | some n =>
          if 0 < n.toFetch then
            (s.setVoice v { x with burst := .outstanding, burstNext := true }).askPort (.voice v)
              n.fetch (2 * min 256 n.toFetch)
          else s
        | none => s
    | none, _ => s
  else s

/-- The states in which a voice chains its head (R138). -/
def VoiceState.chains : VoiceState → Bool
  | .priming => true
  | .playing => true
  | .paused => true
  | _ => false

/-- The context of a clip that a voice takes up (R131, R138). -/
def State.newHeld (s : State) (q : Queued) (air : AirMark) : Held :=
  let e := s.clipOf q.clip
  { clip := q.clip, owner := q.owner, air := air, fetch := e.address, toFetch := e.length,
    toPlay := e.length }

/-- The chaining test (R138). -/
def State.chain (s : State) (v : Voice) : State :=
  let x := s.voice v
  match x.current, x.next, x.queue with
  | some c, none, h :: rest =>
    let earshot := (s.clipOf h.clip).earshot
    if c.toFetch = 0 && x.state.chains && (!earshot || c.air = .granted) then
      let air : AirMark := if earshot then .granted else .none
      (s.setVoice v
        { x with next := some (s.newHeld h air), boundary := some x.write, queue := rest }).refill v
    else s
  | _, _, _ => s

/-- A voice enters PRIMING with its current clip at an air mark (R131, R134, R136, R140). -/
def VoiceRec.prime (x : VoiceRec) (air : AirMark) : VoiceRec :=
  { x with
    state := .priming, ramp := 0, goal := air.goal, claim := none, retry := none
    current := x.current.map fun c => { c with air := air } }

/-- Enter PRIMING and make the tests that follow (R137, R140). -/
def State.enterPriming (s : State) (v : Voice) (air : AirMark) : State :=
  ((s.onVoice v (·.prime air)).refill v).primeTest v

/-! ### The talking flag -/

/-- A voice that waits for the air with an earshot clip enters PRIMING under the other voice's air
(R134). -/
def State.shareAir (s : State) (v : Voice) : State :=
  match (s.voice v).state with
  | .waitQuiet => s.enterPriming v .granted
  | .claiming => s.enterPriming v .granted
  | _ => s

/-- Bring the talking flag up to the voices' states: each change raises an early request, and its
setting shares the air with the other voice (R144, R134). -/
def State.syncTalking (s : State) : State :=
  let now := s.nre.a.talks || s.nre.b.talks
  if now = s.nre.talking then s
  else
    let s := (s.onNre fun n => { n with talking := now }).earlyRequest
    if now then (s.shareAir .a).shareAir .b else s

/-! ### The earshot gate -/

/-- The air is quiet: no earshot-set station counts as talking (R43, R133). -/
def State.airQuiet (s : State) : Bool :=
  s.ptb.all fun e => !(inSet s.earshot e.station.val && e.fresh && e.talking)

/-- A voice in WAIT_QUIET judges the air (R133). -/
def State.judgeAir (s : State) (v : Voice) : State :=
  let x := s.voice v
  if x.state = .waitQuiet && x.retry.isNone && !s.held && s.airQuiet then
    match x.current with
    | none => s
    | some c =>
      if s.outboundRoom then
        (s.setVoice v { x with state := .claiming, claim := none, claimId := x.claimId + 1 }).enqueue
          (.talk v c.clip (x.claimId + 1)) .nre
      else s.setVoice v { x with retry := some s.claimWindow }
  else s

/-- A voice in CLAIMING backs off, or loses its TALK, and waits one claim window (R134). -/
def State.backOff (s : State) (v : Voice) : State :=
  let x := s.voice v
  if x.state = .claiming then
    s.setVoice v { x with state := .waitQuiet, claim := none, retry := some s.claimWindow }
  else s

/-- An earshot-set entry as it now stands is presented to a voice: a report of talking makes a
claiming voice back off, and a waiting voice judges the air again (R43, R133, R134). -/
def State.airPresented (s : State) (v : Voice) (talking : Bool) : State :=
  let s := if talking then s.backOff v else s
  s.judgeAir v

/-! ### Starting, stopping and ending clips -/

/-- The voice starts the head of its queue, or enters IDLE and says so (R131). -/
def State.startHead (s : State) (v : Voice) : State :=
  let x := s.voice v
  match x.queue with
  | [] =>
    (s.setVoice v { x with state := .idle, current := none, retry := none, claim := none }).post
      [.voiceIdle v s.sce.nextAwait]
  | h :: rest =>
    let earshot := (s.clipOf h.clip).earshot
    let y := { x with current := some (s.newHeld h .none), queue := rest }
    if !earshot then (s.setVoice v y).enterPriming v .none
    else if (s.voice (otherVoice v)).talks then (s.setVoice v y).enterPriming v .granted
    else
      (s.setVoice v { y with state := .waitQuiet, quiet := 0, retry := none, claim := none }).judgeAir v

/-- Discard the next context and the boundary list. Samples already fetched for it leave the ring
again, and a burst in flight for it becomes DISCARD (R132, R139; log entry 22). -/
def VoiceRec.dropNext (x : VoiceRec) : VoiceRec :=
  match x.next, x.boundary with
  | some _, some b =>
    { x with
      next := none, boundary := none, write := b
      fill := x.fill - (x.write + ringSize - b) % ringSize
      burst := if x.burstNext && x.burst = .outstanding then .discard else x.burst }
  | _, _ => { x with next := none, boundary := none }

/-- A clip in PRIMING, PLAYING or PAUSED goes into a tail with tail end STOP; a pause tail becomes one
(R132, R141). -/
def VoiceRec.tailStop (x : VoiceRec) : VoiceRec :=
  match x.state with
  | .tailing => { x with tailPause := false }
  | _ => { x with state := .tailing, tailPause := false, tailCount := 0, goal := 0 }

/-- The current clip is dealt with as a stop deals with it (R132). -/
def State.stopCurrent (s : State) (v : Voice) : State :=
  let x := s.voice v
  match x.state with
  | .idle => s
  | .waitQuiet => ((s.setVoice v { x with current := none }).startHead v).post [.drained v]
  | .claiming => ((s.setVoice v { x with current := none }).startHead v).post [.drained v]
  | _ => s.setVoice v x.tailStop

/-- The next context is dealt with as a stop deals with it (R132). -/
def State.stopNext (s : State) (v : Voice) : State :=
  match (s.voice v).next with
  | none => s
  | some _ => (s.onVoice v (·.dropNext)).post [.drained v]

/-- Whether a held clip belongs to a run. -/
def ownedBy (i : Fin 4) : Option Held → Bool
  | some c => c.owner = i
  | none => false

/-- A stop for a run (R132). -/
def State.stopForRun (s : State) (v : Voice) (i : Fin 4) : State :=
  let s := s.onVoice v fun x => { x with queue := x.queue.filter fun q => q.owner ≠ i }
  let s := if ownedBy i (s.voice v).next then s.stopNext v else s
  let s := if ownedBy i (s.voice v).current then s.stopCurrent v else s
  s.syncTalking

/-- A CLIP cue with a valid clip (R130). With the mode CUT the clips of the voice are stopped on an emptied
queue, so that a voice in WAIT_QUIET or CLAIMING enters IDLE and reports it (R131, R132); then the new clip is
the queue, and a voice in IDLE starts it at once. -/
def State.takeClip (s : State) (v : Voice) (q : Queued) : State :=
  if q.cut then
    let s := s.onVoice v fun x => { x with queue := [] }
    let s := (s.stopNext v).stopCurrent v
    let s := s.onVoice v fun x => { x with queue := [q] }
    let s := if (s.voice v).state = .idle then s.startHead v else s
    s.syncTalking
  else if (s.voice v).queue.length < 4 then
    let s := s.onVoice v fun x => { x with queue := x.queue ++ [q] }
    let s := if (s.voice v).state = .idle then s.startHead v else s.chain v
    s.syncTalking
  else s.report .queueDrop q.clip.val .clipQueue

/-- A clip whose burst has failed is abandoned (R139). -/
def State.abandonBurst (s : State) (v : Voice) : State :=
  let x := s.voice v
  match x.burst with
  | .outstanding =>
    let next := x.burstNext
    let s := s.setVoice v { x with burst := .none, burstNext := false }
    if next then ((s.stopNext v).chain v).syncTalking
    else
      match x.state with
      | .idle => s
      | .waitQuiet => s
      | .claiming => s
      | _ => (s.onVoice v (·.tailStop)).syncTalking
  | .discard => (s.setVoice v { x with burst := .none, burstNext := false }).refill v
  | .none => s

/-- The samples that a burst's bytes spell, high byte first (R175). -/
def samplesOf : List Byte → List Sample
  | hi :: lo :: rest => (hi ++ lo) :: samplesOf rest
  | _ => []

/-- A context after a burst of `n` samples (R137). -/
def Held.fetched (c : Held) (n : Nat) : Held :=
  { c with toFetch := c.toFetch - n, fetch := (c.fetch + 2 * n) % addressSpace }

/-- An OUTSTANDING burst's samples enter the ring (R137). -/
def VoiceRec.takeBurst (x : VoiceRec) (samples : List Sample) : VoiceRec :=
  let n := samples.length
  { x with
    ring := ringWrite x.ring x.write samples
    write := (x.write + n) % ringSize
    fill := x.fill + n
    current := if x.burstNext then x.current else x.current.map (·.fetched n)
    next := if x.burstNext then x.next.map (·.fetched n) else x.next
    burst := .none
    burstNext := false }

/-- A voice's burst completes (R137, R138, R140). -/
def State.burstDone (s : State) (v : Voice) (data : List Byte) : State :=
  let x := s.voice v
  match x.burst with
  | .outstanding =>
    let s := s.setVoice v (x.takeBurst (samplesOf data))
    let s := if x.burstNext then s else s.chain v
    ((s.primeTest v).refill v).syncTalking
  | .discard => (s.setVoice v { x with burst := .none, burstNext := false }).refill v
  | .none => s

/-! ### The sample period -/

/-- What a voice does in a sample period (R140, R141). -/
def VoiceRec.sampleStep (x : VoiceRec) : VoiceRec :=
  match x.state with
  | .playing =>
    if 0 < x.fill then
      { x with
        sample := ringGet x.ring x.read
        read := (x.read + 1) % ringSize
        fill := x.fill - 1
        current := x.current.map fun c => { c with toPlay := c.toPlay - 1 }
        underrun := false
        ramp := if x.ramp < x.goal then min (x.ramp + 4) x.goal else x.ramp }
    else
      { x with
        sample := 0#16
        underrun := true
        ramp := if x.ramp < x.goal then min (x.ramp + 4) x.goal else x.ramp }
  | .tailing =>
    if 64 ≤ x.tailCount then { x with sample := 0#16 }
    else
      { x with
        sample := if x.tailCount < x.fill && x.tailCount < leftToPlay x.current then
            ringGet x.ring ((x.read + x.tailCount) % ringSize) else 0#16
        ramp := x.ramp - 4
        tailCount := x.tailCount + 1 }
  | _ => { x with sample := 0#16 }

/-- A stall begins: a PLAYING voice with an empty ring and the underrun mark clear (R140). -/
def VoiceRec.stallBegins (x : VoiceRec) : Bool := x.state = .playing && x.fill = 0 && !x.underrun

/-- The number by which a fault names a voice. -/
def voiceNumber : Voice → Nat
  | .a => 0
  | .b => 1

/-- One voice's sample period, with its VOICE_UNDERRUN (R140, R141). -/
def State.voiceSample (s : State) (v : Voice) : State :=
  let x := s.voice v
  let s := s.setVoice v x.sampleStep
  if x.stallBegins then s.report .voiceUnderrun (voiceNumber v) else s

/-- Voice B's duck value moves by 1 toward its target (R143). -/
def duckToward (duck target : Nat) : Nat :=
  if duck < target then duck + 1 else if target < duck then duck - 1 else duck

/-- Effective gain: `floor (clip gain * voice gain * ramp / 65536)`; 0 without a current clip (R143). -/
def State.effectiveGain (s : State) (v : Voice) (voiceGain : Nat) : Nat :=
  let x := s.voice v
  match x.current with
  | some c => (s.clipOf c.clip).gain * voiceGain * x.ramp / 65536
  | none => 0

/-- Saturation to a 16-bit signed value (R143). -/
def saturate (y : Int) : Sample := BitVec.ofInt 16 (max (-32768) (min 32767 y))

/-- The mixed sample (R143). -/
def mix (sa ea sb eb : Int) (duck : Nat) : Sample :=
  saturate ((sa * ea + (sb * eb * duck).fdiv 256).fdiv 256)

/-- The audio out carries 0 in these station states (R143). -/
def Station.mute : Station → Bool
  | .reset => true
  | .loading => true
  | .configFault => true
  | _ => false

/-- The sample the serial audio out carries after the voices and the duck value have moved (R143). -/
def State.mixed (s : State) : Sample :=
  match s.cfg with
  | none => 0#16
  | some c =>
    if s.sul.station.mute then 0#16
    else
      mix s.nre.a.sample.toInt (s.effectiveGain .a c.gainA) s.nre.b.sample.toInt
        (s.effectiveGain .b c.gainB) s.nre.duck

/-- The duck target: the duck level while voice A is PLAYING, 256 otherwise (R143). -/
def State.duckTarget (s : State) : Nat :=
  match s.cfg with
  | some c => if s.nre.a.state = .playing then c.duckLevel else 256
  | none => 256

/-- The Narration Engine's work in a sample period, up to the ends of clips and tails (R140, R141,
R143). Where both voices stall at one sample period, VOICE_UNDERRUN of voice A is reported first: the model's
choice (log entry 38). -/
def State.narrationSample (s : State) : State :=
  let target := s.duckTarget
  let s := (s.voiceSample .a).voiceSample .b
  let s := s.onNre fun n => { n with duck := duckToward n.duck target }
  let s := { s with nre := { s.nre with audio := s.mixed } }
  (s.refill .a).refill .b

/-- The current clip has played out (R140). -/
def State.clipEndDue (s : State) (v : Voice) : Bool :=
  let x := s.voice v
  x.state = .playing && x.current.isSome && leftToPlay x.current = 0

/-- The end of a clip: the next context takes over, or the voice starts the head (R140). -/
def State.endClip (s : State) (v : Voice) : State :=
  let x := s.voice v
  match x.next with
  | some n =>
    let s := s.setVoice v
      { x with current := some n, next := none, boundary := none, goal := 256, ramp := 256,
               burstNext := false }
    ((s.refill v).post [.drained v]).syncTalking
  | none =>
    (((s.setVoice v { x with current := none }).startHead v).post [.drained v]).syncTalking

/-- A tail has run its 64 sample periods (R141). -/
def State.tailEndDue (s : State) (v : Voice) : Bool :=
  let x := s.voice v
  x.state = .tailing && 64 ≤ x.tailCount

/-- A voice's ring and contexts emptied, a burst in flight becoming DISCARD (R141, R146). -/
def VoiceRec.empty (x : VoiceRec) : VoiceRec :=
  { x with
    ring := [], write := 0, read := 0, fill := 0, current := none, next := none, boundary := none
    burst := if x.burst = .none then .none else .discard
    burstNext := false }

/-- The end of a tail (R141). -/
def State.endTail (s : State) (v : Voice) : State :=
  let x := s.voice v
  if x.tailPause then s.setVoice v { x with state := .paused }
  else
    let gone : List Signal := (x.current.toList ++ x.next.toList).map fun _ => .drained v
    (((s.setVoice v x.empty).startHead v).post gone).syncTalking

/-! ### Timers of the gate -/

/-- The gate's timers of one voice at a beat: retry wait and claim timer fall, the quiet timer rises
out of hold (R133, R134, R136). -/
def VoiceRec.gateBeat (x : VoiceRec) (hold : Bool) : VoiceRec :=
  { x with
    retry := x.retry.map (· - 1)
    claim := x.claim.map (· - 1)
    quiet :=
      match x.state with
      | .waitQuiet => if hold then x.quiet else min (x.quiet + 1) 60001
      | .claiming => if hold then x.quiet else min (x.quiet + 1) 60001
      | _ => x.quiet }

/-- A voice's retry wait has run out (R133). -/
def State.retryDue (s : State) (v : Voice) : Bool := (s.voice v).retry = some 0

/-- The retry wait ends and the voice judges the air (R133). -/
def State.endRetry (s : State) (v : Voice) : State :=
  (s.onVoice v fun x => { x with retry := none }).judgeAir v

/-- A voice's claim timer has run out (R134). -/
def State.grantDue (s : State) (v : Voice) : Bool :=
  (s.voice v).state = .claiming && (s.voice v).claim = some 0

/-- The claim is granted (R134). -/
def State.grant (s : State) (v : Voice) : State := (s.enterPriming v .granted).syncTalking

/-- The quiet timer exceeds the quiet limit of the current clip (R136). -/
def State.quietDue (s : State) (v : Voice) : Bool :=
  let x := s.voice v
  match x.state, x.current with
  | .waitQuiet, some c => (s.clipOf c.clip).quietLimit < x.quiet
  | .claiming, some c => (s.clipOf c.clip).quietLimit < x.quiet
  | _, _ => false

/-- The quiet limit: a must-play clip plays by courtesy, any other is dropped (R136). -/
def State.passQuietLimit (s : State) (v : Voice) : State :=
  match (s.voice v).current with
  | none => s
  | some c =>
    if (s.clipOf c.clip).mustPlay then (s.enterPriming v .courtesy).syncTalking
    else
      let s := s.report .queueDrop c.clip.val .quietLimit
      (((s.onVoice v fun x => { x with current := none }).startHead v).post [.drained v]).syncTalking

/-- A TALK of this station was sent: the claim window starts (R134). -/
def State.talkSent (s : State) (v : Voice) (id : Nat) : State :=
  let x := s.voice v
  if x.state = .claiming && x.claimId = id then
    s.setVoice v { x with claim := some s.claimWindow }
  else s

/-- A TALK of this station was given up (R134). -/
def State.talkLost (s : State) (v : Voice) (id : Nat) : State :=
  if (s.voice v).claimId = id then s.backOff v else s

/-! ### Hold -/

/-- Hold comes into effect for a voice (R142). -/
def State.voiceHoldBegins (s : State) (v : Voice) : State :=
  let x := s.voice v
  match x.state with
  | .playing =>
    s.setVoice v { x with state := .tailing, tailPause := true, tailCount := 0, goal := 0 }
  | _ => s

/-- Hold goes out of effect for a voice (R142). -/
def State.voiceHoldEnds (s : State) (v : Voice) : State :=
  let x := s.voice v
  match x.state with
  | .paused => (s.setVoice v { x with state := .playing, ramp := 0, goal := x.airGoal }).refill v
  | .tailing =>
    if x.tailPause then
      (s.setVoice v { x with state := .playing, goal := x.airGoal }).refill v
    else s
  | .priming => s.primeTest v
  | .waitQuiet => s.judgeAir v
  | _ => s

/-- Entry to CONFIG_FAULT: a voice as after power-on reset, a burst in flight becoming DISCARD
(R146). -/
def VoiceRec.silenced (x : VoiceRec) : VoiceRec :=
  { VoiceRec.clear with burst := if x.burst = .none then .none else .discard, claimId := x.claimId }

end Sys2Proof.Machine
end

