-- ==== Sys2Proof/Machine/Hold.lean ====
section
/-! DEFINITION. The Hold Logic (chapter 11) beside local hold itself: the sampled line, hold in
effect and its presentation to the job blocks, the stuck line. -/

namespace Sys2Proof.Machine

/-- Some peer counts as reporting local hold (R45). -/
def State.peerHold (s : State) : Bool := s.ptb.any fun e => e.fresh && e.localHold

/-- The stuck timer's limit: three beacon periods (R163). -/
def State.stuckLimit (s : State) : Nat := 3 * s.beaconPeriod

/-- The release timer at a sample of the line (R161). -/
def releaseNext (low inEffect : Bool) (t : Option Nat) : Option Nat :=
  if low then none
  else if inEffect then
    match t with
    | none => some 0
    | some n => some (n + 1)
  else none

/-- The hold release delay in force. -/
def State.releaseDelay (s : State) : Nat :=
  match s.cfg with
  | some c => c.releaseDelay
  | none => 0

/-- A release timer has reached a delay (R161). -/
def releaseReached (delay : Nat) : Option Nat → Bool
  | some n => delay ≤ n
  | none => false

/-- The Hold Logic's work at a beat: where hold is judged, the line is sampled with this station's own
drive, and the release and stuck timers move. The end of hold is due from the sample at which the release
timer stands at or above the delay in force, until a low sample (R161, R162, R163). -/
def State.holdBeat (s : State) (holdOther : Bool) : State :=
  let low := holdOther || s.hld.localHold
  if s.configured then
    let stuck := low && !s.hld.localHold && !s.peerHold
    s.onHld fun h =>
      { h with
        lineLow := low
        release := releaseNext low h.inEffect h.release
        releaseDue := releaseReached s.releaseDelay (releaseNext low h.inEffect h.release)
        stuck :=
          if stuck then
            (if !h.stuckReported && h.stuck < s.stuckLimit then h.stuck + 1 else h.stuck)
          else 0
        stuckReported := stuck && h.stuckReported }
  else s.onHld fun h => { h with lineLow := false, release := none, releaseDue := false }

/-- A report of local hold from a peer sets the stuck timer to 0 (R163). -/
def State.holdReported (s : State) : State :=
  s.onHld fun h => { h with stuck := 0, stuckReported := false }

/-- The stuck timer has reached three beacon periods in this episode (R163). Where a newly accepted beacon
period puts the limit below the timer it is due at once, so that the next BEAT takes it before its sample:
the model's choice (log entry 40). -/
def State.stuckDue (s : State) : Bool :=
  s.configured && !s.hld.stuckReported && 0 < s.hld.stuck && s.stuckLimit ≤ s.hld.stuck

/-- HOLD_LINE_STUCK is reported, once in an episode (R163). -/
def State.reportStuck (s : State) : State :=
  (s.onHld fun h => { h with stuckReported := true }).report .holdLineStuck s.sul.number.val

/-- The line was sampled low where hold is judged, and hold is not yet in effect (R161). -/
def State.holdBeginDue (s : State) : Bool := s.configured && s.hld.lineLow && !s.hld.inEffect

/-- Hold comes into effect and is presented to the job blocks (R161, R162). -/
def State.beginHold (s : State) : State :=
  let s := s.onHld fun h => { h with inEffect := true, release := none, releaseDue := false }
  let s := s.lightsHoldBegins
  let s := forEach allVoices (fun v s => s.voiceHoldBegins v) s
  forEach allAxes (fun a s => s.axisHoldBegins a) s

/-- The release timer has reached the hold release delay at a sample of the line; a delay made smaller since
tells from the next beat on (R161). -/
def State.holdEndDue (s : State) : Bool := s.hld.inEffect && s.hld.releaseDue

/-- Hold goes out of effect and is presented to the job blocks: lights and voices go on, HELD axes
resume, runs that waited for it are tested and execute their cues, the admission line is examined
and the queue is served (R162). The order among slots, axes and voices is the model's choice: each from the
lowest, the axes before the runs' cues, and the runs' tests and cues before the service of the queue (log
entries 37 and 38). -/
def State.endHold (s : State) : State :=
  let s := s.onHld fun h => { h with inEffect := false, release := none, releaseDue := false }
  let s := s.lightsHoldEnds
  let s := s.post ((allSlots.flatMap fun i => [Signal.slotTest i, .runCues i]) ++ [.examine, .serve])
  let s := forEach allAxes (fun a s => s.resume a) s
  (forEach allVoices (fun v s => s.voiceHoldEnds v) s).syncTalking

end Sys2Proof.Machine
end

