-- ==== Sys2Proof/Machine/Inputs.lean ====
section
/-! DEFINITION. The Visitor Input Unit (chapter 4): debounce, buttons, presence groups, guards and hold
keys. -/

namespace Sys2Proof.Machine

/-- The sample of a pin: active or inactive by the polarity (section 4.2). -/
def activeSample (c : InputCfg) (pin : Bool) : Bool := if c.activeLow then !pin else pin

/-- The record of an input after a beat's sample and held timer (R49, R54). -/
def InputRec.beat (x : InputRec) (c : InputCfg) (pin active : Bool) : InputRec :=
  if c.kind = .unused then x
  else
    { x with
      stability := if activeSample c pin = x.level then 0 else min (x.stability + 1) 255
      held := if c.kind = .button && active && x.level && !x.stuck then x.held + 1 else x.held }

/-- An input's stability count has reached its debounce time (R49). -/
def State.changeDue (s : State) (i : Fin 8) : Bool :=
  match s.inputCfg i with
  | some c => c.kind ≠ .unused && 0 < c.debounce && c.debounce ≤ (s.viu.inputs[i]).stability
  | none => false

/-- A button's held timer exceeds its stuck limit (R54). -/
def State.stuckInputDue (s : State) (i : Fin 8) : Bool :=
  match s.inputCfg i with
  | some c =>
    s.sul.station = .active && c.kind = .button && (s.viu.inputs[i]).level &&
      !(s.viu.inputs[i]).stuck && c.stuckLimit * 1000 < (s.viu.inputs[i]).held
  | none => false

/-- The stuck mark is set and INPUT_STUCK reported (R54). -/
def State.markStuck (s : State) (i : Fin 8) : State :=
  (s.onInput i fun x => { x with stuck := true }).report .inputStuck i.val

/-! ### Presence groups -/

/-- Some PRESENCE input of the group is active (R55). -/
def State.memberActive (s : State) (g : Fin 4) : Bool :=
  allInputs.any fun i =>
    match s.inputCfg i with
    | some c => c.kind = .presence && c.group = g && (s.viu.inputs[i]).level
    | none => false

/-- The settings of a group in force. -/
def State.groupCfg (s : State) (g : Fin 4) : GroupCfg :=
  match s.cfg with
  | some c => c.groups[g]
  | none => { linger := 0, arrival := none }

/-- A group enters a state and is presented to the Scene Engine (R57). -/
def State.groupEnters (s : State) (g : Fin 4) (state : GroupState) (timer : Nat) : State :=
  (s.onGroup g fun _ => { state := state, timer := timer }).post [.groupChanged g]

/-- A group goes from IDLE to OCCUPIED and requests its arrival scene (R56). -/
def State.groupArrives (s : State) (g : Fin 4) : State :=
  let s := match (s.groupCfg g).arrival with
    | some n => s.post [.request n (.presence g)]
    | none => s
  s.groupEnters g .occupied 0

/-- A change of a member of a group in ACTIVE (TABLE XXIV). -/
def State.memberChanged (s : State) (g : Fin 4) (activation : Bool) : State :=
  match (s.viu.groups[g]).state, activation with
  | .idle, true => s.groupArrives g
  | .linger, true => s.groupEnters g .occupied 0
  | .occupied, false =>
    if s.memberActive g then s
    else
      let t := (s.groupCfg g).linger
      if t = 0 then s.groupEnters g .idle 0 else s.groupEnters g .linger t
  | _, _ => s

/-- A group's linger timer has run out (R55). -/
def State.lingerDue (s : State) (g : Fin 4) : Bool :=
  (s.viu.groups[g]).state = .linger && (s.viu.groups[g]).timer = 0

/-- The linger timer falls at a beat (R55). -/
def Group.beat (g : Group) : Group :=
  if g.state = .linger then { g with timer := g.timer - 1 } else g

/-- The first beat in ACTIVE judges the groups: each with an active member arrives (R58). -/
def State.judgeGroups (s : State) : State :=
  if s.viu.judgeGroups && s.sul.station = .active then
    let s := s.onViu fun u => { u with judgeGroups := false }
    forEach allGroups
      (fun g s =>
        if (s.viu.groups[g]).state = .idle && s.memberActive g then s.groupArrives g else s) s
  else s

/-! ### Changes by kind -/

/-- A press of a button: the latch, the local scene request and the announced CUE (R51, R52). The CUE joins the
outbound queue, or is dropped, before the request is disposed of: the model's choice (log entry 45). -/
def State.press (s : State) (i : Fin 8) (c : InputCfg) : State :=
  match c.localScene, c.cue with
  | none, none => s
  | scene, cue =>
    let s := s.onInput i fun x => { x with latch := scene.isSome, presses := 1 }
    let s := match scene with
      | some n => s.post [.request n (.button i)]
      | none => s
    match cue with
    | some k => s.enqueue (.cueLong k s.clk.showTime) .viu
    | none => s

/-- A change of a BUTTON input (R51, R53, R54). -/
def State.buttonChanged (s : State) (i : Fin 8) (c : InputCfg) (activation : Bool) : State :=
  let x := s.viu.inputs[i]
  if activation then
    if s.sul.station = .active && !x.stuck then
      if x.latch then s.onInput i fun x => { x with presses := min (x.presses + 1) 255 }
      else s.press i c
    else s
  else s.onInput i fun x => { x with stuck := false, held := 0 }

/-- A GUARD input's change is presented to each axis whose mask names it (R59, R155). -/
def State.guardPresented (s : State) (i : Fin 8) (activation : Bool) : State :=
  forEach allAxes
    (fun a s =>
      match s.axisCfg a with
      | some k =>
        if k.guardMask.getLsbD i.val then
          if activation then s.guardFalls a
          else if s.guardDue a then s.clearGuard a else s
        else s
      | none => s) s

/-- An input changes: its debounced level takes the sample's value, and the change is acted on by its
kind (R49, R50). -/
def State.changeInput (s : State) (i : Fin 8) : State :=
  match s.inputCfg i with
  | none => s
  | some c =>
    let now := !(s.viu.inputs[i]).level
    let s := s.onInput i fun x => { x with level := now, stability := 0 }
    match c.kind with
    | .button => s.buttonChanged i c now
    | .presence => if s.sul.station = .active then s.memberChanged c.group now else s
    | .guard => s.guardPresented i now
    | .holdKey => s.syncLocalHold
    | .unused => s

/-- The Visitor Input Unit's work at a beat (R49, R54, R55, R58). At the first beat in ACTIVE the groups are
judged on the levels as they stood before that beat's own changes: the model's choice (log entry 44). -/
def State.inputsBeat (s : State) (pins : Pins) : State :=
  match s.cfg with
  | none => s
  | some cfg =>
    let active : Bool := s.sul.station = .active
    let s := forEach allInputs
      (fun i s => s.onInput i fun x => x.beat cfg.inputs[i] (pins.vin.getLsbD i.val) active) s
    let s := s.onViu fun u => { u with groups := vmap Group.beat u.groups }
    s.judgeGroups

/-- The press latch of a button's request clears when the request's outcome is reported (R52). -/
def State.clearLatch (s : State) (i : Fin 8) : State := s.onInput i fun x => { x with latch := false }

/-- The inputs at the acceptance of an image: one whose kind, polarity or debounce time differs loses
its level and count (R48). -/
def InputRec.accept (x : InputRec) (old : Option InputCfg) (new : InputCfg) : InputRec :=
  match old with
  | none => { x with level := false, stability := 0 }
  | some o =>
    if o.kind = new.kind && o.activeLow = new.activeLow && o.debounce = new.debounce then x
    else { x with level := false, stability := 0 }

/-- All groups go to IDLE with their timers stopped; each that was not is presented (R62). -/
def State.idleGroups (s : State) : State :=
  forEach allGroups
    (fun g s => if (s.viu.groups[g]).state = .idle then s else s.groupEnters g .idle 0) s

/-- The Visitor Input Unit at the start of a RESTART (R62). -/
def State.inputsRestart (s : State) : State :=
  let s := s.onViu fun u =>
    { u with
      inputs := vmap (fun x => { x with latch := false, presses := 0, stuck := false, held := 0 })
        u.inputs
      judgeGroups := false }
  s.idleGroups

end Sys2Proof.Machine
end

