-- ==== Sys2Proof/Machine/Operands.lean ====
section
/-! DEFINITION. Operands: the ranges of cue operands (TABLE XXXVII, TABLE XXXVIII, R85, R176) and of
order operands (13.1, R97), which turn raw bytes into typed actions. -/

namespace Sys2Proof.Machine

/-- A byte as a number below `n`, when it is one. -/
def finOf (n : Nat) (b : Byte) : Option (Fin n) :=
  if h : b.toNat < n then some ⟨b.toNat, h⟩ else none

/-- A byte as a two-valued code: 00h false, 01h true. -/
def boolOf (b : Byte) : Option Bool :=
  if b = 0#8 then some false else if b = 1#8 then some true else none

/-- The voice that a code names (13.1, R176). -/
def voiceOf (b : Byte) : Option Voice :=
  if b = 0#8 then some .a else if b = 1#8 then some .b else none

/-- A cue whose operands lie in their ranges. -/
inductive Act where
  | fade (channel : Fin 16) (target duration : Nat)
  | cycle (channel : Fin 16) (table : Fin 4) (blend : Nat)
  | clip (voice : Voice) (clip : Fin 256) (cut : Bool)
  | silence (voice : Voice)
  | move (axis : Fin 4) (target : Int) (profile : Fin 4)
  | home (axis : Fin 4)
  | flag (flag : Fin 4) (value : Bool)
  | announce (cue : Byte) (delay : Nat)
  | direct (station : Fin 32) (scene : Fin 64) (delay : Nat)
  | start (scene : Fin 64)
  | await (kind : AwaitKind) (timeout : Nat) (onEnd : Bool)
deriving DecidableEq, Repr

/-- The await that a kind code and two operand bytes name (R175, R176). -/
def awaitOf (kind op1 op2 : Byte) : Option AwaitKind :=
  match kind.toNat with
  | 0 =>
    match finOf 32 op1 with
    | some st =>
      if op2 &&& 0xEC#8 = 0#8 then
        some (.peerFlag st ⟨op2.toNat % 4, Nat.mod_lt _ (by decide)⟩ (op2.getLsbD 4))
      else none
    | none => none
  | 1 => (voiceOf op1).map .voiceIdle
  | 2 => (finOf 4 op1).map .axisIdle
  | 3 =>
    match finOf 4 op1, boolOf op2 with
    | some g, some idle => some (.presence g (!idle))
    | _, _ => none
  | _ => none

/-- The typed action of a cue; none for an unknown action or an operand outside its range (R85). -/
def actOf : Cue → Option Act
  | .fade ch target duration => (finOf 16 ch).map fun c => .fade c target.toNat duration.toNat
  | .cycle ch table blend =>
    match finOf 16 ch, finOf 4 table with
    | some c, some t => some (.cycle c t blend.toNat)
    | _, _ => none
  | .clip voice clip mode =>
    match voiceOf voice, boolOf mode with
    | some v, some cut => some (.clip v ⟨clip.toNat, clip.isLt⟩ cut)
    | _, _ => none
  | .silence voice => (voiceOf voice).map .silence
  | .move axis target profile =>
    match finOf 4 axis, finOf 4 profile with
    | some a, some k => some (.move a target.toInt k)
    | _, _ => none
  | .home axis => (finOf 4 axis).map .home
  | .flag flag value =>
    match finOf 4 flag, boolOf value with
    | some f, some b => some (.flag f b)
    | _, _ => none
  | .announce cue delay => some (.announce cue delay.toNat)
  | .direct station scene delay =>
    match finOf 32 station, finOf 64 scene with
    | some st, some n => some (.direct st n delay.toNat)
    | _, _ => none
  | .start scene => (finOf 64 scene).map .start
  | .await kind op1 op2 timeout onTimeout =>
    match awaitOf kind op1 op2, boolOf onTimeout with
    | some k, some e => some (.await k timeout.toNat e)
    | _, _ => none
  | .unknown _ => none

/-- The claim-table place whose resource an action needs (TABLE XXXVII). -/
def Act.needs : Act → Option (Fin 6)
  | .clip v _ _ => some (voicePlace v)
  | .silence v => some (voicePlace v)
  | .move a _ _ => some (axisPlace a)
  | .home a => some (axisPlace a)
  | _ => none

/-! ### Orders -/

/-- The code of an order kind (13.1). -/
def OrderKind.code : OrderKind → Byte
  | .start => 1#8
  | .stop => 2#8
  | .stopAll => 3#8
  | .setFlag => 4#8
  | .hold => 5#8
  | .query => 6#8
  | .clearFaults => 7#8
  | .restart => 8#8

/-- An order whose operands lie in their ranges (TABLE XL). -/
inductive Order where
  | start (scene : Fin 64)
  | stop (scene : Fin 64)
  | stopAll
  | setFlag (flag : Fin 4) (value : Bool)
  | hold (on : Bool)
  | query (page part : Nat)
  | clearFaults
  | restart
deriving DecidableEq, Repr

/-- The order that a kind and its operand bytes make; none when their count differs from the table or
one is out of its range (R174). -/
def orderOf (kind : OrderKind) (ops : List Byte) : Option Order :=
  match kind, ops with
  | .start, [n] => (finOf 64 n).map .start
  | .stop, [n] => (finOf 64 n).map .stop
  | .stopAll, [] => some .stopAll
  | .setFlag, [f, v] =>
    match finOf 4 f, boolOf v with
    | some f, some b => some (.setFlag f b)
    | _, _ => none
  | .hold, [v] => (boolOf v).map .hold
  | .query, [sel] =>
    if sel.toNat % 32 ≤ 20 then some (.query (sel.toNat % 32) (sel.toNat / 32)) else none
  | .clearFaults, [] => some .clearFaults
  | .restart, [] => some .restart
  | _, _ => none

end Sys2Proof.Machine
end

