-- ==== Sys2Proof/Machine/Scenes.lean ====
section
/-! DEFINITION. The Scene Engine's runs (chapter 5): claims, reads, the states of a run, dispositions of
scene requests, the request queue and its service, stops. -/

namespace Sys2Proof.Machine

/-! ### Answers and outcomes -/

def outcomeDone : Byte := 0#8
def outcomeBusy : Byte := 1#8
def outcomeRefused : Byte := 2#8
def outcomeUnknown : Byte := 3#8

def reasonNone : Byte := 0#8
def reasonNotPermitted : Byte := 1#8
def reasonConfigFault : Byte := 2#8
def reasonBadOperand : Byte := 3#8
def reasonNoScene : Byte := 4#8
def reasonQueueFull : Byte := 5#8
def reasonStartFailed : Byte := 6#8

/-- The disposition byte of a START answer (R174). -/
def Disposition.code : Disposition → Byte
  | .ignored => 0#8
  | .restarted => 1#8
  | .merged => 2#8
  | .queued => 3#8
  | .started => 4#8
  | .refused => 5#8
  | .dropped => 6#8
  | .failed => 7#8

/-- The outcome and reason with which a START is answered (R99). -/
def Disposition.answer : Disposition → Byte × Byte
  | .refused => (outcomeRefused, reasonNoScene)
  | .dropped => (outcomeRefused, reasonQueueFull)
  | .failed => (outcomeRefused, reasonStartFailed)
  | _ => (outcomeDone, reasonNone)

/-- Queue an answer (R97, R98). -/
def State.answer (s : State) (target : Fin 32) (kind outcome reason : Byte) (data : List Byte) : State :=
  s.enqueue (.answer target kind outcome reason data false) .sce

/-- The latched order completes: its answer is queued and the latch is EMPTY (R98). -/
def State.complete (s : State) (outcome reason : Byte) (data : List Byte) : State :=
  match s.sce.latch with
  | none => s
  | some l =>
    (s.onSce fun e => { e with latch := none }).answer l.sender l.kind.code outcome reason data

/-- The origin of a request is told its outcome: the press latch of a button clears (R52), a START is
answered (R99), the others are not told (R64). -/
def State.told (s : State) (scene : Fin 64) (origin : ReqOrigin) (d : Disposition) : State :=
  match origin with
  | .button i => s.clearLatch i
  | .order _ =>
    match s.sce.latch with
    | some l =>
      if l.kind = .start then
        s.complete d.answer.1 d.answer.2 [BitVec.ofNat 8 scene.val, d.code]
      else s
    | none => s
  | _ => s

/-- Tell an origin that is still to be told. -/
def State.toldIf (s : State) (tell : Bool) (scene : Fin 64) (origin : ReqOrigin) (d : Disposition) :
    State :=
  if tell then s.told scene origin d else s

/-! ### Claims -/

/-- A voice is IDLE with an empty clip queue (R75). -/
def VoiceRec.idle (x : VoiceRec) : Bool := x.state = .idle && x.queue.isEmpty

/-- The owner of a claimable resource reports it idle (R75, R78). -/
def State.resourceIdle (s : State) (r : Fin 6) : Bool :=
  match r with
  | 0 => (s.axis 0).idle
  | 1 => (s.axis 1).idle
  | 2 => (s.axis 2).idle
  | 3 => (s.axis 3).idle
  | 4 => s.nre.a.idle
  | 5 => s.nre.b.idle

/-- The slot that holds a resource (R67). -/
def State.holder (s : State) (r : Fin 6) : Option (Fin 4) := s.sce.claims[r]

/-- The resources a slot holds. -/
def State.heldBy (s : State) (i : Fin 4) : List (Fin 6) :=
  [(0 : Fin 6), 1, 2, 3, 4, 5].filter fun r => s.holder r = some i

/-- Who wants a resource: a run in CLAIMING, or the successor of a slot (R67). -/
inductive Wanter where
  | run (slot : Fin 4)
  | successor (slot : Fin 4)
deriving DecidableEq, Repr

/-- A run in CLAIMING wants a resource (R67). -/
def State.runWants (s : State) (r : Fin 6) (i : Fin 4) : Bool :=
  (s.slot i).state = .claiming && (s.slot i).claims.getLsbD r.val && s.holder r ≠ some i

/-- A slot's successor wants a resource (R67). -/
def State.successorWants (s : State) (r : Fin 6) (i : Fin 4) : Bool :=
  match (s.slot i).successor with
  | some u => u.claims.getLsbD r.val
  | none => false

/-- The run or successor that wants a resource (R67). -/
def State.wanter (s : State) (r : Fin 6) : Option Wanter :=
  match allSlots.find? (s.runWants r) with
  | some i => some (.run i)
  | none => (allSlots.find? (s.successorWants r)).map .successor

/-- A resource is free: neither held nor wanted (R67). -/
def State.isFree (s : State) (r : Fin 6) : Bool := (s.holder r).isNone && (s.wanter r).isNone

/-- A slot releases a resource: it passes straight to the run in CLAIMING that wants it, stays empty for
a successor, and is otherwise free, a service event (R71, R78). The slot is then tested. -/
def State.releaseClaim (s : State) (i : Fin 4) (r : Fin 6) : State :=
  if s.holder r = some i then
    let s := s.setClaim r none
    match s.wanter r with
    | some (.run k) => (s.setClaim r (some k)).post [.slotTest k, .slotTest i]
    | some (.successor _) => s.post [.slotTest i]
    | none => s.post [.slotTest i, .serve]
  else s

/-- Map every free resource of a slot's claims to it (R73). -/
def State.mapFree (s : State) (i : Fin 4) (free : Fin 6 → Bool) : State :=
  forEach (placesOf (s.slot i).claims)
    (fun r s => if free r then s.setClaim r (some i) else s) s

/-! ### Scene reads -/

/-- The cues that a read brings first (R72, R83). -/
def firstCues (e : SceneEntry) : Nat := min 8 e.cueCount

/-- Ask the port for a scene read of a slot's run (R72, R83). -/
def State.askRead (s : State) (i : Fin 4) (kind : ReadKind) (address count : Nat) : State :=
  let x := s.slot i
  (s.setSlot i { x with read := .wanted kind }).askPort (.scene i x.run kind)
    (address % addressSpace) count

/-- The initial read: the header and the first cues (R72, R176). -/
def State.askInitial (s : State) (i : Fin 4) : State :=
  match s.sceneEntry (s.slot i).scene with
  | some e => s.askRead i .initial e.address (2 + 10 * firstCues e)
  | none => s

/-- The reload read, from the first cue (R83, R176). -/
def State.askReload (s : State) (i : Fin 4) : State :=
  match s.sceneEntry (s.slot i).scene with
  | some e => s.askRead i .reload (e.address + 2) (10 * firstCues e)
  | none => s

/-- The refill conditions and the refill read (R83, R176). -/
def State.refillCues (s : State) (i : Fin 4) : State :=
  let x := s.slot i
  match s.sceneEntry x.scene with
  | some e =>
    if (x.state = .running || x.state = .waiting) && x.window.length ≤ 2 && x.unread < e.cueCount &&
        x.read = .none then
      s.askRead i .refill (e.address + 2 + 10 * x.unread)
        (10 * min (8 - x.window.length) (e.cueCount - x.unread))
    else s
  | none => s

/-- A run starts again from its first cue: the window is emptied and a reload read requested at once, or
when the read in flight has completed (R66, R75, R83). -/
def State.rewind (s : State) (i : Fin 4) : State :=
  let x := s.slot i
  let y := { x with
    state := .running, sceneTime := 0#32, nextCue := 0, unread := 0, window := [], await := none
    stopReason := none }
  match x.read with
  | .none => (s.setSlot i y).askReload i
  | _ => s.setSlot i { y with read := .discard true }

/-! ### The end of a run -/

/-- The voices and axes a slot holds are given a stop and an abort (R76). -/
def State.stopResources (s : State) (i : Fin 4) : State :=
  let rs := s.heldBy i
  let s := if (4 : Fin 6) ∈ rs then s.stopForRun .a i else s
  let s := if (5 : Fin 6) ∈ rs then s.stopForRun .b i else s
  forEach allAxes (fun a s => if axisPlace a ∈ rs then s.abortAxis a else s) s

/-- Release at once each held resource whose owner reports it idle (R76). -/
def State.releaseIdle (s : State) (i : Fin 4) : State :=
  forEach (s.heldBy i) (fun r s => if s.resourceIdle r then s.releaseClaim i r else s) s

/-- A run that may be stopped: neither FREE nor already in STOPPING. -/
def RunState.stoppable : RunState → Bool
  | .free => false
  | .stopping => false
  | _ => true

/-- A run enters STOPPING, with the first reason it is given; a read in flight is to be discarded
(R76). -/
def Slot.stop (x : Slot) (reason : StopReason) : Slot :=
  { x with
    state := .stopping
    stopReason := match x.stopReason with
      | some r => some r
      | none => some reason
    await := none
    read := match x.read with
      | .none => .none
      | _ => .discard false }

/-- A run enters STOPPING (R76): voices stopped, axes aborted, idle resources released, wanted ones
dropped. -/
def State.stopRun (s : State) (i : Fin 4) (reason : StopReason) : State :=
  if (s.slot i).state.stoppable then
    ((((s.onSlot i (·.stop reason)).post [.slotTest i]).stopResources i).releaseIdle i)
  else s

/-- A successor is dropped from its slot and its origin told FAILED (R68, R77). -/
def State.dropSuccessor (s : State) (i : Fin 4) : State :=
  match (s.slot i).successor with
  | none => s
  | some u =>
    ((s.onSlot i fun x => { x with successor := none }).toldIf u.tell u.scene u.origin .failed).post
      [.latchTest]

/-- The claims of a slot's successor. -/
def State.successorClaims (s : State) (i : Fin 4) : Claims :=
  match (s.slot i).successor with
  | some u => u.claims
  | none => 0#6

/-- What dropped successors wanted may have become free, a service event (R71). -/
def State.serveFreed (s : State) (dropped : Claims) : State :=
  if (placesOf dropped).any s.isFree then s.post [.serve] else s

/-- The fields of a slot as a run leaves FREE (R67, R73). -/
def State.newRun (s : State) (state : RunState) (scene : Fin 64) (priority : Fin 4) (claims : Claims)
    (origin : ReqOrigin) (tell : Bool) : Slot :=
  { Slot.clear with
    state := state, scene := scene, priority := priority, claims := claims, origin := origin
    startTime := s.clk.showTime, tell := tell, run := s.sce.nextRun, leftFree := s.instant }

/-- Put a new run into a slot and count it. -/
def State.enterRun (s : State) (i : Fin 4) (x : Slot) : State :=
  (s.setSlot i x).onSce fun e => { e with nextRun := e.nextRun + 1 }

/-- A run enters CLAIMING in a slot: it maps what is free and asks for its read (R73). -/
def State.startClaiming (s : State) (i : Fin 4) (scene : Fin 64) (priority : Fin 4) (claims : Claims)
    (origin : ReqOrigin) (tell : Bool) : State :=
  let free := s.isFree
  (((s.enterRun i (s.newRun .claiming scene priority claims origin tell)).mapFree i free).askInitial
    i).post [.slotTest i]

/-- A run enters LOADING in a slot: every claim is mapped and the read requested (R67). -/
def State.startLoading (s : State) (i : Fin 4) (scene : Fin 64) (priority : Fin 4) (claims : Claims)
    (origin : ReqOrigin) (tell : Bool) : State :=
  ((s.enterRun i (s.newRun .loading scene priority claims origin tell)).mapFree i fun _ =>
    true).askInitial i

/-- A slot goes FREE: every claim is released, every field cleared, the origin of a run that never
reached RUNNING told FAILED; a successor takes the slot; the queue is served (R72, R75, R76). -/
def State.goFree (s : State) (i : Fin 4) : State :=
  let x := s.slot i
  let s := s.post [.latchTest, .restartTest, .serve]
  let s := s.setSlot i Slot.clear
  let s := forEach (s.heldBy i) (fun r s => s.releaseClaim i r) s
  let s := s.toldIf x.tell x.scene x.origin .failed
  match x.successor with
  | some u => s.startClaiming i u.scene u.priority u.claims u.origin u.tell
  | none => s

/-! ### Tests of a slot -/

/-- Every resource of a slot's claims is mapped to it (R73). -/
def State.allMapped (s : State) (i : Fin 4) : Bool :=
  (placesOf (s.slot i).claims).all fun r => s.holder r = some i

/-- A run in LOADING or CLAIMING may enter RUNNING (R72, R73). -/
def State.mayRun (s : State) (i : Fin 4) : Bool :=
  let x := s.slot i
  (x.state = .loading || x.state = .claiming) && x.loaded && s.allMapped i && !s.held

/-- Every resource of an ENDING run is idle (R75). -/
def State.endingIdle (s : State) (i : Fin 4) : Bool :=
  (s.slot i).state = .ending && (placesOf (s.slot i).claims).all s.resourceIdle

/-- A STOPPING slot holds no resource and has no read in flight (R76). -/
def State.stoppedOut (s : State) (i : Fin 4) : Bool :=
  (s.slot i).state = .stopping && (s.heldBy i).isEmpty && (s.slot i).read = .none

/-- A run enters RUNNING for the first time; its origin is told STARTED (R72, R73). -/
def State.enterRunning (s : State) (i : Fin 4) : State :=
  let x := s.slot i
  ((s.setSlot i { x with state := .running, tell := false }).toldIf x.tell x.scene x.origin
    .started).post [.refillCues i, .runCues i]

/-- Whether a scene loops. -/
def State.loops (s : State) (n : Fin 64) : Bool :=
  match s.sceneEntry n with
  | some e => e.loop
  | none => false

/-- An ENDING run whose resources are idle loops or goes FREE (R75). -/
def State.endRun (s : State) (i : Fin 4) : State :=
  if s.loops (s.slot i).scene && (s.slot i).stopReason.isNone then s.rewind i else s.goFree i

/-- Test a slot for the end of LOADING, CLAIMING, ENDING and STOPPING. -/
def State.testSlot (s : State) (i : Fin 4) : State :=
  if s.mayRun i then s.enterRunning i
  else if s.endingIdle i then s.endRun i
  else if s.stoppedOut i then s.goFree i
  else s

/-! ### Reads that end -/

/-- The cues of a read, numbered from `first` (R175). -/
def loadCues : Nat → Nat → List Byte → List LoadedCue
  | 0, _, _ => []
  | n + 1, first, bytes =>
    { index := first
      offset := field bytes 0 3
      cue := cueOf (BitVec.ofNat 8 (field bytes 3 1)) ((bytes.drop 4).take 6) } ::
      loadCues n (first + 1) (bytes.drop 10)

/-- A read whose data is to be discarded ends: a reload read that waits for it is requested (R83). -/
def State.discardRead (s : State) (i : Fin 4) (thenReload : Bool) : State :=
  let s := s.onSlot i fun x => { x with read := .none }
  if thenReload then s.askReload i else s.post [.slotTest i]

/-- The initial read has brought its bytes: the header is checked (R72). -/
def State.takeInitial (s : State) (i : Fin 4) (data : List Byte) : State :=
  let x := s.slot i
  match s.sceneEntry x.scene with
  | none => s
  | some e =>
    if field data 0 1 = x.scene.val && field data 1 1 = e.cueCount then
      (s.setSlot i
        { x with
          read := .none, loaded := true, unread := firstCues e
          window := loadCues (firstCues e) 0 (data.drop 2) }).post [.slotTest i]
    else (s.report .sceneRecordBad x.scene.val).goFree i

/-- A refill or reload read has brought its bytes: its cues join the window (R83). -/
def State.takeCues (s : State) (i : Fin 4) (data : List Byte) : State :=
  let x := s.slot i
  let n := data.length / 10
  (s.setSlot i
    { x with
      read := .none, unread := x.unread + n, window := x.window ++ loadCues n x.unread data }).post
    [.runCues i, .refillCues i]

/-- A scene read of a run completes with its data (R72, R83). -/
def State.readDone (s : State) (i : Fin 4) (run : Nat) (kind : ReadKind) (data : List Byte) : State :=
  let x := s.slot i
  if x.state = .free || x.run ≠ run then s
  else
    match x.read with
    | .none => s
    | .discard r => s.discardRead i r
    | .wanted _ => if kind = .initial then s.takeInitial i data else s.takeCues i data

/-- A scene read of a run has failed (R72, R74, R83). -/
def State.readFailed (s : State) (i : Fin 4) (run : Nat) (kind : ReadKind) : State :=
  let x := s.slot i
  if x.state = .free || x.run ≠ run then s
  else
    match x.read with
    | .none => s
    | .discard r => s.discardRead i r
    | .wanted _ =>
      let s := s.setSlot i { x with read := .none }
      if kind = .initial then s.goFree i else s.stopRun i .readFailed

/-! ### Disposition of requests -/

/-- Two claim sets share a resource. -/
def shares (a b : Claims) : Bool := a &&& b ≠ 0#6

/-- A request is blocked by the queue (R67). -/
def State.blocked (s : State) (priority : Fin 4) (claims : Claims) : Bool :=
  s.sce.queue.any fun q =>
    priority ≤ q.priority &&
      (match s.sceneEntry q.scene with
       | some e => shares claims e.claims
       | none => false)

/-- The lowest-numbered FREE slot. -/
def State.freeSlot (s : State) : Option (Fin 4) := allSlots.find? fun i => (s.slot i).state = .free

/-- The contender for a resource that is not free: who wants it, else the slot that holds it (R68). -/
def State.contender (s : State) (r : Fin 6) : Option Wanter :=
  match s.wanter r with
  | some w => some w
  | none => (s.holder r).map .run

/-- The priority of a contender. -/
def State.contenderPriority (s : State) : Wanter → Nat
  | .run i => (s.slot i).priority.val
  | .successor i =>
    match (s.slot i).successor with
    | some u => u.priority.val
    | none => 0

/-- The contenders of a request (R68). -/
def State.contenders (s : State) (claims : Claims) : List Wanter :=
  (placesOf claims).filterMap s.contender

/-- Slot `i` is chosen before slot `j` as the place of a request: lower priority, then later out of FREE,
then the higher number (R68). -/
def State.placeBefore (s : State) (i j : Fin 4) : Bool :=
  let x := s.slot i
  let y := s.slot j
  x.priority < y.priority ||
    (x.priority = y.priority &&
      (y.leftFree < x.leftFree || (x.leftFree = y.leftFree && j < i)))

/-- The first slot of a list in the order of `placeBefore`. -/
def State.bestPlace (s : State) : List (Fin 4) → Option (Fin 4)
  | [] => none
  | i :: rest =>
    match s.bestPlace rest with
    | none => some i
    | some j => if s.placeBefore i j then some i else some j

/-- The place found for a pre-empting request (R68). -/
def State.placeFor (s : State) (priority : Fin 4) : Option (Fin 4) :=
  match s.freeSlot with
  | some i => some i
  | none =>
    match allSlots.find? fun i => (s.slot i).state = .stopping && (s.slot i).successor.isNone with
    | some i => some i
    | none =>
      s.bestPlace (allSlots.filter fun i =>
        (s.slot i).state.stoppable && (s.slot i).priority < priority)

/-- The runs among contenders and the place that go to STOPPING (R68). -/
def victims (cs : List Wanter) (place : Fin 4) : List (Fin 4) :=
  allSlots.filter fun i => cs.contains (.run i) || i = place

/-- Pre-emption or succession with a place found (R68). -/
def State.preempt (s : State) (place : Fin 4) (scene : Fin 64) (e : SceneEntry) (origin : ReqOrigin)
    (tell : Bool) : State :=
  let cs := s.contenders e.claims
  let wasFree : Bool := (s.slot place).state = .free
  let stopped := (victims cs place).filter fun i => (s.slot i).state.stoppable
  let out := allSlots.filter fun i => cs.contains (.successor i)
  let dropped := (out.map s.successorClaims).foldl (· ||| ·) 0#6
  let s := forEach out (fun i s => s.dropSuccessor i) s
  let s := forEach stopped (fun i s => s.onSlot i (·.stop .preempted)) s
  let s :=
    if wasFree then s.startClaiming place scene e.priority e.claims origin tell
    else
      s.onSlot place fun x =>
        { x with
          successor := some
            { scene := scene, priority := e.priority, claims := e.claims, origin := origin, tell := tell } }
  forEach stopped (fun i s => ((s.post [.slotTest i]).stopResources i).releaseIdle i)
    (s.serveFreed dropped)

/-- Step 5 of TABLE XXX: the slot in which the request starts at once (R67). -/
def State.startsIn (s : State) (blocked : Bool) (claims : Claims) : Option (Fin 4) :=
  if !blocked && (placesOf claims).all s.isFree then s.freeSlot else none

/-- Step 6 of TABLE XXX: the place of a request that pre-empts or succeeds (R68). -/
def State.preemptsIn (s : State) (blocked : Bool) (e : SceneEntry) : Option (Fin 4) :=
  if !blocked && (s.contenders e.claims).all (fun w => s.contenderPriority w < e.priority.val) then
    s.placeFor e.priority
  else none

/-- Place an entry in the queue in service order (R69). -/
def insertRequest (q : Request) : List Request → List Request
  | [] => [q]
  | x :: rest => if q.priority ≤ x.priority then x :: insertRequest q rest else q :: x :: rest

/-- A request joins the queue, evicts its last entry, or is dropped (R69). -/
def State.join (s : State) (scene : Fin 64) (e : SceneEntry) (origin : ReqOrigin) : State :=
  let q : Request :=
    { scene := scene, priority := e.priority, origin := origin, joined := s.beats, patience := e.patience }
  if s.sce.queue.length < 8 then
    (s.onSce fun x => { x with queue := insertRequest q x.queue }).told scene origin .queued
  else
    match s.sce.queue.getLast? with
    | none => s
    | some last =>
      if last.priority < q.priority then
        (((s.onSce fun x => { x with queue := insertRequest q x.queue.dropLast }).report .queueDrop
          last.scene.val .requestQueue)).told scene origin .queued
      else (s.report .queueDrop scene.val .requestQueue).told scene origin .dropped

/-- The slot whose run plays a scene. -/
def State.slotOf (s : State) (n : Fin 64) : Option (Fin 4) :=
  allSlots.find? fun i => (s.slot i).state ≠ .free && (s.slot i).scene = n

/-- A scene is the successor of some slot. -/
def State.isSuccessor (s : State) (n : Fin 64) : Bool :=
  allSlots.any fun i =>
    match (s.slot i).successor with
    | some u => u.scene = n
    | none => false

/-- Restart in place (R66). -/
def State.restartInPlace (s : State) (i : Fin 4) : State :=
  let c := (s.slot i).claims
  let s := s.rewind i
  let s := if c.getLsbD 4 then s.stopForRun .a i else s
  if c.getLsbD 5 then s.stopForRun .b i else s

/-- The outcome of a request for a scene at scene time 0 that has not begun (R66). -/
def waitingOutcome (lockout : Nat) : Disposition := if 0 < lockout then .ignored else .restarted

/-- Step 2 of TABLE XXX for a scene in a slot (R66). -/
def State.disposeInSlot (s : State) (i : Fin 4) (scene : Fin 64) (lockout : Nat) (origin : ReqOrigin) :
    State :=
  match (s.slot i).state with
  | .loading => s.told scene origin (waitingOutcome lockout)
  | .claiming => s.told scene origin (waitingOutcome lockout)
  | .stopping => s.told scene origin .ignored
  | .free => s
  | _ =>
    if (s.slot i).sceneTime.toNat < lockout then s.told scene origin .ignored
    else (s.restartInPlace i).told scene origin .restarted

/-- A request is merged into the queue entry for its scene (R65). -/
def mergeRequest (scene : Fin 64) (origin : ReqOrigin) (q : Request) : Request :=
  if q.scene = scene then { q with origin := origin } else q

/-- Steps 4 to 7 of TABLE XXX, for a scene in no slot and not queued (R65). -/
def State.disposeNew (s : State) (scene : Fin 64) (e : SceneEntry) (origin : ReqOrigin) : State :=
  if s.held || s.sul.station ≠ .active then s.join scene e origin
  else
    let blocked := s.blocked e.priority e.claims
    match s.startsIn blocked e.claims with
    | some i => s.startLoading i scene e.priority e.claims origin true
    | none =>
      match s.preemptsIn blocked e with
      | some i => s.preempt i scene e origin true
      | none => s.join scene e origin

/-- The station states in which requests are disposed of in full (R64). -/
def Station.runsShow : Station → Bool
  | .learning => true
  | .joining => true
  | .active => true
  | _ => false

/-- Whether an origin is an ORDER. -/
def ReqOrigin.isOrder : ReqOrigin → Bool
  | .order _ => true
  | _ => false

/-- The disposition of a scene request (R64, R65). -/
def State.dispose (s : State) (scene : Fin 64) (origin : ReqOrigin) : State :=
  if !s.sul.station.runsShow then s.told scene origin .refused
  else
    match s.sceneEntry scene with
    | none =>
      (if origin.isOrder then s else s.report .cueInvalid scene.val).told scene origin .refused
    | some e =>
      match s.slotOf scene with
      | some i => s.disposeInSlot i scene e.lockout origin
      | none =>
        if s.isSuccessor scene then s.told scene origin (waitingOutcome e.lockout)
        else if s.sce.queue.any fun q => q.scene = scene then
          (s.onSce fun x => { x with queue := x.queue.map (mergeRequest scene origin) }).told scene
            origin .merged
        else s.disposeNew scene e origin

/-! ### Service of the queue -/

/-- Remove the entry of a scene from the queue. -/
def State.unqueue (s : State) (scene : Fin 64) : State :=
  s.onSce fun x => { x with queue := x.queue.filter fun q => q.scene ≠ scene }

/-- Examine queue entries in service order with the set of resources waited on (R71). -/
def State.serveFrom : List Request → Claims → State → State
  | [], _, s => s
  | q :: rest, waited, s =>
    match s.sceneEntry q.scene with
    | none => State.serveFrom rest waited s
    | some e =>
      match s.startsIn (shares e.claims waited) e.claims with
      | some i =>
        State.serveFrom rest waited
          ((s.unqueue q.scene).startLoading i q.scene q.priority e.claims q.origin false)
      | none =>
        match s.preemptsIn (shares e.claims waited) e with
        | some i =>
          State.serveFrom rest waited ((s.unqueue q.scene).preempt i q.scene e q.origin false)
        | none => State.serveFrom rest (waited ||| e.claims) s

/-- A service event of the request queue (R71). -/
def State.serve (s : State) : State :=
  if s.sul.station = .active && !s.held then State.serveFrom s.sce.queue 0#6 s else s

/-- A queue entry has expired (R70). -/
def State.expired (s : State) (q : Request) : Bool :=
  match s.sceneEntry q.scene with
  | some e => 0 < e.patience && q.patience = 0
  | none => false

/-- The patience of the queue entries falls at a beat (R70). -/
def State.patienceBeat (s : State) : State :=
  s.onSce fun x => { x with queue := x.queue.map fun q => { q with patience := q.patience - 1 } }

/-- The request of a scene has run out of patience. -/
def State.patienceDue (s : State) (n : Fin 64) : Bool :=
  s.sce.queue.any fun q => q.scene = n && s.expired q

/-- A request expires (R70). -/
def State.expireRequest (s : State) (n : Fin 64) : State :=
  ((s.unqueue n).report .queueDrop n.val .requestExpiry).post [.latchTest, .serve]

/-! ### Stops -/

/-- A stop for one scene (R77). -/
def State.stopScene (s : State) (n : Fin 64) (reason : StopReason) : State :=
  let queued := s.sce.queue.any fun q => q.scene = n
  let s := if queued then (s.unqueue n).post [.serve] else s
  let s := forEach allSlots
    (fun i s =>
      match (s.slot i).successor with
      | some u => if u.scene = n then (s.dropSuccessor i).serveFreed u.claims else s
      | none => s) s
  match s.slotOf n with
  | some i => s.stopRun i reason
  | none => s

/-- A stop for every scene (R77, R81). -/
def State.stopEverything (s : State) (reason : StopReason) : State :=
  let s := s.onSce fun x => { x with queue := [] }
  let s := forEach allSlots (fun i s => s.dropSuccessor i) s
  forEach allSlots (fun i s => s.stopRun i reason) s

/-- A scene is in no slot, successor place or queue entry (R77). -/
def State.gone (s : State) (n : Fin 64) : Bool :=
  (s.slotOf n).isNone && !s.isSuccessor n && !(s.sce.queue.any fun q => q.scene = n)

/-- Every slot is FREE. -/
def State.allFree (s : State) : Bool := allSlots.all fun i => (s.slot i).state = .free

/-- The latched STOP or STOP_ALL is complete (R77, R99). -/
def State.stopComplete (s : State) : Bool :=
  match s.sce.latch with
  | some l =>
    match orderOf l.kind l.operands with
    | some (.stop n) => s.gone n
    | some .stopAll => s.allFree && s.sce.queue.isEmpty
    | _ => false
  | none => false

/-- Test the order latch for the end of a STOP or STOP_ALL (R77). -/
def State.latchTest (s : State) : State :=
  if s.stopComplete then s.complete outcomeDone reasonNone [] else s

end Sys2Proof.Machine
end

