-- ==== Sys2Proof/Machine/Cues.lean ====
section
/-! DEFINITION. Cues, awaits, listen windows and the pending cue list (chapter 6). -/

namespace Sys2Proof.Machine

/-! ### Awaits -/

/-- The condition of an await holds (TABLE XXXVIII, R44). -/
def State.awaitHolds (s : State) : AwaitKind → Bool
  | .peerFlag st f v =>
    match s.peer st.val with
    | some e => e.fresh && e.flags.getLsbD f.val = v
    | none => false
  | .voiceIdle v => (s.voice v).idle
  | .axisIdle a => (s.axis a).idle
  | .presence g occupied =>
    (s.viu.groups[g]).state = (if occupied then GroupState.occupied else GroupState.idle)

/-- An await ends and its run returns to RUNNING (R90). -/
def State.awaitMet (s : State) (i : Fin 4) : State :=
  (s.onSlot i fun x => { x with state := .running, await := none }).post [.refillCues i, .runCues i]

/-- The await of a WAITING run ends if it is one that `met` picks (R90). -/
def State.judgeSlot (s : State) (met : Await → Bool) (i : Fin 4) : State :=
  match (s.slot i).state, (s.slot i).await with
  | .waiting, some w => if met w then s.awaitMet i else s
  | _, _ => s

/-- End the awaits that `met` picks. The slots are taken from the highest down, and as new signals go before
those that wait, the runs then go on from the lowest slot up: the model's choice of an order that the spec
leaves open (log entry 37). -/
def State.meetAwaits (s : State) (met : Await → Bool) : State :=
  forEach [(3 : Fin 4), 2, 1, 0] (fun i s => s.judgeSlot met i) s

/-- Judge the awaits of every run that a presentation concerns, by the state as it stands (TABLE
XXXVIII). -/
def State.judgeAwaits (s : State) (pick : AwaitKind → Bool) : State :=
  s.meetAwaits fun w => pick w.kind && s.awaitHolds w.kind

/-- The await timer of one slot at a beat (R90). -/
def Await.beat (w : Await) : Await := { w with remaining := w.remaining - 1 }

/-- A run's clocks at a beat: scene time in RUNNING and the await in WAITING, both out of hold
(R74, R90). -/
def Slot.beat (x : Slot) (hold : Bool) : Slot :=
  match hold, x.state with
  | false, .running => { x with sceneTime := x.sceneTime + 1#32 }
  | false, .waiting => { x with await := x.await.map Await.beat }
  | _, _ => x

/-- A run's await has timed out (R90). -/
def State.awaitDue (s : State) (i : Fin 4) : Bool :=
  match (s.slot i).state, (s.slot i).await with
  | .waiting, some w => 0 < w.timeout && w.remaining = 0
  | _, _ => false

/-- An await's timeout: the run goes on, or ends with AWAIT_END (R90). -/
def State.timeoutAwait (s : State) (i : Fin 4) : State :=
  match (s.slot i).await with
  | none => s
  | some w =>
    if w.onEnd then
      (s.onSlot i fun x =>
        { x with state := .ending, await := none, stopReason := some .awaitEnd }).post [.slotTest i]
    else s.awaitMet i

/-! ### Resource reports -/

/-- A report of a resource's owner is taken by the slot that holds it: a STOPPING run releases it when
it is idle, an ENDING run is tested (R75, R78). -/
def State.resourceReport (s : State) (r : Fin 6) : State :=
  match s.holder r with
  | none => s
  | some i =>
    match (s.slot i).state with
    | .stopping => if s.resourceIdle r then s.releaseClaim i r else s
    | .ending => s.post [.slotTest i]
    | _ => s

/-- A drained event of a voice (R75, R78). -/
def State.voiceReport (s : State) (v : Voice) : State :=
  (s.judgeAwaits fun k => k = .voiceIdle v).resourceReport (voicePlace v)

/-- An idle report of a voice: at the report the condition of every VOICE_IDLE await of it holds, so it ends
those begun before it, whatever the voice does next, and none begun since (R75, R78, R89, R90). -/
def State.voiceIdleReport (s : State) (v : Voice) (before : Nat) : State :=
  (s.meetAwaits fun w => w.kind = .voiceIdle v && w.begun < before).resourceReport (voicePlace v)

/-- A state report of an axis, judged by what it reports and not by what the axis has done since: one of an
idle axis ends the AXIS_IDLE awaits of it begun before the report, and none begun since (R89, R90, R158). -/
def State.axisReport (s : State) (a : Fin 4) (idle : Bool) (before : Nat) : State :=
  (s.meetAwaits fun w => w.kind = .axisIdle a && idle && w.begun < before).resourceReport (axisPlace a)

/-- Whether an await reads the entry of a station. -/
def AwaitKind.readsPeer (st : Fin 32) : AwaitKind → Bool
  | .peerFlag n _ _ => n = st
  | _ => false

/-- Whether an await reads a presence group. -/
def AwaitKind.readsGroup (g : Fin 4) : AwaitKind → Bool
  | .presence n _ => n = g
  | _ => false

/-! ### Executing cues -/

/-- The start-at of an announced cue (R88). -/
def State.startAt (s : State) (delay : Nat) : ShowTime := s.clk.showTime + BitVec.ofNat 32 delay

/-- A CLIP cue whose clip is valid goes to its voice, any other reports CLIP_INVALID (R129, R130). -/
def State.clipCue (s : State) (i : Fin 4) (v : Voice) (n : Fin 256) (cut : Bool) : State :=
  if s.clipValid n then s.takeClip v { clip := n, owner := i, cut := cut }
  else s.report .clipInvalid n.val

/-- A MOVE cue with its target clamped to the soft limits (R87, R150). -/
def State.moveCue (s : State) (a : Fin 4) (target : Int) (k : Fin 4) : State :=
  match s.axisCfg a with
  | some c => s.moveAxis a (clampInt target c.softMin c.softMax) k
  | none => s

/-- A run enters WAITING with its await record; awaits are numbered as they begin (R89, log entry 6). -/
def State.beginAwait (s : State) (i : Fin 4) (k : AwaitKind) (timeout : Nat) (onEnd : Bool) : State :=
  (s.onSlot i fun x =>
    { x with
      state := .waiting
      await := some
        { kind := k, timeout := timeout, remaining := timeout, onEnd := onEnd
          begun := s.sce.nextAwait } }).onSce fun e => { e with nextAwait := e.nextAwait + 1 }

/-- An AWAIT cue (R89). -/
def State.awaitCue (s : State) (i : Fin 4) (k : AwaitKind) (timeout : Nat) (onEnd : Bool) : State :=
  if s.awaitHolds k then s else s.beginAwait i k timeout onEnd

/-- What a cue does for the run of a slot (R86 to R89, R91). -/
def State.perform (s : State) (i : Fin 4) : Act → State
  | .fade c t d => s.onChannel c (·.startFade t d)
  | .cycle c t b => s.onChannel c (·.startCycle t b)
  | .clip v n cut => s.clipCue i v n cut
  | .silence v => s.stopForRun v i
  | .move a t k => s.moveCue a t k
  | .home a => s.homeAxis a
  | .flag f v => s.setFlag f v
  | .announce cue delay => s.enqueue (.cueLong cue (s.startAt delay)) .sce
  | .direct st n delay => s.enqueue (.cueShort st n (s.startAt delay)) .sce
  | .start n => s.post [.request n (.chain i)]
  | .await k timeout onEnd => s.awaitCue i k timeout onEnd

/-- The claim table maps the resource an action needs to the slot (R85). -/
def State.claimsFor (s : State) (i : Fin 4) (a : Act) : Bool :=
  match a.needs with
  | some r => s.holder r = some i
  | none => true

/-- Execute a cue for the run of a slot, or skip it with CUE_INVALID (R85). -/
def State.performCue (s : State) (i : Fin 4) (c : Cue) : State :=
  match actOf c with
  | some a =>
    if s.claimsFor i a then s.perform i a else s.report .cueInvalid (s.slot i).scene.val
  | none => s.report .cueInvalid (s.slot i).scene.val

/-- The head of a slot's cue window is due (R82, R84). -/
def State.headDue (s : State) (i : Fin 4) : Bool :=
  match (s.slot i).window with
  | [] => false
  | c :: _ => (s.slot i).state = .running && !s.held && c.offset ≤ (s.slot i).sceneTime.toNat

/-- A RUNNING run whose last cue has executed enters ENDING (R74). -/
def State.lastDone (s : State) (i : Fin 4) : Bool :=
  (s.slot i).state = .running && s.cueCount i ≤ (s.slot i).nextCue

/-- Execute the head of the window: it leaves the window, the next cue index advances (R84). -/
def State.executeHead (s : State) (i : Fin 4) : State :=
  match (s.slot i).window with
  | [] => s
  | c :: rest =>
    ((s.onSlot i fun x => { x with window := rest, nextCue := x.nextCue + 1 }).post
      [.refillCues i, .runCues i]).performCue i c.cue

/-- Execute the run's due cues (R84). -/
def State.runCues (s : State) (i : Fin 4) : State :=
  if s.lastDone i then (s.onSlot i fun x => { x with state := .ending }).post [.slotTest i]
  else if s.headDue i then s.executeHead i
  else s

/-- The run of a slot has a due cue or a due end (R84). -/
def State.cueDue (s : State) (i : Fin 4) : Bool := s.lastDone i || s.headDue i

/-- The head of a slot's window is this very cue. -/
def State.headIs (s : State) (i : Fin 4) (c : Cue) : Bool :=
  match (s.slot i).window with
  | [] => false
  | h :: _ => h.cue = c

/-- A cue may be executed for the run of a slot (R84). -/
def State.mayPerform (s : State) (i : Fin 4) : Bool := (s.slot i).state = .running && !s.held

/-- The command of a cue: it executes for the run of the slot. If it is the due head of the window, it
leaves the window as R84 gives. -/
def State.cueCommand (s : State) (i : Fin 4) (c : Cue) : State :=
  if s.headDue i && s.headIs i c then s.executeHead i else s.performCue i c

/-! ### Listen windows and the pending cue list -/

/-- A window matches a cue number from a station (R92). -/
def windowHears (w : Window) (cue station : Nat) : Bool :=
  w.enabled && w.low ≤ cue && cue ≤ w.high &&
    (match w.origin with
     | none => true
     | some st => st.val = station)

/-- A number as a scene, when it lies in 0 to 63. -/
def sceneOfInt (x : Int) : Option (Fin 64) :=
  if h : 0 ≤ x ∧ x < 64 then some ⟨x.toNat, by omega⟩ else none

/-- The local scene of a long-form CUE: the first window that matches decides (R92). -/
def mapCue (windows : List Window) (cue station : Nat) : Option (Fin 64) :=
  match windows.find? fun w => windowHears w cue station with
  | some w => sceneOfInt ((cue : Int) + w.offset)
  | none => none

/-- Place an entry in the pending cue list: after every entry no further ahead (R94), and so after every
entry that a beat has reached and left to PENDING_CUE_DUE (log entry 4). -/
def insertPending (now : ShowTime) (q : PendingCue) : List PendingCue → List PendingCue
  | [] => [q]
  | x :: rest =>
    if lead now x.startAt ≤ lead now q.startAt then x :: insertPending now q rest
    else q :: x :: rest

/-- A cue not reached joins the list (R94), evicts its last entry, or is dropped (R95). -/
def State.joinPending (s : State) (q : PendingCue) : State :=
  let now := s.clk.showTime
  if s.csc.length < 8 then { s with csc := insertPending now q s.csc }
  else
    match s.csc.getLast? with
    | none => s
    | some last =>
      if lead now q.startAt < lead now last.startAt then
        ({ s with csc := insertPending now q s.csc.dropLast }).report .queueDrop last.scene.val
          .pendingCue
      else s.report .queueDrop q.scene.val .pendingCue

/-- The late limit in force. -/
def State.lateLimit (s : State) : Nat :=
  match s.cfg with
  | some c => c.lateLimit
  | none => 0

/-- A cue with its local scene is judged against show time (R94, R96). -/
def State.hearCue (s : State) (q : PendingCue) : State :=
  let now := s.clk.showTime
  if !s.sul.station.runsShow then s
  else if reached now q.startAt then
    if (now - q.startAt).toNat ≤ s.lateLimit then s.post [.request q.scene (.cue q.station q.long)]
    else s.report .cueLate q.station.val
  else s.joinPending q

/-- The listen windows in force. -/
def State.windows (s : State) : List Window :=
  match s.cfg with
  | some c => c.windows.toList
  | none => []

/-- A long-form CUE is handed to the Cue Scheduler (R92, R93). -/
def State.hearLong (s : State) (station : Fin 32) (cue : Byte) (startAt : ShowTime) : State :=
  if !s.sul.station.runsShow then s
  else
    match mapCue s.windows cue.toNat station.val with
    | some n => s.hearCue { scene := n, startAt := startAt, station := station, long := true }
    | none => s

/-- A short-form CUE addressed to this station is handed to the Cue Scheduler (R92). -/
def State.hearShort (s : State) (station : Fin 32) (scene : Fin 64) (startAt : ShowTime) : State :=
  s.hearCue { scene := scene, startAt := startAt, station := station, long := false }

end Sys2Proof.Machine
end

