-- ==== Sys2Proof/Machine/Peers.lean ====
section
/-! DEFINITION. The Peer Table (chapter 3): acceptance of beacons, ageing, and the presentation of
entries to their readers. -/

namespace Sys2Proof.Machine

/-- The entry that a beacon leaves (R36, R37; flags byte of 13.1). -/
def peerOf (station : Fin 32) (g x : BitVec 16) (flags : Byte) : Peer :=
  { station := station, fresh := true, g := g.toNat, x := x.toNat
    talking := flags.getLsbD 0
    localHold := flags.getLsbD 1
    flags := flags.extractLsb' 4 4
    faultPresent := flags.getLsbD 2
    age := 0
    expired := false }

/-- Put an entry at its place in station order, over the entry of its station if there is one
(R35 to R37). -/
def putPeer (e : Peer) : List Peer → List Peer
  | [] => [e]
  | p :: rest =>
    if e.station < p.station then e :: p :: rest
    else if e.station = p.station then e :: rest
    else p :: putPeer e rest

/-- An entry is presented to the Narration Engine when its station is in the earshot set (R38, R39,
R43); `talk` says that the presentation is that station's own report of talking. Where both voices wait,
voice A judges the air first, the model's choice (log entry 38). -/
def State.presentAir (s : State) (st : Fin 32) (talk : Bool) : State :=
  if inSet s.earshot st.val then (s.airPresented .a talk).airPresented .b talk else s

/-- An accepted beacon (R36 to R38): the entry is written, then taken by the Show Clock, the Narration
Engine, the runs that wait on a flag of the station, and the Hold Logic. -/
def State.acceptBeacon (s : State) (st : Fin 32) (stamp : ShowTime) (e : Peer) : State :=
  let s := ({ s with ptb := putPeer e s.ptb }).discipline st stamp
  let s := ((s.presentAir st e.talking).post [.peerSeen st]).syncTalking
  if e.localHold then s.holdReported else s

/-- A beat of an entry: its age rises, and a FRESH entry whose age then exceeds the stale limit in force
has expired. So a limit lowered by an acceptance or in CONFIG_FAULT tells from the next beat on (R39,
R41). -/
def Peer.beat (limit : Nat) (e : Peer) : Peer :=
  let age := min (e.age + 1) 65535
  { e with age := age, expired := e.fresh && limit < age }

/-- The entry of a station has expired at a beat (R39). -/
def State.peerDue (s : State) (st : Fin 32) : Bool :=
  s.ptb.any fun e => e.station = st && e.fresh && e.expired

/-- Present an entry that became STALE or was removed (R39). -/
def State.presentGone (s : State) (st : Fin 32) : State :=
  (s.presentAir st false).post [.peerSeen st]

/-- An entry expires: STALE when its station is in the feeder group, else removed (R39). -/
def State.expirePeer (s : State) (st : Fin 32) : State :=
  (if inSet s.feeder st.val then
    { s with
      ptb := s.ptb.map fun (e : Peer) =>
        if e.station = st then { e with fresh := false, expired := false } else e }
  else { s with ptb := s.ptb.filter fun (e : Peer) => e.station ≠ st }).presentGone st

/-- The STALE entries outside the feeder group in force leave the table (R41). -/
def State.dropStale (s : State) : State :=
  let out := s.ptb.filter fun e => !e.fresh && !inSet s.feeder e.station.val
  let s := { s with ptb := s.ptb.filter fun e => e.fresh || inSet s.feeder e.station.val }
  forEach out (fun e s => s.presentGone e.station) s

end Sys2Proof.Machine
end

