-- ==== Sys2Proof/Machine/Bus.lean ====
section
/-! DEFINITION. The Bay Bus Interface (chapter 2): what it receives, the candidate and its wait, access
attempts, the states of the transmitter, beacon boundaries, rate learning and rate doubt. -/

namespace Sys2Proof.Machine

/-! ### Receiving -/

/-- The BBI listens: a rate is in force or under trial, and the station is not in RESET (R15, R30). -/
def State.listens (s : State) : Bool := s.sul.station ≠ .reset && s.bus.rateState ≠ .noRate

/-- The transmitter holds the line: a frame or a jam of this station (TABLE XII). -/
def Bus.onLine (b : Bus) : Bool := b.tx = .send || b.tx = .jam

/-- The BBI follows the line of the other stations: it listens and is not itself on it. -/
def State.receives (s : State) : Bool := s.listens && !s.bus.onLine

/-- A reception is open and can end, as a valid or a bad frame (R16, R17). -/
def State.inReception (s : State) : Bool := s.receives && s.bus.receiving

/-- The trial rates in their order (R31). -/
def trialRate : Fin 3 → Rate
  | 0 => .r1000
  | 1 => .r500
  | 2 => .r250

/-- The BBI enters LEARNING (R31). A BBI already learning goes on with its timer and windows. -/
def Bus.learn (b : Bus) : Bus :=
  match b.rateState with
  | .learning => { b with badRun := 0 }
  | _ =>
    { b with
      rateState := .learning, rate := none, learnTimer := 0, trial := 0, trialTimer := 0, badRun := 0
      lineIdle := false, receiving := false }

/-- A rate comes into force (R31, R32). -/
def Bus.adopt (b : Bus) (r : Rate) : Bus :=
  { b with
    rateState := .rateSet, rate := some r, learnTimer := 0, trial := 0, trialTimer := 0
    lineIdle := false, receiving := false }

/-- A regular boundary: the allowance is recomputed, then a regular beacon request raised (R27). -/
def State.regularBoundary (s : State) : State :=
  (s.onBus fun b => { b with period := some 0 }).recompute.regularRequest

/-- The station enters JOINING: its interval and the beacon period start, with a regular boundary at
that instant (R27, R170). -/
def State.enterJoining (s : State) : State :=
  (s.onSul fun u => { u with station := .joining, joinTimer := 0 }).regularBoundary

/-- A rate is adopted; in LEARNING the station goes on to JOINING (R31, R32). -/
def State.adoptRate (s : State) (r : Rate) : State :=
  let s := s.onBus (·.adopt r)
  if s.sul.station = .learning then s.enterJoining else s

/-- The end of a reception as a valid frame: the bad-frame run count is 0 and learning ends with the
trial rate (R17, R31). -/
def State.frameValid (s : State) : State :=
  let s := s.onBus fun b => { b with receiving := false, lineIdle := false, badRun := 0 }
  if s.bus.rateState = .learning then s.adoptRate (trialRate s.bus.trial) else s

/-- DUPLICATE_STATION is reported (R20, R36). -/
def State.duplicate (s : State) : State := s.report .duplicateStation s.sul.number.val

/-- A valid frame is dispatched (R19, R20, R174): ignored for a sender above 31, a duplicate for this
station's own number, else given to the block that owns its content. -/
def State.frame (s : State) (sender : Byte) (dispatch : Fin 32 → State → State) : State :=
  let s := s.frameValid
  match finOf 32 sender with
  | none => s
  | some st => if st = s.sul.number then s.duplicate else dispatch st s

/-- The bad-frame run count has reached 32 (R33). -/
def State.doubtDue (s : State) : Bool := 32 ≤ s.bus.badRun

/-- Rate doubt (R33): RATE_DOUBT, the count at 0, and learning when the configured rate is LEARN or the
station has no configuration. -/
def State.doubt (s : State) : State :=
  let s := (s.onBus fun b => { b with badRun := 0 }).report .rateDoubt s.sul.number.val
  match s.cfg with
  | none => s.onBus (·.learn)
  | some c => if c.rate.isNone then s.onBus (·.learn) else s

/-- A reception ends as a bad frame (R17, R33). -/
def State.frameBad (s : State) : State :=
  let s := s.onBus fun b =>
    { b with receiving := false, lineIdle := false, badRun := min (b.badRun + 1) 32 }
  if s.doubtDue then s.doubt else s

/-- The line is judged idle (R16). A reception still open has stopped short: a fragment (R17). If that
begins rate learning, idle is to be judged anew at the trial rate (R31). -/
def State.lineFallsIdle (s : State) : State :=
  let t := if s.bus.receiving then s.frameBad else s
  if t.bus.rateState = s.bus.rateState then t.onBus fun b => { b with lineIdle := true } else t

/-- A start marker of another station on an idle line: a reception begins and the Show Clock takes its
frame-start capture (R7, R16). -/
def State.receptionStarts (s : State) : State :=
  { s with
    bus := { s.bus with lineIdle := false, receiving := true }
    clk := { s.clk with capture := some s.clk.showTime } }

/-! ### The candidate and its wait -/

/-- The access classes that queued messages have, in send order (R22). -/
def OutMsg.cls : OutMsg → Nat
  | .talk _ _ _ => 0
  | .cueLong _ _ => 1
  | .cueShort _ _ _ => 1
  | .answer _ _ _ _ _ _ => 2

/-- The first queue entry of a class. -/
def Bus.firstOf (b : Bus) (cls : Nat) : Option OutEntry := b.queue.find? fun e => e.msg.cls = cls

/-- The first queue entry in send order (R22). -/
def Bus.first (b : Bus) : Option OutEntry :=
  match b.firstOf 0 with
  | some e => some e
  | none =>
    match b.firstOf 1 with
    | some e => some e
    | none => b.firstOf 2

/-- The station states in which the beacon may be the candidate (TABLE XIII). -/
def Station.beacons : Station → Bool
  | .joining => true
  | .active => true
  | .configFault => true
  | _ => false

/-- A candidate: a queue entry, or the beacon with its failed-attempt count (R22). -/
inductive Candidate where
  | entry (e : OutEntry)
  | beacon (failed : Nat)
deriving DecidableEq, Repr

/-- The candidate (R22, R29). -/
def State.candidate (s : State) : Option Candidate :=
  match s.bus.first with
  | some e => some (.entry e)
  | none => if s.sul.station.beacons then s.bus.request.map .beacon else none

/-- The class gap of a candidate in bit times (TABLE XI). -/
def Candidate.gap : Candidate → Nat
  | .beacon _ => 8
  | .entry e =>
    match e.msg.cls with
    | 0 => 2
    | 1 => 4
    | _ => 6

/-- The failed-attempt count of a candidate. -/
def Candidate.failed : Candidate → Nat
  | .beacon n => n
  | .entry e => e.failed

/-- The backoff after `n` failed attempts (R25). -/
def backoff (station n : Nat) : Nat := if n = 0 then 0 else (station * 7 + n * 5) % 16 * 4

/-- The wait that a candidate requires (R23). -/
def Candidate.wait (c : Candidate) (station : Nat) : Nat :=
  c.gap + station % 4 + backoff station c.failed

/-- The transmitter may leave OFF: a rate is in force, in a station state other than RESET (R30). -/
def State.mayTransmit (s : State) : Bool := s.sul.station ≠ .reset && s.bus.rateState = .rateSet

/-- The state of a transmitter that is not on the line (TABLE XII). -/
def State.restingTx (s : State) : TxState :=
  if s.mayTransmit then
    if s.bus.lineIdle && s.candidate.isSome then .wait else .defer
  else .off

/-- Bring the transmitter up to the candidate, the line and the station state (TABLE XII). -/
def State.syncTx (s : State) : State :=
  if s.bus.onLine then s else s.onBus fun b => { b with tx := s.restingTx }

/-! ### Attempts -/

/-- The beacon composed at this instant (R18): in CONFIG_FAULT with G and X at 0 and fault present. -/
def State.composeBeacon (s : State) : List Byte :=
  let fault := s.sul.station = .configFault || !s.flt.entries.isEmpty
  let g := if s.sul.station = .configFault then 0 else s.lgv.compose
  let x := if s.sul.station = .configFault then 0 else match s.cfg with
    | some c => c.ceiling
    | none => 0
  frameBytes kindBeacon (BitVec.ofNat 8 s.sul.number.val)
    (beaconPayload s.clk.showTime g x
      (beaconFlags s.nre.talking s.hld.localHold fault s.sce.flags))

/-- The frame of a queued message (13.1). -/
def OutMsg.bytes (m : OutMsg) (own : Fin 32) : List Byte :=
  let sender := BitVec.ofNat 8 own.val
  match m with
  | .talk v n _ => frameBytes kindTalk sender (talkPayload v n.val)
  | .cueLong cue at_ => frameBytes kindCue sender (cueLongPayload cue at_)
  | .cueShort st n at_ => frameBytes kindCue sender (cueShortPayload st.val n.val at_)
  | .answer st k o r d _ => frameBytes kindAnswer sender (answerPayload st.val k o r d)

/-- An attempt begins: the candidate's start marker is on the line; a beacon is composed and its request
taken into flight (R18, R22, R23), the granted load being composed for it (R122). The marker is a frame
start that the clock captures (R7). -/
def State.begin (s : State) (c : Candidate) : State :=
  let a : Attempt :=
    match c with
    | .beacon n => { what := .beacon n, frame := s.composeBeacon, silent := false }
    | .entry e => { what := .entry e.id, frame := e.msg.bytes s.sul.number, silent := false }
  let s := { s with
    bus := { s.bus with tx := .send, attempt := some a, lineIdle := false }
    clk := { s.clk with capture := some s.clk.showTime } }
  match c with
  | .beacon _ => (s.onBus fun b => { b with request := none }).onLgv Lgv.note
  | .entry _ => s

/-- The wait of the candidate has been counted through on an idle line (R23). -/
def State.waited (s : State) (n : Nat) : Bool :=
  match s.candidate with
  | some c => s.bus.tx = .wait && c.wait s.sul.number.val ≤ n
  | none => false

/-- An attempt begins with the candidate (R23). -/
def State.attempt (s : State) : State :=
  match s.candidate with
  | some c => s.begin c
  | none => s

/-- What the originator of a message given up is told (R25). -/
def State.gaveUp (s : State) (m : OutMsg) : State :=
  match m with
  | .talk v _ id => s.talkLost v id
  | .answer _ _ _ _ _ true => s.post [.restartBegin]
  | _ => s

/-- A queue entry is given up (R25). -/
def State.giveUpEntry (s : State) (e : OutEntry) : State :=
  ((s.onBus fun b => { b with queue := b.queue.filter fun x => x.id ≠ e.id }).report .busGiveUp
    (e.msg.detail s.sul.number.val)).gaveUp e.msg

/-- The beacon request is given up; with no early spacing running, a deferred mark is raised at once
(R25, R29). -/
def State.giveUpBeacon (s : State) : State :=
  let s := (s.onBus fun b => { b with request := none, markedInFlight := false }).report .busGiveUp
    s.sul.number.val
  if s.bus.spacing.isNone && s.bus.deferred then
    s.onBus fun b => { b with deferred := false }.raise
  else s

/-- Some message has failed 16 attempts (R25). -/
def State.giveUpDue (s : State) : Bool :=
  s.bus.queue.any (fun e => 16 ≤ e.failed) ||
    (match s.bus.request with
     | some n => 16 ≤ n
     | none => false)

/-- Give up what has failed 16 attempts (R25). -/
def State.giveUp (s : State) : State :=
  let s := match s.bus.queue.find? fun e => 16 ≤ e.failed with
    | some e => s.giveUpEntry e
    | none => s
  match s.bus.request with
  | some n => if 16 ≤ n then s.giveUpBeacon else s
  | none => s

/-- The failed-attempt count of what an attempt carried rises by 1 (R25). A failed beacon is pending
again; the early request marked while it was in flight is merged into it (R28, R29). -/
def Bus.failed (b : Bus) : Carried → Bus
  | .entry id =>
    { b with queue := b.queue.map fun e => if e.id = id then { e with failed := e.failed + 1 } else e }
  | .beacon n =>
    { b with
      request := some (n + 1)
      deferred := b.deferred && !(b.markedInFlight && n + 1 < 16)
      markedInFlight := b.markedInFlight && 16 ≤ n + 1 }

/-- A readback mismatch: the attempt is abandoned and the line driven dominant (R24, R25). -/
def State.jam (s : State) : State :=
  match s.bus.attempt with
  | none => s.onBus fun b => { b with tx := .jam }
  | some a =>
    let s := s.onBus fun b => { b with tx := .jam, attempt := none }
    if a.silent then s
    else
      let s := s.onBus (·.failed a.what)
      if s.giveUpDue then s.giveUp else s

/-- The jam ends: the transmitter leaves the line and waits for the next idle (R24). -/
def State.endJam (s : State) : State := s.onBus fun b => { b with tx := .defer }

/-- What the originator of a sent message is told (R26). -/
def State.reportSent (s : State) (m : OutMsg) : State :=
  match m with
  | .talk v _ id => s.talkSent v id
  | .cueLong cue at_ => s.post [.ownCue cue at_]
  | .answer _ _ _ _ _ true => s.post [.restartBegin]
  | _ => s

/-- A sent beacon: the early spacing starts (R26, R28). -/
def State.beaconSent (s : State) : State :=
  s.onBus fun b => { b with spacing := some s.earlySpacing, markedInFlight := false }

/-- A sent queue entry leaves the queue and its originator is told (R26). -/
def State.entrySent (s : State) (id : Nat) : State :=
  match s.bus.queue.find? fun e => e.id = id with
  | some e =>
    (s.onBus fun b => { b with queue := b.queue.filter fun x => x.id ≠ id }).reportSent e.msg
  | none => s

/-- An attempt is sent (R26). A sent beacon starts the early spacing, one that a RESTART outlived too (R28);
what such an attempt carried otherwise is reported to no block (R34; log entry 17). -/
def State.sent (s : State) : State :=
  match s.bus.attempt with
  | none => s.onBus fun b => { b with tx := .defer }
  | some a =>
    let s := s.onBus fun b => { b with tx := .defer, attempt := none }
    match a.what with
    | .beacon _ => s.beaconSent
    | .entry id => if a.silent then s else s.entrySent id

/-! ### The BBI at a beat -/

/-- The BBI's counts at a beat: the period, the early spacing, the learning timer and the trial window
(R27, R28, R31, R32). The learning timer stops at its limit also in CONFIG_FAULT, where learning has none:
the model's choice (log entry 36). -/
def Bus.beat (b : Bus) : Bus :=
  { b with
    period := b.period.map (· + 1)
    spacing := b.spacing.map (· - 1)
    learnTimer := if b.rateState = .learning then min (b.learnTimer + 1) 10000 else b.learnTimer
    trialTimer := if b.rateState = .learning then min (b.trialTimer + 1) 200 else b.trialTimer }

/-- A regular boundary is due (R27). -/
def State.boundaryDue (s : State) : Bool :=
  match s.bus.period with
  | some n => s.beaconPeriod ≤ n
  | none => false

/-- The early spacing has run out (R28). -/
def State.spacingDue (s : State) : Bool := s.bus.spacing = some 0

/-- The early spacing ends; a deferred mark is raised, but one that a beacon in flight is to carry on to
its own spacing stays (R28). -/
def State.endSpacing (s : State) : State :=
  let s := s.onBus fun b => { b with spacing := none }
  if s.bus.deferred && !s.bus.markedInFlight then s.onBus fun b => { b with deferred := false }.raise
  else s

/-- A trial window has run its 200 beats (R31). -/
def State.trialDue (s : State) : Bool := s.bus.rateState = .learning && 200 ≤ s.bus.trialTimer

/-- The next trial window begins; a reception in progress is abandoned (R31). -/
def State.nextTrial (s : State) : State :=
  s.onBus fun b =>
    { b with trial := b.trial + 1, trialTimer := 0, receiving := false, lineIdle := false }

/-- The learning limit is reached: not without a configuration (R32). A BBI that has learned past the limit in
CONFIG_FAULT and still learns when the image of a RESTART is accepted has it due at once: the model's choice
(log entry 36). -/
def State.limitDue (s : State) : Bool :=
  s.bus.rateState = .learning && 10000 ≤ s.bus.learnTimer && s.configured

/-- The fallback rate is adopted (R32). -/
def State.fallBack (s : State) : State :=
  match s.cfg with
  | some c => s.adoptRate c.fallback
  | none => s

end Sys2Proof.Machine
end

