-- ==== Sys2Proof/Machine/Image.lean ====
section
/-! DEFINITION. The configuration image and the directories as bytes (R175, R176): reading each setting,
and the range checks that the owning chapters make of it (R169). Offsets are those of the image; the
body that is read starts at offset 16. -/

namespace Sys2Proof.Machine

/-- The number at an image offset of the body. -/
def img (body : List Byte) (offset size : Nat) : Nat := field body (offset - 16) size

/-- The signed number at an image offset of the body. -/
def imgInt (body : List Byte) (offset size : Nat) : Int := fieldInt body (offset - 16) size

/-- A number as a member of `Fin (n + 1)`; numbers out of range, which the checks refuse, wrap. -/
def finMod (n : Nat) (x : Nat) : Fin (n + 1) := ⟨x % (n + 1), Nat.mod_lt _ (Nat.succ_pos n)⟩

/-- A byte that holds all ones when the field is none (R173). -/
def noneByte : Nat := 255

/-- `x` lies in `lo` to `hi`. -/
def within (lo hi x : Nat) : Bool := lo ≤ x && x ≤ hi

/-- A scene field that may be none: none or 0 to 63. -/
def optScene (x : Nat) : Option (Fin 64) := if x = noneByte then none else some (finMod 63 x)

/-- The range of a scene field that may be none. -/
def optSceneOk (x : Nat) : Bool := x = noneByte || x ≤ 63

/-- A rate code (R173): 3 is LEARN. -/
def rateOf (x : Nat) : Option Rate :=
  match x with
  | 0 => some .r250
  | 1 => some .r500
  | 2 => some .r1000
  | _ => none

/-! ### Bus, clock, narration, feeder, orders, timing, scenes -/

def busOk (b : List Byte) : Bool :=
  img b 16 1 ≤ 3 && img b 17 1 ≤ 2 && within 100 1000 (img b 18 2) && within 300 5000 (img b 20 2) &&
    2 * img b 18 2 ≤ img b 20 2 && within 10 100 (img b 22 1)

def clockOk (b : List Byte) : Bool := within 50 1000 (img b 28 2)

/-- A directory lies within the 24-bit space (R176). -/
def regionOk (address count : Nat) : Bool := address + 11 * count ≤ addressSpace

def narrationOk (b : List Byte) : Bool :=
  within 10 200 (img b 34 1) && img b 35 2 ≤ 256 && img b 37 2 ≤ 256 && img b 39 2 ≤ 256 &&
    img b 44 2 ≤ 256 && regionOk (img b 41 3) (img b 44 2)

def feederOk (b : List Byte) : Bool := img b 52 2 ≤ img b 54 2 && within 1 16 (img b 56 1)

/-- The image offset of listen window `k`. -/
def windowAt (k : Nat) : Nat := 63 + 4 * k

/-- The checks of a listen window (R92). Bit 5 of its control byte, which R175 neither names nor marks zero, fails
no check: the model's choice (log entry 42). -/
def windowOk (b : List Byte) (k : Nat) : Bool :=
  img b (windowAt k + 1) 1 ≤ img b (windowAt k + 2) 1 &&
    -63 ≤ imgInt b (windowAt k + 3) 1 && imgInt b (windowAt k + 3) 1 ≤ 63

/-- A listen window (R92, R175), without bit 5 of its control byte (log entry 42). -/
def readWindow (b : List Byte) (k : Nat) : Window :=
  let control := img b (windowAt k) 1
  { enabled := bitOf control 7
    origin := if bitOf control 6 then none else some (finMod 31 control)
    low := img b (windowAt k + 1) 1
    high := img b (windowAt k + 2) 1
    offset := imgInt b (windowAt k + 3) 1 }

def ordersOk (b : List Byte) : Bool :=
  img b 61 2 ≤ 10000 && [0, 1, 2, 3, 4, 5, 6, 7].all (windowOk b)

def timingOk (b : List Byte) : Bool := img b 95 2 ≤ 5000 && img b 97 2 ≤ 5000 && img b 99 2 ≤ 10000

def scenesOk (b : List Byte) : Bool :=
  optSceneOk (img b 101 1) && img b 105 1 ≤ 64 && regionOk (img b 102 3) (img b 105 1)

/-! ### Channels and cycle tables -/

def channelAt (k : Nat) : Nat := 106 + 12 * k

/-- The checks of a channel (R102). Bits 6 and 7 of the mode byte, which R175 neither names nor marks zero,
are ignored: the model's choice (log entry 42). -/
def channelOk (b : List Byte) (k : Nat) : Bool :=
  let o := channelAt k
  img b o 2 ≤ 2000 && (img b (o + 5) 1 = noneByte || img b (o + 5) 1 ≤ 3) && 1 ≤ img b (o + 8) 2

/-- A channel's settings (R175), without bits 6 and 7 of its mode byte (log entry 42). -/
def readChannel (b : List Byte) (k : Nat) : ChannelCfg :=
  let o := channelAt k
  let mode := img b (o + 2) 1
  { load := img b o 2
    square := bitOf mode 0
    exempt := bitOf mode 1
    goTo := bitOf mode 2
    initialTable := if bitOf mode 3 then some (finMod 3 (mode / 16)) else none
    holdLevel := img b (o + 3) 2
    group := if img b (o + 5) 1 = noneByte then none else some (finMod 3 (img b (o + 5) 1))
    walkLevel := img b (o + 6) 2
    walkRate := img b (o + 8) 2
    powerUp := img b (o + 10) 2 }

def tableAt (k : Nat) : Nat := 298 + 37 * k

/-- The points of a cycle table: `n` of them from an offset on. -/
def readPoints (b : List Byte) : Nat → Nat → List CyclePoint
  | 0, _ => []
  | n + 1, o => { phase := img b o 2, level := img b (o + 2) 2 } :: readPoints b n (o + 4)

def readTable (b : List Byte) (k : Nat) : CycleTable :=
  { period := img b (tableAt k) 4
    points := readPoints b (img b (tableAt k + 4) 1) (tableAt k + 5) }

/-- The phases ascend strictly from a phase on (R102). -/
def ascending : Nat → List CyclePoint → Bool
  | _, [] => true
  | low, p :: rest => low < p.phase && ascending p.phase rest

/-- The first point has phase 0 and the phases ascend strictly (R102). -/
def phasesOk : List CyclePoint → Bool
  | [] => false
  | p :: rest => p.phase = 0 && ascending 0 rest

def tableOk (b : List Byte) (k : Nat) : Bool :=
  within 1000 16000000 (img b (tableAt k) 4) && within 2 8 (img b (tableAt k + 4) 1) &&
    phasesOk (readTable b k).points

/-! ### Axes -/

def axisAt (k : Nat) : Nat := 446 + 38 * k

def readProfile (b : List Byte) (o : Nat) : Profile := { vmax := img b o 2, accel := img b (o + 2) 2 }

def profileOk (b : List Byte) (o : Nat) : Bool :=
  within 1 16384 (img b o 2) && within 1 4096 (img b (o + 2) 2)

def axisOk (b : List Byte) (k : Nat) : Bool :=
  let o := axisAt k
  imgInt b o 3 ≤ imgInt b (o + 3) 3 && img b (o + 6) 1 ≤ 1 && imgInt b o 3 ≤ imgInt b (o + 7) 3 &&
    imgInt b (o + 7) 3 ≤ imgInt b (o + 3) 3 && img b (o + 10) 1 ≤ 3 &&
    within 1 8388543 (img b (o + 11) 3) && [14, 18, 22, 26].all (fun d => profileOk b (o + d)) &&
    img b (o + 30) 2 ≤ 2000 && img b (o + 33) 2 ≤ 10000 && within 1 60000 (img b (o + 35) 2)

/-- The settings of an axis (R175), without bits 2 to 7 of its flags byte (log entry 42). -/
def readAxis (b : List Byte) (k : Nat) : AxisCfg :=
  let o := axisAt k
  { softMin := imgInt b o 3
    softMax := imgInt b (o + 3) 3
    homePlus := img b (o + 6) 1 = 0
    homeOffset := imgInt b (o + 7) 3
    homeProfile := finMod 3 (img b (o + 10) 1)
    travelLimit := img b (o + 11) 3
    profiles := #v[readProfile b (o + 14), readProfile b (o + 18), readProfile b (o + 22),
      readProfile b (o + 26)]
    reservation := img b (o + 30) 2
    guardMask := BitVec.ofNat 8 (img b (o + 32) 1)
    guardDelay := img b (o + 33) 2
    powerWait := img b (o + 35) 2
    autoHome := bitOf (img b (o + 37) 1) 0
    faultHolds := bitOf (img b (o + 37) 1) 1 }

/-! ### Inputs and groups -/

def inputAt (k : Nat) : Nat := 598 + 8 * k

/-- An input kind code (R173). -/
def kindOf (x : Nat) : InputKind :=
  match x with
  | 0 => .button
  | 1 => .presence
  | 2 => .guard
  | 3 => .holdKey
  | _ => .unused

/-- The checks of an input: only the settings that TABLE XXII applies to its kind (R48). -/
def inputOk (b : List Byte) (k : Nat) : Bool :=
  let o := inputAt k
  let kind := kindOf (img b o 1)
  let cue := img b (o + 4) 2
  img b o 1 ≤ 4 &&
    (kind = .unused || (img b (o + 1) 1 ≤ 1 && 1 ≤ img b (o + 2) 1)) &&
    (kind ≠ .button ||
      (optSceneOk (img b (o + 3) 1) && (cue ≤ 255 || cue = 65535) && 1 ≤ img b (o + 6) 1)) &&
    (kind ≠ .presence || img b (o + 7) 1 ≤ 3)

def readInput (b : List Byte) (k : Nat) : InputCfg :=
  let o := inputAt k
  { kind := kindOf (img b o 1)
    activeLow := img b (o + 1) 1 = 1
    debounce := img b (o + 2) 1
    localScene := optScene (img b (o + 3) 1)
    cue := if img b (o + 4) 2 = 65535 then none else some (BitVec.ofNat 8 (img b (o + 4) 2))
    stuckLimit := img b (o + 6) 1
    group := finMod 3 (img b (o + 7) 1) }

def groupAt (k : Nat) : Nat := 662 + 3 * k

def groupOk (b : List Byte) (k : Nat) : Bool :=
  img b (groupAt k) 2 ≤ 60000 && optSceneOk (img b (groupAt k + 2) 1)

def readGroup (b : List Byte) (k : Nat) : GroupCfg :=
  { linger := img b (groupAt k) 2, arrival := optScene (img b (groupAt k + 2) 1) }

/-! ### The whole body -/

/-- Every setting of the image lies within its range and meets its chapter's requirements (R169). -/
def bodyOk (b : List Byte) : Bool :=
  busOk b && clockOk b && narrationOk b && feederOk b && ordersOk b && timingOk b && scenesOk b &&
    [0, 1, 2, 3, 4, 5, 6, 7, 8, 9, 10, 11, 12, 13, 14, 15].all (channelOk b) &&
    [0, 1, 2, 3].all (tableOk b) && [0, 1, 2, 3].all (axisOk b) &&
    [0, 1, 2, 3, 4, 5, 6, 7].all (inputOk b) && [0, 1, 2, 3].all (groupOk b)

/-- The settings of an image, its directories still to be read (TABLE LXV, R175). -/
def readBody (crc : BitVec 16) (b : List Byte) : Config :=
  { crc := crc
    rate := rateOf (img b 16 1)
    fallback := (rateOf (img b 17 1)).getD .r250
    beaconPeriod := img b 18 2
    staleLimit := img b 20 2
    earlySpacing := img b 22 1
    clockGroup := BitVec.ofNat 32 (img b 24 4)
    stepLimit := img b 28 2
    earshot := BitVec.ofNat 32 (img b 30 4)
    claimWindow := img b 34 1
    gainA := img b 35 2
    gainB := img b 37 2
    duckLevel := img b 39 2
    clipAddress := img b 41 3
    clipCount := img b 44 2
    feeder := BitVec.ofNat 32 (img b 46 4)
    capacity := img b 50 2
    floor := img b 52 2
    ceiling := img b 54 2
    gain := img b 56 1
    orderSet := BitVec.ofNat 32 (img b 57 4)
    lateLimit := img b 61 2
    windows := #v[readWindow b 0, readWindow b 1, readWindow b 2, readWindow b 3, readWindow b 4,
      readWindow b 5, readWindow b 6, readWindow b 7]
    releaseDelay := img b 95 2
    holdFade := img b 97 2
    restartFade := img b 99 2
    opening := optScene (img b 101 1)
    sceneAddress := img b 102 3
    sceneCount := img b 105 1
    channels := #v[readChannel b 0, readChannel b 1, readChannel b 2, readChannel b 3, readChannel b 4,
      readChannel b 5, readChannel b 6, readChannel b 7, readChannel b 8, readChannel b 9,
      readChannel b 10, readChannel b 11, readChannel b 12, readChannel b 13, readChannel b 14,
      readChannel b 15]
    tables := #v[readTable b 0, readTable b 1, readTable b 2, readTable b 3]
    axes := #v[readAxis b 0, readAxis b 1, readAxis b 2, readAxis b 3]
    inputs := #v[readInput b 0, readInput b 1, readInput b 2, readInput b 3, readInput b 4,
      readInput b 5, readInput b 6, readInput b 7]
    groups := #v[readGroup b 0, readGroup b 1, readGroup b 2, readGroup b 3]
    clips := []
    scenes := [] }

/-! ### Directories -/

/-- A clip directory entry (R175), without bits 3 to 7 of its flags byte (log entry 42). -/
def readClip (e : List Byte) : ClipEntry :=
  let flags := field e 8 1
  { present := bitOf flags 0
    earshot := bitOf flags 1
    mustPlay := bitOf flags 2
    address := field e 0 3
    length := field e 3 3
    gain := field e 6 2
    quietLimit := field e 9 2 }

/-- The requirements on a clip directory entry (R129, R176). -/
def clipOk (e : ClipEntry) : Bool := e.gain ≤ 256 && e.quietLimit ≤ 60000

/-- A scene directory entry (R175), without bits 2 to 7 of its flags byte (log entry 42). -/
def readScene (e : List Byte) : SceneEntry :=
  let flags := field e 0 1
  { present := bitOf flags 0
    loop := bitOf flags 1
    address := field e 1 3
    priority := finMod 3 (field e 4 1)
    claims := BitVec.ofNat 6 (field e 5 1)
    lockout := field e 6 2
    patience := field e 8 2
    cueCount := field e 10 1 }

/-- The requirements on a scene directory entry: no claim beyond the six resources, present or not (R176),
and of a present one its priority and cue count (R63). -/
def sceneOk (e : List Byte) : Bool :=
  field e 5 1 < 64 && (!bitOf (field e 0 1) 0 || (field e 4 1 ≤ 3 && within 1 64 (field e 10 1)))

/-- The `n` entries of 11 bytes that a directory's bytes hold (R176). -/
def entriesOf : Nat → List Byte → List (List Byte)
  | 0, _ => []
  | n + 1, bytes => bytes.take 11 :: entriesOf n (bytes.drop 11)

/-! ### The header -/

/-- The image signature (R175). -/
def signature : List Byte := [0x44#8, 0x5A#8, 0x43#8, 0x49#8]

/-- The length of a version-1 image (R175). -/
def imageLength : Nat := 674

/-- The header's signature is the image signature. -/
def signatureOk (h : List Byte) : Bool := h.take 4 = signature

/-- The header's version is 1 and its length that of version 1 (R169). -/
def versionOk (h : List Byte) : Bool := field h 4 2 = 1 && field h 6 4 = imageLength

/-- The CRC that the header carries (R175). -/
def headerCrc (h : List Byte) : BitVec 16 := BitVec.ofNat 16 (field h 10 2)

end Sys2Proof.Machine
end

