-- ==== Sys2Proof/Machine/Loader.lean ====
section
/-! DEFINITION. The Start-up Loader and the station states (chapter 12): the load, acceptance, entry to
CONFIG_FAULT and to ACTIVE, RESTART. -/

namespace Sys2Proof.Machine

/-! ### The load -/

/-- The loader asks for a transfer and waits in a phase for it (R169). -/
def State.loadAsk (s : State) (phase : LoadPhase) (address count : Nat) : State :=
  (s.onSul fun u => { u with phase := phase }).askPort .loader address count

/-- The load begins with the header (R169). -/
def State.askHeader (s : State) : State := s.loadAsk .header 0 16

/-- The Load Governor on entry to CONFIG_FAULT (R128). -/
def Lgv.idleAll (l : Lgv) : Lgv := { Lgv.clear with scale := l.scale }

/-- The Hold Logic on entry to CONFIG_FAULT (R161, R162, R163): the order hold source is kept. -/
def Hld.faulted (h : Hld) : Hld :=
  { h with
    inEffect := false, lineLow := false, release := none, releaseDue := false, stuck := 0
    stuckReported := false }

/-- The Narration Engine on entry to CONFIG_FAULT, the talking flag still to be brought up (R146). -/
def Nre.faulted (n : Nre) : Nre :=
  { n with a := n.a.silenced, b := n.b.silenced, duck := 256, audio := 0#16 }

/-- The station state, the settings and the queues on entry to CONFIG_FAULT (R80, R96, R171). -/
def State.faultStation (s : State) : State :=
  (({ s with cfg := none, csc := [] }).onSul fun u =>
    { u with station := .configFault, restarting := false, phase := .idle }).onSce fun e =>
      { e with queue := [] }

/-- The lights, the governor, the axes and the voices on entry to CONFIG_FAULT (R116, R128, R146,
R159). -/
def State.faultShow (s : State) : State :=
  ((s.onNre Nre.faulted).syncTalking.lightsDark.onLgv Lgv.idleAll).onMte Axis.disabled

/-- The inputs and the Hold Logic on entry to CONFIG_FAULT (R59, R60, R62, R162). -/
def State.faultInputs (s : State) : State :=
  ((s.onViu fun u =>
    { u with inputs := Vector.replicate 8 InputRec.clear, judgeGroups := false }).idleGroups.onHld
      Hld.faulted).syncLocalHold

/-- The BBI and the Peer Table on entry to CONFIG_FAULT (R27, R31, R41). -/
def State.faultBus (s : State) : State :=
  (s.onBus fun b => if b.rateState = .rateSet then b else b.learn).dropStale.regularBoundary

/-- Entry to CONFIG_FAULT (R171, R172): the show dark and still, no settings in force. -/
def State.enterFault (s : State) : State :=
  s.faultStation.clearFlags.faultShow.faultInputs.faultBus

/-- A check of the load fails: the fault is reported and the station enters CONFIG_FAULT (R169). -/
def State.loadRefused (s : State) (kind : FaultKind) : State :=
  (s.report kind s.sul.number.val).enterFault

/-- The inputs take an accepted image's settings (R48). -/
def State.inputsAccept (s : State) (old : Option Config) (c : Config) : State :=
  forEach allInputs
    (fun i s => s.onInput i fun x => x.accept (old.map fun o => o.inputs[i]) c.inputs[i]) s

/-- The station state and the rate after an acceptance (R34, R170). -/
def State.afterAccept (s : State) (restarting : Bool) (c : Config) : State :=
  if restarting then s.enterJoining
  else
    match c.rate with
    | some r => (s.onBus (·.adopt r)).enterJoining
    | none => (s.onSul fun u => { u with station := .learning }).onBus (·.learn)

/-- An image is accepted: at one instant every block takes its settings and its directory (R169). -/
def State.accept (s : State) (c : Config) : State :=
  let old := s.cfg
  let restarting := s.sul.restarting
  let s := { s with cfg := some c }
  let s := s.dropStale.inputsAccept old c
  let s := (s.lightsAccept old c).onLgv fun l => { l with allowance := c.floor }
  let s := (forEach allAxes (fun a s => s.axisAccept old.isNone c a) s).post [.examine]
  let s := s.syncLocalHold
  let s := s.onSul fun u => { u with restarting := false, phase := .idle }
  s.afterAccept restarting c

/-- The clip directory is read, or there is none: the scene directory follows (R169). For a count of 0 no
transfer is made: the model's choice (log entry 41). -/
def State.loadScenes (s : State) (c : Config) : State :=
  if c.sceneCount = 0 then s.accept c else s.loadAsk (.scenes c) c.sceneAddress (11 * c.sceneCount)

/-- The body is good: the clip directory follows (R169). For a count of 0 no transfer is made: the model's
choice (log entry 41). -/
def State.loadClips (s : State) (c : Config) : State :=
  if c.clipCount = 0 then s.loadScenes c else s.loadAsk (.clips c) c.clipAddress (11 * c.clipCount)

/-- The header has been read (R169, checks 1 and 2). -/
def State.takeHeader (s : State) (h : List Byte) : State :=
  if !signatureOk h then s.loadRefused .configCrc
  else if !versionOk h then s.loadRefused .configRange
  else s.loadAsk (.body (headerCrc h)) 16 (imageLength - 16)

/-- The body has been read (R169, checks 1 and 3). -/
def State.takeBody (s : State) (crc : BitVec 16) (body : List Byte) : State :=
  if crc16 body ≠ crc then s.loadRefused .configCrc
  else if !bodyOk body then s.loadRefused .configRange
  else s.loadClips (readBody crc body)

/-- The clip directory has been read (R169, check 4). -/
def State.takeClips (s : State) (c : Config) (data : List Byte) : State :=
  let clips := (entriesOf c.clipCount data).map readClip
  if clips.all clipOk then s.loadScenes { c with clips := clips } else s.loadRefused .configRange

/-- The scene directory has been read (R169, check 4). -/
def State.takeScenes (s : State) (c : Config) (data : List Byte) : State :=
  let entries := entriesOf c.sceneCount data
  if entries.all sceneOk then s.accept { c with scenes := entries.map readScene }
  else s.loadRefused .configRange

/-- A transfer of the load has brought its bytes (R169). -/
def State.loadStep (s : State) (data : List Byte) : State :=
  match s.sul.phase with
  | .header => s.takeHeader data
  | .body crc => s.takeBody crc data
  | .clips c => s.takeClips c data
  | .scenes c => s.takeScenes c data
  | .idle => s
  | .awaitSlots => s

/-! ### Reset release, JOINING, ACTIVE -/

/-- Reset is released: the divider starts, the straps give the station number, and the load begins
(R1, R170). -/
def State.releaseReset (s : State) (straps : BitVec 5) : State :=
  ((s.onSul fun u =>
    { u with station := .loading, number := ⟨straps.toNat, straps.isLt⟩ }).onClk fun c =>
      { c with running := true }).askHeader

/-- The JOINING interval has run (R170). -/
def State.joiningDue (s : State) : Bool :=
  s.sul.station = .joining && s.staleLimit ≤ s.sul.joinTimer

/-- The opening scene in force. -/
def State.opening (s : State) : Option (Fin 64) :=
  match s.cfg with
  | some c => c.opening
  | none => none

/-- An auto-home axis that is UNHOMED or FAULT is given a HOME (R159). -/
def State.autoHome (s : State) (a : Fin 4) : State :=
  match s.axisCfg a with
  | some c =>
    if c.autoHome && ((s.axis a).state = .unhomed || (s.axis a).state = .fault) then s.homeAxis a
    else s
  | none => s

/-- The station enters ACTIVE: the opening scene is requested, then the queue served; axes home; the
first beat is to judge the presence groups; held timers start (R54, R58, R159, R170). The axes ask from the
lowest up, the model's choice (log entry 37). -/
def State.enterActive (s : State) : State :=
  let s := s.onSul fun u => { u with station := .active }
  let s := s.onViu fun u =>
    { u with judgeGroups := true, inputs := vmap (fun x => { x with held := 0 }) u.inputs }
  let s := forEach allAxes (fun a s => s.autoHome a) s
  match s.opening with
  | some n => s.post [.request n .opening, .serve]
  | none => s.post [.serve]

/-! ### RESTART -/

/-- The BBI at the start of a RESTART (R34): an attempt under way goes on without a report. -/
def Bus.restart (b : Bus) : Bus :=
  { b with
    request := none, deferred := false, markedInFlight := false, queue := [], spacing := none
    period := none, badRun := 0
    attempt := b.attempt.map fun a => { a with silent := true } }

/-- A RESTART may begin: its order is latched and its DONE is no longer in the outbound queue (R98). -/
def State.restartDue (s : State) : Bool :=
  match s.sce.latch with
  | some l =>
    l.kind = .restart &&
      s.bus.queue.all fun e =>
        match e.msg with
        | .answer _ _ _ _ _ r => !r
        | _ => true
  | none => false

/-- A RESTART begins (R172): the BBI first, then every block by its own rule (R34, R62, R81, R91, R96,
R101, R159). -/
def State.beginRestart (s : State) : State :=
  let s := s.onBus Bus.restart
  let s := s.onSul fun u => { u with station := .loading, restarting := true, phase := .awaitSlots }
  let s := (s.onSce fun e => { e with latch := none }).clearFlags
  let s := ({ s with csc := [] }).post [.restartTest]
  let s := s.stopEverything .restart
  (forEach allAxes (fun a s => s.abortAxis a) s).inputsRestart

/-- Every slot is FREE and a RESTART waits for it (R81, R172). -/
def State.reloadDue (s : State) : Bool := s.sul.phase = .awaitSlots && s.allFree

/-- The reload begins: a FAILED port is READY again, and the header is requested (R172). -/
def State.reload (s : State) : State :=
  (match s.smp.state with
   | .failed => s.portReady
   | _ => s).askHeader

end Sys2Proof.Machine
end

