-- ==== Sys2Proof/Machine/Query.lean ====
section
/-! DEFINITION. The QUERY pages (R100, R174): each page is the sequence of the items that its source rule
lists. Log entry 20 gives the choices of layout that R174 leaves. -/

namespace Sys2Proof.Machine

/-! ### Items -/

/-- A flag as a byte. -/
def flagByte (b : Bool) : Byte := if b then 1#8 else 0#8

/-- A group of flags as one byte, the first flag in bit 0 (R174). -/
def flagsByte : List Bool → Nat
  | [] => 0
  | b :: rest => (if b then 1 else 0) + 2 * flagsByte rest

/-- One byte of a number. -/
def num1 (x : Nat) : List Byte := bytesOf 1 x

def num2 (x : Nat) : List Byte := bytesOf 2 x

def num3 (x : Nat) : List Byte := bytesOf 3 x

def num4 (x : Nat) : List Byte := bytesOf 4 x

/-- An optional item: a presence byte and its content, or zeros of its size (R174). -/
def optItem (size : Nat) : Option (List Byte) → List Byte
  | some bytes => 1#8 :: bytes
  | none => 0#8 :: List.replicate size 0#8

/-- A field that may be none: its bytes, or all ones of its size (R173). -/
def noneItem (size : Nat) : Option (List Byte) → List Byte
  | some bytes => bytes
  | none => List.replicate size 0xFF#8

/-- A list of varying length: its count, its entries, and zero entries up to its capacity (R174). -/
def listItem (capacity size : Nat) (entries : List (List Byte)) : List Byte :=
  num1 entries.length ++ entries.flatten ++
    List.replicate ((capacity - entries.length) * size) 0#8

/-! ### Codes of states and kinds, in the order of their tables -/

def Station.code : Station → Nat
  | .reset => 0
  | .loading => 1
  | .learning => 2
  | .joining => 3
  | .active => 4
  | .configFault => 5

def GroupState.code : GroupState → Nat
  | .idle => 0
  | .occupied => 1
  | .linger => 2

def RunState.code : RunState → Nat
  | .free => 0
  | .loading => 1
  | .claiming => 2
  | .running => 3
  | .waiting => 4
  | .ending => 5
  | .stopping => 6

def StopReason.code : StopReason → Nat
  | .order => 0
  | .all => 1
  | .preempted => 2
  | .restart => 3
  | .awaitEnd => 4
  | .readFailed => 5

def AwaitKind.code : AwaitKind → Nat
  | .peerFlag _ _ _ => 0
  | .voiceIdle _ => 1
  | .axisIdle _ => 2
  | .presence _ _ => 3

def VoiceState.code : VoiceState → Nat
  | .idle => 0
  | .waitQuiet => 1
  | .claiming => 2
  | .priming => 3
  | .playing => 4
  | .paused => 5
  | .tailing => 6

def AirMark.code : AirMark → Nat
  | .none => 0
  | .granted => 1
  | .courtesy => 2

def Burst.code : Burst → Nat
  | .none => 0
  | .outstanding => 1
  | .discard => 2

def AxisState.code : AxisState → Nat
  | .unhomed => 0
  | .homing => 1
  | .idle => 2
  | .waitPower => 3
  | .moving => 4
  | .stopping => 5
  | .held => 6
  | .fault => 7

def StopKind.code : StopKind → Nat
  | .holdGuard => 0
  | .abort => 1

def Course.code : Course → Nat
  | .fade _ _ _ _ => 0
  | .cycle _ => 1
  | .blend _ _ _ _ => 2

def RampDir.code : RampDir → Nat
  | .none => 0
  | .towardHold => 1
  | .towardLive => 2

def FaultKind.code : FaultKind → Nat
  | .configCrc => 0
  | .configRange => 1
  | .showMemoryTimeout => 2
  | .showMemoryFailed => 3
  | .sceneRecordBad => 4
  | .cueInvalid => 5
  | .clipInvalid => 6
  | .voiceUnderrun => 7
  | .axisLimit => 8
  | .homeNotFound => 9
  | .axisNotReady => 10
  | .motionStarved => 11
  | .inputStuck => 12
  | .duplicateStation => 13
  | .busGiveUp => 14
  | .rateDoubt => 15
  | .holdLineStuck => 16
  | .queueDrop => 17
  | .cueLate => 18
  | .clockStepped => 19

/-- The sort byte (R174): 00h for every kind but QUEUE_DROP. -/
def DropSort.code : DropSort → Nat
  | .plain => 0
  | .outbound => 0
  | .requestQueue => 1
  | .requestExpiry => 2
  | .pendingCue => 3
  | .clipQueue => 4
  | .quietLimit => 5

def rateCode : Rate → Nat
  | .r250 => 0
  | .r500 => 1
  | .r1000 => 2

def PortState.code : PortState → Nat
  | .ready => 0
  | .busy _ _ => 1
  | .failed => 2

/-! ### Pages -/

/-- Page 0, clock, hold, governor and flags (R14, R165, R126, R145, R91). The three hold sources stand in one
byte with hold in effect and local hold, and the release and stuck timers after it, before the allowance; and
the order hold source is shown as it is kept, also in CONFIG_FAULT where it is not applied (R160). Both are the
model's choice (log entry 20). -/
def State.summaryHead (s : State) : List Byte :=
  num1 s.sul.station.code ++ num4 s.clk.showTime.toNat ++ num2 s.clk.debt ++
    num1 (flagsByte [s.hld.inEffect, s.hld.localHold, s.keyHold, s.hld.orderHold, s.showHold]) ++
    num2 (s.hld.release.getD 0) ++ num2 s.hld.stuck ++ num2 s.lgv.allowance ++ num2 s.lgv.compose ++
    [flagByte s.nre.talking] ++ num1 s.sce.flags.toNat ++ num1 s.flt.entries.length ++
    [flagByte s.flt.overflow]

/-- Page 0, inputs, groups, queue and peers (R61, R79, R46). Each of the eight inputs has a latch, a press
count and a stuck mark on the page, whatever its kind, and they stand item by item: one byte of eight latches,
eight counts, one byte of eight stuck marks. Both are the model's choice (log entry 20). -/
def State.summaryTail (s : State) : List Byte :=
  let inputs := s.viu.inputs.toList
  num1 (flagsByte (inputs.map (·.level))) ++ num1 (flagsByte (inputs.map (·.latch))) ++
    inputs.flatMap (fun x => num1 x.presses) ++ num1 (flagsByte (inputs.map (·.stuck))) ++
    s.viu.groups.toList.flatMap (fun g => num1 g.state.code) ++ num1 s.sce.queue.length ++
    num1 ((allSlots.filter fun i => (s.slot i).state ≠ .free).length) ++
    listItem 8 1 (s.sce.queue.map fun q => num1 q.scene.val) ++ num1 s.ptb.length ++
    num1 ((s.ptb.filter fun e => !e.fresh).length)

/-- The resources of a slot's claims that `pick` picks, as a byte of flags for the six resources (log entry 20). -/
def State.claimByte (s : State) (i : Fin 4) (pick : Fin 6 → Bool) : Nat :=
  flagsByte ([(0 : Fin 6), 1, 2, 3, 4, 5].map fun r => (s.slot i).claims.getLsbD r.val && pick r)

/-- A slot on page 1 (R79): a FREE slot reports its state alone. The resources of the claims are two bytes of
flags, those held and then those wanted: the model's choice (log entry 20). -/
def State.slotItem (s : State) (i : Fin 4) : List Byte :=
  let x := s.slot i
  if x.state = .free then num1 x.state.code
  else
    num1 x.state.code ++ num1 x.scene.val ++ num1 x.priority.val ++ num4 x.sceneTime.toNat ++
      num4 x.startTime.toNat ++ num1 x.nextCue ++
      optItem 1 (x.await.map fun w => num1 w.kind.code) ++
      optItem 1 (x.stopReason.map fun r => num1 r.code) ++
      optItem 1 (x.successor.map fun u => num1 u.scene.val) ++
      num1 (s.claimByte i fun r => s.holder r = some i) ++ num1 (s.claimByte i fun r => s.runWants r i)

/-- A clip queue entry on page 2. -/
def Queued.item (q : Queued) : List Byte :=
  num1 q.clip.val ++ num1 q.owner.val ++ [flagByte q.cut]

/-- The current clip on page 2. -/
def Held.item (c : Held) : List Byte :=
  num1 c.clip.val ++ num1 c.owner.val ++ num1 c.air.code ++ num3 c.toFetch ++ num3 c.toPlay

/-- A voice on page 2 (R145). A retry wait or claim timer that is none is all ones (R173, TABLE LIII). -/
def VoiceRec.item (x : VoiceRec) : List Byte :=
  num1 x.state.code ++
    optItem 1 (if x.state = .tailing then some [flagByte x.tailPause] else none) ++
    optItem 9 (x.current.map Held.item) ++ optItem 1 (x.next.map fun c => num1 c.clip.val) ++
    listItem 4 3 (x.queue.map Queued.item) ++ num2 x.fill ++ num2 x.ramp ++ num2 x.goal ++
    num1 x.burst.code ++ [flagByte x.underrun] ++ num2 x.quiet ++ noneItem 1 (x.retry.map num1) ++
    noneItem 1 (x.claim.map num1)

/-- A move on page 3. A HOME has neither target nor profile (R158), and the model writes zeros in their places,
with no presence bytes of their own (log entry 20). -/
def Move.item : Move → List Byte
  | .move target k => num1 0 ++ bytesOfInt 3 target ++ num1 k.val
  | .home => num1 1 ++ num3 0 ++ num1 0

/-- The place of an axis in the admission line (R126), counted from 0: the model's choice (log entry 20). -/
def Lgv.placeOf (l : Lgv) (a : Fin 4) : Option Nat := l.line.findIdx? fun b => b = a

/-- The amount an axis holds in the ledger. -/
def Lgv.amountOf (l : Lgv) (a : Fin 4) : Option Nat :=
  (l.ledger.find? fun r => r.axis = a).map (·.amount)

/-- An axis on page 3 (R126, R158). -/
def State.axisItem (s : State) (a : Fin 4) : List Byte :=
  let x := s.axis a
  num1 x.state.code ++ optItem 1 (x.stopKind.map fun k => num1 k.code) ++ [flagByte x.homed] ++
    bytesOfInt 3 (x.p.fdiv 256) ++ num1 (x.p.emod 256).toNat ++ num2 x.v ++ [flagByte (!x.plus)] ++
    optItem 5 (x.move.map Move.item) ++ num2 x.waitTimer ++ [flagByte x.guardClear] ++
    num2 x.guardTimer ++ [flagByte x.showHold] ++ optItem 1 ((s.lgv.placeOf a).map num1) ++
    optItem 2 ((s.lgv.amountOf a).map num2)

/-- The fade target and remaining count on a lighting page, one optional item of both: the model's choice (log
entry 20). -/
def Course.fadeItem : Course → Option (List Byte)
  | .fade _ t p d => some (num2 t ++ num3 (d - p))
  | _ => none

/-- The remaining count of a blend on a lighting page. -/
def Course.blendItem : Course → Option (List Byte)
  | .blend _ _ p d => some (num2 (d - p))
  | _ => none

/-- A channel on pages 4 to 7 (R113). -/
def Channel.item (x : Channel) : List Byte :=
  num1 x.course.code ++ optItem 1 (x.course.table.map fun t => num1 t.val) ++ num2 x.v ++
    optItem 5 x.course.fadeItem ++ optItem 2 x.course.blendItem ++ [flagByte x.latched.isSome] ++
    num1 x.dir.code ++ num2 x.q ++ num2 x.walk ++ num2 x.intent ++ num2 x.level ++ num2 x.output

/-- A fault-list entry on pages 8 to 11 (R165, R174). -/
def FaultEntry.item (e : FaultEntry) : List Byte :=
  num1 e.key.kind.code ++ num1 e.key.sort.code ++ num1 e.key.number ++ num4 e.first.toNat ++
    num4 e.last.toNat ++ num1 e.count

/-- A peer entry on pages 12 to 19 (R46). -/
def Peer.item (e : Peer) : List Byte :=
  num1 e.station.val ++ [flagByte (!e.fresh)] ++
    num1 (flagsByte [e.talking, e.localHold, e.flags.getLsbD 0, e.flags.getLsbD 1, e.flags.getLsbD 2,
      e.flags.getLsbD 3, e.faultPresent]) ++
    num2 e.counted ++ num1 (min (e.age / 100) 255)

/-- The identity page (R100, R169). The rate in force, and the version and CRC, are all ones when they are none
(R173, TABLE XLI). -/
def State.identity (s : State) : List Byte :=
  num1 s.sul.number.val ++ noneItem 1 (s.bus.rate.map fun r => num1 (rateCode r)) ++
    noneItem 3 (s.cfg.map fun c => num1 1 ++ num2 c.crc.toNat) ++ num1 s.smp.state.code

/-- The places `4 k` to `4 k + 3` of a list as optional items. -/
def placesItem (size k : Nat) (items : List (List Byte)) : List Byte :=
  [0, 1, 2, 3].flatMap fun j => optItem size items[4 * k + j]?

/-- The channels `4 k` to `4 k + 3`. -/
def State.channelItems (s : State) (k : Nat) : List Byte :=
  ((s.lte.channels.toList.drop (4 * k)).take 4).flatMap Channel.item

/-- A whole QUERY page (TABLE XLI). -/
def State.page (s : State) (n : Nat) : List Byte :=
  if n = 0 then s.summaryHead ++ s.summaryTail
  else if n = 1 then allSlots.flatMap s.slotItem
  else if n = 2 then s.nre.a.item ++ s.nre.b.item ++ num2 s.nre.duck
  else if n = 3 then allAxes.flatMap s.axisItem
  else if n < 8 then s.channelItems (n - 4)
  else if n < 12 then placesItem 12 (n - 8) (s.flt.entries.map FaultEntry.item)
  else if n < 20 then placesItem 6 (n - 12) (s.ptb.map Peer.item)
  else s.identity

/-- Composing the summary page composes the granted load (R122, R126). -/
def State.composePage (s : State) (n : Nat) : State := if n = 0 then s.onLgv Lgv.note else s

/-- The data of a QUERY answer: bytes `20 p` to `20 p + 19` of the page (R174). -/
def State.queryData (s : State) (page part : Nat) : List Byte :=
  ((s.page page).drop (20 * part)).take 20

end Sys2Proof.Machine
end

