-- ==== Sys2Proof/Machine/Orders.lean ====
section
/-! DEFINITION. The order latch (R97 to R101): the tests of an ORDER, what each kind carries out, and its
answer. -/

namespace Sys2Proof.Machine

/-- CLEAR_FAULTS (R165): the list and its overflow flag are emptied, show-hold marks cleared; a list that
held entries raises an early request. -/
def State.clearFaultList (s : State) : State :=
  let some_ := !s.flt.entries.isEmpty
  let s := ({ s with flt := { entries := [], overflow := false } }.onMte fun x =>
    { x with showHold := false }).syncLocalHold
  if some_ then s.earlyRequest else s

/-- The HOLD order (R160). -/
def State.orderHold (s : State) (on : Bool) : State :=
  (s.onHld fun h => { h with orderHold := on }).syncLocalHold

/-- Queue the DONE of a RESTART; a DONE that is dropped begins the restart at once (R98). -/
def State.answerRestart (s : State) (target : Fin 32) : State :=
  let room := s.outboundRoom
  let s := s.enqueue (.answer target OrderKind.restart.code outcomeDone reasonNone [] true) .sce
  if room then s else s.post [.restartBegin]

/-- An order that completes at once: DONE. -/
def State.doneNow (s : State) (data : List Byte) : State := s.complete outcomeDone reasonNone data

/-- A latched order is carried out (TABLE XL). -/
def State.carryOut (s : State) (sender : Fin 32) : Order → State
  | .start n => s.post [.request n (.order sender)]
  | .stop n => (s.post [.latchTest]).stopScene n .order
  | .stopAll => (s.post [.latchTest]).stopEverything .all
  | .setFlag f v => (s.setFlag f v).doneNow []
  | .hold on => (s.orderHold on).doneNow []
  | .query page part => (s.composePage page).doneNow (s.queryData page part)
  | .clearFaults => s.clearFaultList.doneNow []
  | .restart => s.answerRestart sender

/-- The latch takes an order and carries it out (R98). -/
def State.takeOrder (s : State) (sender : Fin 32) (kind : OrderKind) (ops : List Byte) (o : Order) :
    State :=
  (s.onSce fun e =>
    { e with latch := some { kind := kind, operands := ops, sender := sender } }).carryOut sender o

/-- The latch is PENDING, or a RESTART has begun and the station has not yet left LOADING (R97). -/
def State.latchBusy (s : State) : Bool := s.sce.latch.isSome || s.sul.restarting

/-- An order kind that CONFIG_FAULT admits (R97). -/
def OrderKind.inFault : OrderKind → Bool
  | .query => true
  | .restart => true
  | _ => false

/-- The tests of an ORDER addressed to this station, from the third on (R97). -/
def State.testOrder (s : State) (sender : Fin 32) (kind : OrderKind) (ops : List Byte) : State :=
  if s.latchBusy then s.answer sender kind.code outcomeBusy reasonNone []
  else if s.sul.station = .configFault && !kind.inFault then
    s.answer sender kind.code outcomeRefused reasonConfigFault []
  else
    match orderOf kind ops with
    | none => s.answer sender kind.code outcomeRefused reasonBadOperand []
    | some o => s.takeOrder sender kind ops o

/-- An ORDER of a known kind from a peer, its target being this station or not (R19, R97, R174). -/
def State.order (kind : OrderKind) (target : Byte) (ops : List Byte) (sender : Fin 32) (s : State) :
    State :=
  if target.toNat = s.sul.number.val then
    if inSet s.orderSet sender.val then s.testOrder sender kind ops
    else s.answer sender kind.code outcomeRefused reasonNotPermitted []
  else s

/-- An ORDER of unknown kind (R97). -/
def State.orderUnknown (code target : Byte) (sender : Fin 32) (s : State) : State :=
  if target.toNat = s.sul.number.val then
    if inSet s.orderSet sender.val then s.answer sender code outcomeUnknown reasonNone []
    else s.answer sender code outcomeRefused reasonNotPermitted []
  else s

end Sys2Proof.Machine
end

