-- ==== Sys2Proof/Machine/Settle.lean ====
section
/-! DEFINITION. One instant: the signals that blocks have posted are taken one after another until none is
left, then the port's arbiter chooses and the transmitter follows. -/

namespace Sys2Proof.Machine

/-- What a signal does. -/
def State.handle (s : State) : Signal → State
  | .serve => s.serve
  | .examine => s.examineLine
  | .runCues i => s.runCues i
  | .refillCues i => s.refillCues i
  | .slotTest i => s.testSlot i
  | .voiceIdle v before => s.voiceIdleReport v before
  | .drained v => s.voiceReport v
  | .axisReport a idle before => s.axisReport a idle before
  | .request n o => s.dispose n o
  | .peerSeen st => s.judgeAwaits (AwaitKind.readsPeer st)
  | .groupChanged g => s.judgeAwaits (AwaitKind.readsGroup g)
  | .readFailed i run kind => s.readFailed i run kind
  | .burstFailed v => s.abandonBurst v
  | .loadFailed => s.enterFault
  | .latchTest => s.latchTest
  | .restartTest => if s.reloadDue then s.reload else s
  | .restartBegin => s.beginRestart
  | .ownCue cue at_ => s.hearLong s.sul.number cue at_

/-- Take waiting signals, the front one first, at most `fuel` of them. -/
def State.settle : Nat → State → State
  | 0, s => s
  | fuel + 1, s =>
    match s.agenda with
    | [] => s
    | x :: rest => State.settle fuel (State.handle { s with agenda := rest } x)

/-- The most signals that one instant takes (log entry 5). -/
def settleFuel : Nat := 4096

/-- The end of an instant: signals taken, the arbiter asked, the transmitter brought up. -/
def State.finish (s : State) : State := ((State.settle settleFuel s).arbitrate).syncTx

/-- The next instant begins, with no signal waiting (log entry 5). -/
def State.tick (s : State) : State := { s with instant := s.instant + 1, agenda := [] }

/-- A command that may take effect has it as one instant; one that may not leaves everything as it stands
(log entry 3). -/
def act (may : State → Bool) (effect : State → State) (s : State) :
    Host.Outcome State Fault Refusal :=
  .next (if may s then (effect s.tick).finish else s)

end Sys2Proof.Machine
end

