-- ==== Sys2Proof/Machine/Beat.lean ====
section
/-! DEFINITION. The beat and the sample period (R1): the divider, what every block does at a beat, and the
events that a beat or a sample period brings due. -/

namespace Sys2Proof.Machine

/-! ### Events that come due by the passing of time -/

/-- Do an event if it is due, and let its signals be taken before the next. -/
def State.ifDue (s : State) (due : Bool) (f : State → State) : State :=
  if due then State.settle settleFuel (f s) else s

def allStations : List (Fin 32) :=
  [0, 1, 2, 3, 4, 5, 6, 7, 8, 9, 10, 11, 12, 13, 14, 15, 16, 17, 18, 19, 20, 21, 22, 23, 24, 25, 26, 27,
    28, 29, 30, 31]

/-- The due events of peers, the pending cue list and the inputs. -/
def State.eventsOutside (s : State) : State :=
  let s := forEach (s.ptb.map (·.station)) (fun st s => s.ifDue (s.peerDue st) (·.expirePeer st)) s
  let s := s.ifDue s.pendingDue State.takePendingCues
  let s := forEach allInputs (fun i s => s.ifDue (s.changeDue i) (·.changeInput i)) s
  forEach allInputs (fun i s => s.ifDue (s.stuckInputDue i) (·.markStuck i)) s

/-- The due events of presence groups and of the start and the stuck line of hold. -/
def State.eventsHall (s : State) : State :=
  let s := forEach allGroups (fun g s => s.ifDue (s.lingerDue g) (·.groupEnters g .idle 0)) s
  let s := s.ifDue s.holdBeginDue State.beginHold
  s.ifDue s.stuckDue State.reportStuck

/-- The due events of the station state and of the BBI. -/
def State.eventsBus (s : State) : State :=
  let s := s.ifDue s.joiningDue State.enterActive
  let s := s.ifDue s.boundaryDue State.regularBoundary
  let s := s.ifDue s.spacingDue State.endSpacing
  let s := s.ifDue s.trialDue State.nextTrial
  s.ifDue s.limitDue State.fallBack

/-- The due events of the Scene Engine. -/
def State.eventsScenes (s : State) : State :=
  let s := forEach (s.sce.queue.map (·.scene))
    (fun n s => s.ifDue (s.patienceDue n) (·.expireRequest n)) s
  let s := forEach allSlots (fun i s => s.ifDue (s.awaitDue i) (·.timeoutAwait i)) s
  forEach allSlots (fun i s => s.ifDue (s.cueDue i) (·.runCues i)) s

/-- The due events of one voice's gate. -/
def State.eventsGate (v : Voice) (s : State) : State :=
  let s := s.ifDue (s.retryDue v) (·.endRetry v)
  let s := s.ifDue (s.grantDue v) (·.grant v)
  s.ifDue (s.quietDue v) (·.passQuietLimit v)

/-- The due events of one axis. -/
def State.eventsAxis (a : Fin 4) (s : State) : State :=
  let s := s.ifDue (s.guardDue a) (·.clearGuard a)
  s.ifDue (s.starveDue a) (·.starve a)

/-- Take every event that is due, in one fixed order, the end of hold first (log entry 4). -/
def State.takeDue (s : State) : State :=
  let s := (s.ifDue s.holdEndDue State.endHold).eventsOutside.eventsHall.eventsBus.eventsScenes
  let s := forEach allVoices State.eventsGate s
  forEach allAxes State.eventsAxis s

/-! ### The beat -/

/-- The divider begins a period, the pins are sampled, and a PWM period begins, with the outputs of the last
frame (R1, R104). That a PWM period begins at the beat boundary, before the frame of that beat, is the model's
choice (log entry 46). -/
def State.beatStart (s : State) (pins : Pins) : State :=
  { s with
    beats := s.beats + 1
    pins := pins
    clk := { s.clk with samples := 0 }
    lte := { s.lte with pwm := vmap (·.output) s.lte.channels } }

/-- Clock, ages, inputs, and the sample of the hold line (R10, R39, R49, R161). -/
def State.beatOutside (s : State) (pins : Pins) : State :=
  let s := { (s.onClk Clock.beat) with ptb := s.ptb.map (Peer.beat s.staleLimit) }
  (s.inputsBeat pins).holdBeat pins.holdOther

/-- The counts of the bus, the port, the scenes, the voices, the axes and the JOINING interval at a beat. -/
def State.beatCounts (s : State) : State :=
  let s := ((s.onBus Bus.beat).onSmp Port.beat).patienceBeat
  let s := s.onSce fun e => { e with slots := vmap (fun x => x.beat s.held) e.slots }
  let s := s.onNre fun n => { n with a := n.a.gateBeat s.held, b := n.b.gateBeat s.held }
  let s := forEach allAxes
    (fun a s =>
      match s.axisCfg a with
      | some c => s.onAxis a fun x => x.timers c s.held (s.guardActive c.guardMask)
      | none => s) s
  s.onSul fun u => if u.station = .joining then { u with joinTimer := u.joinTimer + 1 } else u

/-- The lighting frame and the motion periods of the four axes (R103, R148). -/
def State.beatShow (s : State) : State :=
  forEach allAxes State.axisPeriod s.lightingFrame

/-- What every block does at a beat (R1). -/
def State.beatWork (s : State) (pins : Pins) : State :=
  State.settle settleFuel ((s.beatStart pins).beatOutside pins).beatCounts.beatShow

/-- A beat: what a former beat left due is taken first, then the beat's work, then, unless it is left to
its own commands, what this beat brings due. -/
def State.beat (s : State) (pins : Pins) (leave : Bool) : State :=
  let s := (State.takeDue s).beatWork pins
  if leave then s else s.takeDue

/-! ### The sample period -/

/-- Take the clip ends and tail ends that are due. -/
def State.takeEnds (s : State) : State :=
  let s := forEach allVoices (fun v s => s.ifDue (s.clipEndDue v) (·.endClip v)) s
  forEach allVoices (fun v s => s.ifDue (s.tailEndDue v) (·.endTail v)) s

/-- The divider's sample periods, and the PWM period that starts with every fourth of them, counted from the
beat boundary (R1, R104; log entry 46). -/
def State.sampleStart (s : State) : State :=
  let n := s.clk.samples + 1
  let s := s.onClk fun c => { c with samples := n }
  if n % 4 = 0 then s.onLte fun l => { l with pwm := vmap (·.output) l.channels } else s

/-- A sample period: what is left due of the one before is taken first, then the period's work, then,
unless left to their own commands, the ends it brings. -/
def State.samplePeriod (s : State) (leave : Bool) : State :=
  let s := State.settle settleFuel (s.takeEnds.sampleStart.narrationSample)
  if leave then s else s.takeEnds

end Sys2Proof.Machine
end

