-- ==== Sys2Proof/Machine/Port.lean ====
section
/-! DEFINITION. How a transfer of the show memory port ends (R166, R168): its data handed to the
requester, a first timeout with its retry, a second timeout. -/

namespace Sys2Proof.Machine

/-- The transfer in progress. -/
def State.inTransfer (s : State) : Option Transfer :=
  match s.smp.state with
  | .busy t _ => some t
  | _ => none

/-- The bytes of SMIN that follow the data-start mark; those before it are passed over (R175). -/
def afterMark : List Byte → List Byte
  | [] => []
  | b :: rest => if b = dataStart then rest else afterMark rest

/-- A transfer in progress that `pick` accepts can complete: its bytes have come after the mark. -/
def State.mayComplete (s : State) (pick : Requester → Bool) (smin : List Byte) : Bool :=
  match s.inTransfer with
  | some t => pick t.who && t.count ≤ (afterMark smin).length
  | none => false

/-- The transfer ends and hands the requested bytes, which follow the mark on SMIN, to its requester (R166,
R175). -/
def State.completeTransfer (s : State) (smin : List Byte) : State :=
  match s.inTransfer with
  | none => s
  | some t =>
    let bytes := (afterMark smin).take t.count
    match t.who with
    | .loader => s.portReady.loadStep bytes
    | .voice v => s.portReady.burstDone v bytes
    | .scene i run kind => s.portReady.readDone i run kind bytes

def Requester.isLoader : Requester → Bool
  | .loader => true
  | _ => false

def Requester.isVoice : Requester → Bool
  | .voice _ => true
  | _ => false

/-- An initial read, in LOADING or CLAIMING. -/
def Requester.isInitial : Requester → Bool
  | .scene _ _ .initial => true
  | _ => false

/-- A refill or reload read. -/
def Requester.isLater : Requester → Bool
  | .scene _ _ .refill => true
  | .scene _ _ .reload => true
  | _ => false

/-- The beat at which the data-start mark has been awaited for 2 ms, counted as 2 beats (R168, 0.8.4). A beat
that passes it without a timeout shows that the mark has come (log entry 47). -/
def Port.markLate (p : Port) : Bool := p.timer = 2

/-- A transfer has waited for its data-start mark for the first time (R168). -/
def State.mayTimeOut (s : State) : Bool :=
  match s.smp.state with
  | .busy _ retried => !retried && s.smp.markLate
  | _ => false

/-- The first timeout: reported, and the same transfer sent again (R168, R175). -/
def State.timeOut (s : State) : State :=
  match s.smp.state with
  | .busy t _ =>
    (s.onSmp fun p => { p with state := .busy t true, sent := readCommand t.address, timer := 0 }).report
      .showMemoryTimeout s.sul.number.val
  | _ => s

/-- The retry of a transfer has waited for its data-start mark (R168). -/
def State.mayFail (s : State) : Bool :=
  match s.smp.state with
  | .busy _ retried => retried && s.smp.markLate
  | _ => false

/-- The second timeout: the port is FAILED, the transfer and every waiting request fail (R168). -/
def State.failPort (s : State) : State :=
  match s.smp.state with
  | .busy t _ =>
    ((s.onSmp fun p => { p with state := .failed, waiting := [], timer := 0 }).report .showMemoryFailed
      s.sul.number.val).post ((t :: s.smp.waiting).map Transfer.failure)
  | _ => s

end Sys2Proof.Machine
end

