-- ==== Sys2Proof/Machine/BusCommands.lean ====
section
/-! DEFINITION. Meanings: the bay bus. Frames received, access attempts, beacon boundaries, rate learning,
peer expiry, pending cues. -/

namespace Sys2Proof.Machine

/-- PEER_EXPIRY (R39). -/
def execPeerExpiry (station : Fin 32) : State → Host.Outcome State Fault Refusal :=
  act (·.peerDue station) (·.expirePeer station)

/-- PENDING_CUE_DUE (R96). -/
def execPendingCueDue : State → Host.Outcome State Fault Refusal :=
  act State.pendingDue State.takePendingCues

/-- LINE_IDLE (R16): the BBI listens, is not itself on the line, and has not judged it idle. -/
def execLineIdle : State → Host.Outcome State Fault Refusal :=
  act (fun s => s.receives && !s.bus.lineIdle) State.lineFallsIdle

/-- RECEPTION_START (R16): a start marker on an idle line. -/
def execReceptionStart : State → Host.Outcome State Fault Refusal :=
  act (fun s => s.receives && s.bus.lineIdle) State.receptionStarts

/-- BAD_FRAME (R17). -/
def execBadFrame (_cause : BadCause) : State → Host.Outcome State Fault Refusal :=
  act State.inReception State.frameBad

/-- RATE_DOUBT (R33). -/
def execRateDoubt : State → Host.Outcome State Fault Refusal := act State.doubtDue State.doubt

/-- A BEACON is dispatched to the Peer Table (R36 to R38, R174). -/
def State.beaconFrame (s : State) (sender : Byte) (stamp : BitVec 32) (g x : BitVec 16) (flags : Byte) :
    State :=
  s.frame sender fun st s => s.acceptBeacon st stamp (peerOf st g x flags)

/-- BEACON (R37). -/
def execBeacon (sender : Byte) (stamp : BitVec 32) (g x : BitVec 16) (flags : Byte) :
    State → Host.Outcome State Fault Refusal :=
  act State.inReception (·.beaconFrame sender stamp g x flags)

/-- CUE, long form (R92). -/
def execCueLongForm (sender cue : Byte) (startAt : BitVec 32) :
    State → Host.Outcome State Fault Refusal :=
  act State.inReception (·.frame sender fun st s => s.hearLong st cue startAt)

/-- A short-form CUE is ignored for another target, a target above 31 or a scene above 63 (R19, R174). -/
def State.shortFrame (s : State) (st : Fin 32) (target scene : Byte) (startAt : BitVec 32) : State :=
  match finOf 32 target, finOf 64 scene with
  | some t, some n => if t = s.sul.number then s.hearShort st n startAt else s
  | _, _ => s

/-- CUE, short form (R92). -/
def execCueShortForm (sender target scene : Byte) (startAt : BitVec 32) :
    State → Host.Outcome State Fault Refusal :=
  act State.inReception (·.frame sender fun st s => s.shortFrame st target scene startAt)

/-- A TALK at the earshot gate (R134, R135): one from an earshot-set station of lower number makes a
claiming voice back off, and any from the set is answered while this station talks. -/
def State.hearTalk (s : State) (st : Fin 32) : State :=
  if inSet s.earshot st.val then
    let s := if st < s.sul.number then (s.backOff .a).backOff .b else s
    if s.nre.talking then s.earlyRequest else s
  else s

/-- A TALK with a voice code that names no voice is ignored (R174). -/
def State.talkFrame (s : State) (st : Fin 32) (voice : Byte) : State :=
  match voiceOf voice with
  | some _ => s.hearTalk st
  | none => s

/-- TALK (R134). -/
def execTalk (sender voice _clip : Byte) : State → Host.Outcome State Fault Refusal :=
  act State.inReception (·.frame sender fun st s => s.talkFrame st voice)

/-- ANSWER (R19): ignored. -/
def execAnswer (sender _target _kind _outcome _reason : Byte) (_data : List Byte) :
    State → Host.Outcome State Fault Refusal :=
  act State.inReception (·.frame sender fun _ s => s)

/-- A frame of unknown kind (R17, R19, R20): valid, and ignored whatever its sender. -/
def execFrameOfUnknownKind (_kind _sender : Byte) (_payload : List Byte) :
    State → Host.Outcome State Fault Refusal :=
  act State.inReception State.frameValid

/-- ATTEMPT_BEGIN (R23). -/
def execAttemptBegin (waited : Nat) : State → Host.Outcome State Fault Refusal :=
  act (·.waited waited) State.attempt

/-- JAM (R24): a mismatch in an attempt. -/
def execJam : State → Host.Outcome State Fault Refusal := act (fun s => s.bus.tx = .send) State.jam

/-- JAM_END (R24). -/
def execJamEnd : State → Host.Outcome State Fault Refusal := act (fun s => s.bus.tx = .jam) State.endJam

/-- BUS_GIVE_UP (R25). -/
def execBusGiveUp : State → Host.Outcome State Fault Refusal := act State.giveUpDue State.giveUp

/-- ATTEMPT_SENT (R26). -/
def execAttemptSent : State → Host.Outcome State Fault Refusal :=
  act (fun s => s.bus.tx = .send) State.sent

/-- REGULAR_BOUNDARY (R27). -/
def execRegularBoundary : State → Host.Outcome State Fault Refusal :=
  act State.boundaryDue State.regularBoundary

/-- EARLY_SPACING_END (R28). -/
def execEarlySpacingEnd : State → Host.Outcome State Fault Refusal :=
  act State.spacingDue State.endSpacing

/-- TRIAL_WINDOW_END (R31). -/
def execTrialWindowEnd : State → Host.Outcome State Fault Refusal := act State.trialDue State.nextTrial

/-- LEARNING_LIMIT (R32). -/
def execLearningLimit : State → Host.Outcome State Fault Refusal := act State.limitDue State.fallBack

end Sys2Proof.Machine
end

