-- ==== Sys2Proof/Machine/OrderCommands.lean ====
section
/-! DEFINITION. Meanings: the orders of TABLE XL as frames received from the bay bus (R97). -/

namespace Sys2Proof.Machine

/-- START (R99). -/
def execStart (sender target : Byte) (operands : List Byte) : State → Host.Outcome State Fault Refusal :=
  act State.inReception (·.frame sender (State.order .start target operands))

/-- STOP (R77). -/
def execStop (sender target : Byte) (operands : List Byte) : State → Host.Outcome State Fault Refusal :=
  act State.inReception (·.frame sender (State.order .stop target operands))

/-- STOP_ALL (R77). -/
def execStopAll (sender target : Byte) (operands : List Byte) :
    State → Host.Outcome State Fault Refusal :=
  act State.inReception (·.frame sender (State.order .stopAll target operands))

/-- SET_FLAG (R91). -/
def execSetFlag (sender target : Byte) (operands : List Byte) :
    State → Host.Outcome State Fault Refusal :=
  act State.inReception (·.frame sender (State.order .setFlag target operands))

/-- HOLD (R160). -/
def execHold (sender target : Byte) (operands : List Byte) : State → Host.Outcome State Fault Refusal :=
  act State.inReception (·.frame sender (State.order .hold target operands))

/-- QUERY (R100). -/
def execQuery (sender target : Byte) (operands : List Byte) : State → Host.Outcome State Fault Refusal :=
  act State.inReception (·.frame sender (State.order .query target operands))

/-- CLEAR_FAULTS (R165). -/
def execClearFaults (sender target : Byte) (operands : List Byte) :
    State → Host.Outcome State Fault Refusal :=
  act State.inReception (·.frame sender (State.order .clearFaults target operands))

/-- RESTART (R98). -/
def execRestart (sender target : Byte) (operands : List Byte) :
    State → Host.Outcome State Fault Refusal :=
  act State.inReception (·.frame sender (State.order .restart target operands))

/-- An ORDER of unknown kind (R97). -/
def execOrderUnknownKind (sender target kind : Byte) (_operands : List Byte) :
    State → Host.Outcome State Fault Refusal :=
  act State.inReception (·.frame sender (State.orderUnknown kind target))

end Sys2Proof.Machine
end

