-- ==== Sys2Proof/Machine/SceneCommands.lean ====
section
/-! DEFINITION. Meanings: visitor inputs, presence groups, the request queue, scene reads, runs and
cues. -/

namespace Sys2Proof.Machine

/-- INPUT_CHANGE (R49). -/
def execInputChange (input : Fin 8) : State → Host.Outcome State Fault Refusal :=
  act (·.changeDue input) (·.changeInput input)

/-- INPUT_STUCK (R54). -/
def execInputStuck (input : Fin 8) : State → Host.Outcome State Fault Refusal :=
  act (·.stuckInputDue input) (·.markStuck input)

/-- LINGER_EXPIRY (R55). -/
def execLingerExpiry (group : Fin 4) : State → Host.Outcome State Fault Refusal :=
  act (·.lingerDue group) (·.groupEnters group .idle 0)

/-- PATIENCE_EXPIRY (R70). -/
def execPatienceExpiry (scene : Fin 64) : State → Host.Outcome State Fault Refusal :=
  act (·.patienceDue scene) (·.expireRequest scene)

/-- SCENE_READ_COMPLETE (R72). -/
def execSceneReadComplete (smin : List Byte) : State → Host.Outcome State Fault Refusal :=
  act (·.mayComplete Requester.isInitial smin) (·.completeTransfer smin)

/-- REFILL_READ_COMPLETE (R83). -/
def execRefillReadComplete (smin : List Byte) : State → Host.Outcome State Fault Refusal :=
  act (·.mayComplete Requester.isLater smin) (·.completeTransfer smin)

/-- CLAIMING_COMPLETE (R73): a run in CLAIMING that may enter RUNNING does so. -/
def execClaimingComplete (slot : Fin 4) : State → Host.Outcome State Fault Refusal :=
  act (·.mayRun slot) (·.enterRunning slot)

/-- CUE_DUE (R84). -/
def execCueDue (slot : Fin 4) : State → Host.Outcome State Fault Refusal :=
  act (·.cueDue slot) (·.runCues slot)

/-- FADE cue (R105). -/
def execFade (slot : Fin 4) (channel : Byte) (target : BitVec 16) (duration : BitVec 24) :
    State → Host.Outcome State Fault Refusal :=
  act (·.mayPerform slot) (·.cueCommand slot (.fade channel target duration))

/-- CYCLE cue (R107). -/
def execCycle (slot : Fin 4) (channel table : Byte) (blend : BitVec 16) :
    State → Host.Outcome State Fault Refusal :=
  act (·.mayPerform slot) (·.cueCommand slot (.cycle channel table blend))

/-- CLIP cue (R130). -/
def execClip (slot : Fin 4) (voice clip mode : Byte) : State → Host.Outcome State Fault Refusal :=
  act (·.mayPerform slot) (·.cueCommand slot (.clip voice clip mode))

/-- SILENCE cue (R132). -/
def execSilence (slot : Fin 4) (voice : Byte) : State → Host.Outcome State Fault Refusal :=
  act (·.mayPerform slot) (·.cueCommand slot (.silence voice))

/-- MOVE cue (R151). -/
def execMove (slot : Fin 4) (axis : Byte) (target : BitVec 24) (profile : Byte) :
    State → Host.Outcome State Fault Refusal :=
  act (·.mayPerform slot) (·.cueCommand slot (.move axis target profile))

/-- HOME cue (R153). -/
def execHome (slot : Fin 4) (axis : Byte) : State → Host.Outcome State Fault Refusal :=
  act (·.mayPerform slot) (·.cueCommand slot (.home axis))

/-- FLAG cue (R91). -/
def execFlag (slot : Fin 4) (flag value : Byte) : State → Host.Outcome State Fault Refusal :=
  act (·.mayPerform slot) (·.cueCommand slot (.flag flag value))

/-- ANNOUNCE cue (R88). -/
def execAnnounce (slot : Fin 4) (cue : Byte) (delay : BitVec 16) :
    State → Host.Outcome State Fault Refusal :=
  act (·.mayPerform slot) (·.cueCommand slot (.announce cue delay))

/-- DIRECT cue (R88). -/
def execDirect (slot : Fin 4) (station scene : Byte) (delay : BitVec 16) :
    State → Host.Outcome State Fault Refusal :=
  act (·.mayPerform slot) (·.cueCommand slot (.direct station scene delay))

/-- START cue (R88). -/
def execStartCue (slot : Fin 4) (scene : Byte) : State → Host.Outcome State Fault Refusal :=
  act (·.mayPerform slot) (·.cueCommand slot (.start scene))

/-- AWAIT cue (R89). -/
def execAwait (slot : Fin 4) (kind op1 op2 : Byte) (timeout : BitVec 16) (onTimeout : Byte) :
    State → Host.Outcome State Fault Refusal :=
  act (·.mayPerform slot) (·.cueCommand slot (.await kind op1 op2 timeout onTimeout))

/-- AWAIT_TIMEOUT (R90). -/
def execAwaitTimeout (slot : Fin 4) : State → Host.Outcome State Fault Refusal :=
  act (·.awaitDue slot) (·.timeoutAwait slot)

/-- ENDING_RESOURCES_IDLE (R75). -/
def execEndingResourcesIdle (slot : Fin 4) : State → Host.Outcome State Fault Refusal :=
  act (·.endingIdle slot) (·.endRun slot)

/-- SLOT_GOES_FREE (R76): a STOPPING slot that holds no resource and has no read in flight. -/
def execSlotGoesFree (slot : Fin 4) : State → Host.Outcome State Fault Refusal :=
  act (·.stoppedOut slot) (·.goFree slot)

end Sys2Proof.Machine
end

