-- ==== Sys2Proof/Machine/ShowCommands.lean ====
section
/-! DEFINITION. Meanings: lighting, motion, voices and hold. -/

namespace Sys2Proof.Machine

/-- BLEND_END (R107). -/
def execBlendEnd (channel : Fin 16) : State → Host.Outcome State Fault Refusal :=
  act (fun s => (s.channel channel).course.blendDone) (·.onChannel channel Channel.endBlend)

/-- OVERRIDE_RAMP_END (R109). -/
def execOverrideRampEnd (channel : Fin 16) : State → Host.Outcome State Fault Refusal :=
  act (fun s => (s.channel channel).rampDone) (·.onChannel channel Channel.endRamp)

/-- MOTION_STARVED (R152). -/
def execMotionStarved (axis : Fin 4) : State → Host.Outcome State Fault Refusal :=
  act (·.starveDue axis) (·.starve axis)

/-- GUARD_CLEAR (R155). -/
def execGuardClear (axis : Fin 4) : State → Host.Outcome State Fault Refusal :=
  act (·.guardDue axis) (·.clearGuard axis)

/-- RETRY_WAIT_END (R133). -/
def execRetryWaitEnd (voice : Voice) : State → Host.Outcome State Fault Refusal :=
  act (·.retryDue voice) (·.endRetry voice)

/-- CLAIM_GRANTED (R134). -/
def execClaimGranted (voice : Voice) : State → Host.Outcome State Fault Refusal :=
  act (·.grantDue voice) (·.grant voice)

/-- QUIET_LIMIT (R136). -/
def execQuietLimit (voice : Voice) : State → Host.Outcome State Fault Refusal :=
  act (·.quietDue voice) (·.passQuietLimit voice)

/-- BURST_COMPLETE (R137). -/
def execBurstComplete (smin : List Byte) : State → Host.Outcome State Fault Refusal :=
  act (·.mayComplete Requester.isVoice smin) (·.completeTransfer smin)

/-- CLIP_END (R140). -/
def execClipEnd (voice : Voice) : State → Host.Outcome State Fault Refusal :=
  act (·.clipEndDue voice) (·.endClip voice)

/-- TAIL_END (R141). -/
def execTailEnd (voice : Voice) : State → Host.Outcome State Fault Refusal :=
  act (·.tailEndDue voice) (·.endTail voice)

/-- HOLD_BEGINS (R161). -/
def execHoldBegins : State → Host.Outcome State Fault Refusal := act State.holdBeginDue State.beginHold

/-- HOLD_END (R161). -/
def execHoldEnd : State → Host.Outcome State Fault Refusal := act State.holdEndDue State.endHold

/-- HOLD_LINE_STUCK (R163). -/
def execHoldLineStuck : State → Host.Outcome State Fault Refusal :=
  act State.stuckDue State.reportStuck

end Sys2Proof.Machine
end

