-- ==== Sys2Proof/Machine/StationCommands.lean ====
section
/-! DEFINITION. Meanings: resets, the start-up loader, the show memory port, RESTART, beat, slew beat and
sample period. -/

namespace Sys2Proof.Machine

/-- Power-on reset is applied: every block at its power-on values (R5, TABLE LXVI). -/
def State.powerOn (s : State) : State := { State.reset with pending := s.pending }

/-- Pin reset is applied: as power-on reset (R5, TABLE LXVI). -/
def State.pinDown (s : State) : State := { State.reset with pending := s.pending }

/-- POWER_ON_RESET (R5). -/
def execPowerOnReset (s : State) : Host.Outcome State Fault Refusal := .next s.powerOn

/-- PIN_RESET (R5). -/
def execPinReset (s : State) : Host.Outcome State Fault Refusal := .next s.pinDown

/-- RESET_RELEASE (R170): in RESET. -/
def execResetRelease (straps : BitVec 5) : State → Host.Outcome State Fault Refusal :=
  act (fun s => s.sul.station = .reset) (·.releaseReset straps)

/-- BEAT (R1): when the second stage of the divider has counted its sample periods. -/
def execBeat (pins : Pins) (leave : Bool) : State → Host.Outcome State Fault Refusal :=
  act (·.clk.beatDue) (·.beat pins leave)

/-- SLEW_BEAT (R10): a beat that the advance debt makes a slew beat. -/
def execSlewBeat (pins : Pins) (leave : Bool) : State → Host.Outcome State Fault Refusal :=
  act (fun s => s.clk.beatDue && s.clk.slewDue) (·.beat pins leave)

/-- SAMPLE_PERIOD (R1, R140): while the divider runs and the beat is not yet complete. -/
def execSamplePeriod (leave : Bool) : State → Host.Outcome State Fault Refusal :=
  act (·.clk.sampleDue) (·.samplePeriod leave)

/-- SHOW_MEMORY_TIMEOUT (R168). -/
def execShowMemoryTimeout : State → Host.Outcome State Fault Refusal :=
  act State.mayTimeOut State.timeOut

/-- SHOW_MEMORY_FAILED (R168). -/
def execShowMemoryFailed : State → Host.Outcome State Fault Refusal :=
  act State.mayFail State.failPort

/-- LOAD_TRANSFER_COMPLETE (R169). -/
def execLoadTransferComplete (smin : List Byte) : State → Host.Outcome State Fault Refusal :=
  act (·.mayComplete Requester.isLoader smin) (·.completeTransfer smin)

/-- JOINING_INTERVAL_END (R170). -/
def execJoiningIntervalEnd : State → Host.Outcome State Fault Refusal :=
  act State.joiningDue State.enterActive

/-- RESTART_BEGIN (R172). -/
def execRestartBegin : State → Host.Outcome State Fault Refusal :=
  act State.restartDue State.beginRestart

/-- RESTART_RELOAD (R172). -/
def execRestartReload : State → Host.Outcome State Fault Refusal := act State.reloadDue State.reload

end Sys2Proof.Machine
end

