-- ==== Sys2Proof/Machine/Dispatch.lean ====
section
/-! DEFINITION. The dispatch of a command to its meaning. -/

namespace Sys2Proof.Machine

def exec (i : Instr) (s : State) : Host.Outcome State Fault Refusal :=
  match i with
  | .powerOnReset => Sys2Proof.Machine.execPowerOnReset s
  | .pinReset => Sys2Proof.Machine.execPinReset s
  | .resetRelease straps => Sys2Proof.Machine.execResetRelease straps s
  | .beat pins leave => Sys2Proof.Machine.execBeat pins leave s
  | .slewBeat pins leave => Sys2Proof.Machine.execSlewBeat pins leave s
  | .samplePeriod leave => Sys2Proof.Machine.execSamplePeriod leave s
  | .peerExpiry station => Sys2Proof.Machine.execPeerExpiry station s
  | .pendingCueDue => Sys2Proof.Machine.execPendingCueDue s
  | .lineIdle => Sys2Proof.Machine.execLineIdle s
  | .receptionStart => Sys2Proof.Machine.execReceptionStart s
  | .badFrame cause => Sys2Proof.Machine.execBadFrame cause s
  | .rateDoubt => Sys2Proof.Machine.execRateDoubt s
  | .beacon sender stamp g x flags => Sys2Proof.Machine.execBeacon sender stamp g x flags s
  | .cueLongForm sender cue startAt => Sys2Proof.Machine.execCueLongForm sender cue startAt s
  | .cueShortForm sender target scene startAt => Sys2Proof.Machine.execCueShortForm sender target scene startAt s
  | .talk sender voice clip => Sys2Proof.Machine.execTalk sender voice clip s
  | .answer sender target kind outcome reason data => Sys2Proof.Machine.execAnswer sender target kind outcome reason data s
  | .start sender target operands => Sys2Proof.Machine.execStart sender target operands s
  | .stop sender target operands => Sys2Proof.Machine.execStop sender target operands s
  | .stopAll sender target operands => Sys2Proof.Machine.execStopAll sender target operands s
  | .setFlag sender target operands => Sys2Proof.Machine.execSetFlag sender target operands s
  | .hold sender target operands => Sys2Proof.Machine.execHold sender target operands s
  | .query sender target operands => Sys2Proof.Machine.execQuery sender target operands s
  | .clearFaults sender target operands => Sys2Proof.Machine.execClearFaults sender target operands s
  | .restart sender target operands => Sys2Proof.Machine.execRestart sender target operands s
  | .orderUnknownKind sender target kind operands => Sys2Proof.Machine.execOrderUnknownKind sender target kind operands s
  | .attemptBegin waited => Sys2Proof.Machine.execAttemptBegin waited s
  | .jam => Sys2Proof.Machine.execJam s
  | .jamEnd => Sys2Proof.Machine.execJamEnd s
  | .busGiveUp => Sys2Proof.Machine.execBusGiveUp s
  | .attemptSent => Sys2Proof.Machine.execAttemptSent s
  | .regularBoundary => Sys2Proof.Machine.execRegularBoundary s
  | .earlySpacingEnd => Sys2Proof.Machine.execEarlySpacingEnd s
  | .trialWindowEnd => Sys2Proof.Machine.execTrialWindowEnd s
  | .learningLimit => Sys2Proof.Machine.execLearningLimit s
  | .inputChange input => Sys2Proof.Machine.execInputChange input s
  | .inputStuck input => Sys2Proof.Machine.execInputStuck input s
  | .lingerExpiry group => Sys2Proof.Machine.execLingerExpiry group s
  | .patienceExpiry scene => Sys2Proof.Machine.execPatienceExpiry scene s
  | .sceneReadComplete data => Sys2Proof.Machine.execSceneReadComplete data s
  | .refillReadComplete data => Sys2Proof.Machine.execRefillReadComplete data s
  | .claimingComplete slot => Sys2Proof.Machine.execClaimingComplete slot s
  | .cueDue slot => Sys2Proof.Machine.execCueDue slot s
  | .fade slot channel target duration => Sys2Proof.Machine.execFade slot channel target duration s
  | .cycle slot channel table blend => Sys2Proof.Machine.execCycle slot channel table blend s
  | .clip slot voice clip mode => Sys2Proof.Machine.execClip slot voice clip mode s
  | .silence slot voice => Sys2Proof.Machine.execSilence slot voice s
  | .move slot axis target profile => Sys2Proof.Machine.execMove slot axis target profile s
  | .home slot axis => Sys2Proof.Machine.execHome slot axis s
  | .flag slot flag value => Sys2Proof.Machine.execFlag slot flag value s
  | .announce slot cue delay => Sys2Proof.Machine.execAnnounce slot cue delay s
  | .direct slot station scene delay => Sys2Proof.Machine.execDirect slot station scene delay s
  | .startCue slot scene => Sys2Proof.Machine.execStartCue slot scene s
  | .await slot kind op1 op2 timeout onTimeout => Sys2Proof.Machine.execAwait slot kind op1 op2 timeout onTimeout s
  | .awaitTimeout slot => Sys2Proof.Machine.execAwaitTimeout slot s
  | .endingResourcesIdle slot => Sys2Proof.Machine.execEndingResourcesIdle slot s
  | .slotGoesFree slot => Sys2Proof.Machine.execSlotGoesFree slot s
  | .blendEnd channel => Sys2Proof.Machine.execBlendEnd channel s
  | .overrideRampEnd channel => Sys2Proof.Machine.execOverrideRampEnd channel s
  | .motionStarved axis => Sys2Proof.Machine.execMotionStarved axis s
  | .guardClear axis => Sys2Proof.Machine.execGuardClear axis s
  | .retryWaitEnd voice => Sys2Proof.Machine.execRetryWaitEnd voice s
  | .claimGranted voice => Sys2Proof.Machine.execClaimGranted voice s
  | .quietLimit voice => Sys2Proof.Machine.execQuietLimit voice s
  | .burstComplete data => Sys2Proof.Machine.execBurstComplete data s
  | .clipEnd voice => Sys2Proof.Machine.execClipEnd voice s
  | .tailEnd voice => Sys2Proof.Machine.execTailEnd voice s
  | .holdBegins => Sys2Proof.Machine.execHoldBegins s
  | .holdEnd => Sys2Proof.Machine.execHoldEnd s
  | .holdLineStuck => Sys2Proof.Machine.execHoldLineStuck s
  | .showMemoryTimeout => Sys2Proof.Machine.execShowMemoryTimeout s
  | .showMemoryFailed => Sys2Proof.Machine.execShowMemoryFailed s
  | .loadTransferComplete data => Sys2Proof.Machine.execLoadTransferComplete data s
  | .joiningIntervalEnd => Sys2Proof.Machine.execJoiningIntervalEnd s
  | .restartBegin => Sys2Proof.Machine.execRestartBegin s
  | .restartReload => Sys2Proof.Machine.execRestartReload s
  | .frameOfUnknownKind kind sender payload => Sys2Proof.Machine.execFrameOfUnknownKind kind sender payload s

end Sys2Proof.Machine
end

