-- ==== Sys2Proof/Safety.lean ====
section
/-! DEFINITION. What counts as a sound state, in the terms that the statements use: the bounds and orders
that the spec gives each collection of the part, one predicate for each. -/

namespace Sys2Proof.Machine

/-- Both rings are in their canonical form: places rising and below 2048, no sample 0 listed. -/
abbrev State.RingsWf (s : State) : Prop := ringWf s.nre.a.ring = true ∧ ringWf s.nre.b.ring = true

/-- The fault list holds at most 16 entries, no two of one key, each with a count of 1 to 255 (R164). -/
abbrev FaultList.Sound (l : FaultList) : Prop :=
  l.entries.length ≤ 16 ∧ (l.entries.map (·.key)).Nodup ∧ ∀ e ∈ l.entries, 1 ≤ e.count ∧ e.count ≤ 255

/-- Peer entries stand in strictly ascending order of station number (R35). -/
abbrev PeersAscend (l : List Peer) : Prop := l.Pairwise fun e f => e.station < f.station

/-- The Peer Table is in order, holds no entry for this station's own number, and is empty in RESET
(R35, R47). -/
abbrev State.PeersSound (s : State) : Prop :=
  PeersAscend s.ptb ∧ (∀ e ∈ s.ptb, e.station ≠ s.sul.number) ∧ (s.sul.station = .reset → s.ptb = [])

/-- The request queue stands in service order: no entry before one of higher priority (R69). -/
abbrev InServiceOrder (l : List Request) : Prop := l.Pairwise fun q r => r.priority ≤ q.priority

/-- The pending cue list stands in ascending order of lead at a show time (R94). -/
abbrev InLeadOrder (now : ShowTime) (l : List PendingCue) : Prop :=
  l.Pairwise fun q r => lead now q.startAt ≤ lead now r.startAt

/-- An axis lies within its soft limits (R147). -/
abbrev WithinLimits (c : AxisCfg) (p : Int) : Prop := c.softMin * 256 ≤ p ∧ p ≤ c.softMax * 256

/-- No clip and no tail of a voice is at its end: a PLAYING voice has samples of its current clip left to play,
and a tail has not run its 64 periods (R140, R141). -/
abbrev VoiceRec.GoesOn (x : VoiceRec) : Prop :=
  (x.state = .playing → ∀ c ∈ x.current, c.toPlay ≠ 0) ∧ (x.state = .tailing → x.tailCount < 64)

/-- The show of a station in CONFIG_FAULT (R171): no settings, no run, no waiting request, every output dark,
the voices IDLE and the audio out at 0, every axis UNHOMED and still. -/
abbrev State.DarkAndStill (s : State) : Prop :=
  s.cfg = none ∧ s.sce.queue = [] ∧
    (∀ i : Fin 4, (s.slot i).state = .free ∧ (s.slot i).successor = none) ∧
    (∀ c : Fin 16, (s.channel c).output = 0) ∧
    s.nre.audio = 0#16 ∧
    (∀ x ∈ [s.nre.a, s.nre.b],
      x.state = .idle ∧ x.current = none ∧ x.next = none ∧ x.queue = []) ∧
    ∀ a : Fin 4, (s.axis a).state = .unhomed ∧ (s.axis a).v = 0 ∧ (s.axis a).move = none

/-! ### The instant of a command -/

/-- `t` is `u` but for the transmitter's state and the show memory port, which the end of every instant
brings up (TABLE XII, R166, R167). -/
abbrev SameAtEnd (u t : State) : Prop :=
  t = { u with bus := { u.bus with tx := t.bus.tx }, smp := t.smp }

/-- What the end of an instant makes of a state in which no block has anything left to tell another: a
transmitter that is not on the line rests as TABLE XII gives, and a READY port takes the waiting request that
its arbiter chooses (R166, R167). -/
def State.atEnd (u : State) : State :=
  { u with
    bus := { u.bus with tx := if u.bus.tx = .send ∨ u.bus.tx = .jam then u.bus.tx else u.restingTx }
    smp := u.arbitrate.smp }

/-- A command is executed in every case, and the next state is `u` at the end of its instant. -/
abbrev Gives (c : Instr) (s u : State) : Prop := exec c s = .next u.atEnd

/-- The station follows the line: a rate is in force or under trial, the station is not in RESET, and this
station is not itself on the line (R16, R30). -/
abbrev State.Listening (s : State) : Prop :=
  s.sul.station ≠ .reset ∧ s.bus.rateState ≠ .noRate ∧ s.bus.tx ≠ .send ∧ s.bus.tx ≠ .jam

/-- A reception is open at the rate in force, and a frame of another station can end (R16, R17). -/
abbrev State.Receiving (s : State) : Prop :=
  s.sul.station ≠ .reset ∧ s.bus.rateState = .rateSet ∧ s.bus.tx ≠ .send ∧ s.bus.tx ≠ .jam ∧
    s.bus.receiving = true

/-- The instant at which a valid frame has ended at the rate in force: no reception, the line busy, and a
bad-frame run count of 0 (R16, R17). -/
def State.heard (s : State) : State :=
  s.tick.onBus fun b => { b with receiving := false, lineIdle := false, badRun := 0 }

/-- A permitted ORDER of another station finds an empty latch, no RESTART under way, a station not in
CONFIG_FAULT, and room for its answer (R97). -/
abbrev State.TakesOrder (s : State) (sender : Fin 32) : Prop :=
  s.Receiving ∧ sender ≠ s.sul.number ∧ s.orderSet.getLsbD sender.val = true ∧ s.sce.latch = none ∧
    s.sul.restarting = false ∧ s.sul.station ≠ .configFault ∧ s.bus.queue.length < 8

/-- A DONE answer to an order kind at the back of the outbound queue (R98). -/
def State.doneAnswer (s : State) (sender : Fin 32) (kind : OrderKind) (data : List Byte) : State :=
  s.onBus (·.place (.answer sender kind.code outcomeDone reasonNone data false) .sce)

end Sys2Proof.Machine
end

