-- ==== Sys2Proof/Certificates/Slice0/Obligations.lean ====
section
/-! DEFINITION. The statements for the provers. Each docstring names the rules of spec/ that the statement
rests on, and each log entry (notes/assumptions) where a clause rests on the model's choice. Throughout, a
command executed is one instant of the model (log entries 5 and 6): `State.tick` begins it, `State.finish`
ends it, and `Gives c s u` says that `c` is executed on `s` and leaves `u` at its end. A command that cannot
take effect leaves everything as it stands (log entry 3). -/

open Sys2Proof Sys2Proof.Machine

/-! ### The machine -/

/-- A step takes the command at the front of the queue and executes it with the queue's rest. On an empty
queue nothing happens (log entry 1). -/
def Obligations.StepRunsFrontCommand : Prop :=
  (∀ (c : Instr) (rest : List Instr) (s : State),
    step { s with pending := c :: rest } = exec c { s with pending := rest }) ∧
  ∀ s : State, step { s with pending := [] } = .next { s with pending := [] }

/-- No command takes from or adds to the queue of waiting commands (the model's own, log entry 1), and none
but a reset and its release writes the station number (0.6.1, R170). -/
def Obligations.CommandsKeepQueueAndNumber : Prop :=
  ∀ (c : Instr) (s t : State), exec c s = .next t →
    t.pending = s.pending ∧
      (c ≠ .powerOnReset → c ≠ .pinReset → (∀ straps, c ≠ .resetRelease straps) →
        t.sul.number = s.sul.number)

/-- R5, R47, R165, TABLE LXVI: both resets, in every state, empty the part and hold it in RESET. That both
leave one and the same `State.reset` is the model's (log entries 11 and 12), and so is the queue of commands
that stays (log entry 1). R170, R175: the release samples the straps, starts the divider, and asks for the
image header, the read command and the address going out on SMOUT. -/
def Obligations.ResetsAndRelease : Prop :=
  (∀ s : State,
    exec .powerOnReset s = .next { State.reset with pending := s.pending } ∧
      exec .pinReset s = .next { State.reset with pending := s.pending }) ∧
  (State.reset.clk =
      { running := false, samples := 0, showTime := 0#32, debt := 0, spacing := 0, capture := none } ∧
    State.reset.cfg = none ∧ State.reset.sul.station = .reset ∧ State.reset.ptb = [] ∧
    State.reset.flt = { entries := [], overflow := false } ∧ State.reset.sce.queue = [] ∧
    State.reset.sce.flags = 0#4 ∧ State.reset.sce.latch = none ∧ State.reset.csc = [] ∧
    State.reset.bus.queue = [] ∧ State.reset.bus.request = none ∧ State.reset.bus.tx = .off ∧
    State.reset.bus.rateState = .noRate ∧ State.reset.bus.badRun = 0 ∧
    State.reset.hld.orderHold = false ∧ State.reset.hld.inEffect = false ∧
    State.reset.smp.state = .ready) ∧
  ∀ (s : State) (straps : BitVec 5), s.sul.station = .reset →
    s.smp.state = .ready → s.smp.waiting = [] →
    ∃ t, exec (.resetRelease straps) s = .next t ∧
      t.sul = { s.sul with station := .loading, number := ⟨straps.toNat, straps.isLt⟩, phase := .header } ∧
      t.clk = { s.clk with running := true } ∧
      t.smp =
        { state := .busy { who := .loader, address := 0, count := 16, instant := s.instant + 1 } false
          waiting := [], sent := [0x03#8, 0x00#8, 0x00#8, 0x00#8], timer := 0 } ∧
      t = { s.tick with sul := t.sul, clk := t.clk, smp := t.smp, bus := { s.bus with tx := t.bus.tx } }

/-! ### Show time -/

/-- R4: one test of show times. A time is reached for half the range after it; else it is ahead by 1 to 2^31.
An advance of up to 2^31 - 1 reaches what was ahead by no more, and a reached time stays reached until show
time has gone 2^31 past it. A stamp exactly 2^31 from a capture counts as behind. -/
def Obligations.ShowTimeReached : Prop :=
  ∀ now t : ShowTime,
    (reached now t = true ↔ (now - t).toNat < 2147483648) ∧
    (reached now t = false → ahead now t = (t - now).toNat ∧ 1 ≤ ahead now t ∧
      ahead now t ≤ 2147483648) ∧
    (∀ n : Nat, n < 2147483648 → reached now t = false →
      (reached (now + BitVec.ofNat 32 n) t = true ↔ ahead now t ≤ n)) ∧
    (∀ n : Nat, n < 2147483648 → reached now t = true →
      (reached (now + BitVec.ofNat 32 n) t = true ↔ (now - t).toNat + n < 2147483648)) ∧
    offsetOf (t + 0x80000000#32) t < 0

/-- R1, R10: a beat comes when its 24 sample periods have ended, and not before; what it does to the clock.
With no debt show time advances by 1 and the spacing count stays; with a debt the count rises, and at 8 the
beat is a slew beat: show time advances by 2, the debt falls by 1, the count returns to 0. The divider begins
a new beat, and the capture is kept (R7). So a debt whose spacing count is 0 is repaid by 1 ms in every 8
beats, in which show time advances by 9 (section 1.5). The flag `leave`, by which a beat's other events are
left to their own commands, is the model's (log entry 4), and so is SLEW_BEAT as a command of its own (log
entry 7). -/
def Obligations.BeatMovesShowClock : Prop :=
  (∀ (pins : Pins) (leave : Bool) (s : State), s.clk.samples < 24 ∨ s.clk.running = false →
      exec (.beat pins leave) s = .next s ∧ exec (.slewBeat pins leave) s = .next s) ∧
  (∀ (pins : Pins) (leave : Bool) (s : State), s.clk.running = true → 24 ≤ s.clk.samples →
      (∃ t, exec (.beat pins leave) s = .next t ∧ t.beats = s.beats + 1 ∧ t.pins = pins ∧
        (s.clk.debt = 0 →
          t.clk = { s.clk with samples := 0, showTime := s.clk.showTime + 1#32 }) ∧
        (0 < s.clk.debt → s.clk.spacing + 1 < 8 →
          t.clk =
            { s.clk with samples := 0, showTime := s.clk.showTime + 1#32, spacing := s.clk.spacing + 1 }) ∧
        (0 < s.clk.debt → 8 ≤ s.clk.spacing + 1 →
          t.clk =
            { s.clk with
              samples := 0, showTime := s.clk.showTime + 2#32, debt := s.clk.debt - 1, spacing := 0 })) ∧
      (0 < s.clk.debt → 8 ≤ s.clk.spacing + 1 →
        exec (.slewBeat pins leave) s = exec (.beat pins leave) s)) ∧
  ∀ (c : Clock) (n : Nat), c.spacing = 0 → n ≤ c.debt →
    Clock.beat^[8 * n] c =
      { c with showTime := c.showTime + BitVec.ofNat 32 (9 * n), debt := c.debt - n }

/-- R8, R9, R11, TABLE VII: what the clock does with an accepted beacon. Nothing without settings, a capture,
a sender of the clock group in force and a positive offset; up to the step limit the debt becomes the larger;
above it show time steps, debt and spacing count go to 0, and CLOCK_STEPPED is reported at the new show time
with the sender as detail. A BEACON of another station does this to the clock, and nothing else to it. -/
def Obligations.BeaconDisciplinesClock : Prop :=
  (∀ (s : State) (st : Fin 32) (stamp : BitVec 32) (g x : BitVec 16) (flags : Byte), s.Receiving →
      st ≠ s.sul.number →
      ∃ t, exec (.beacon (BitVec.ofNat 8 st.val) stamp g x flags) s = .next t ∧
        (s.cfg = none ∨ s.clk.capture = none ∨ s.clockGroup.getLsbD st.val = false → t.clk = s.clk) ∧
        ∀ (c : Config) (at_ : ShowTime) (d : Int), s.cfg = some c → s.clk.capture = some at_ →
          c.clockGroup.getLsbD st.val = true → d = (stamp - at_).toInt →
          (d ≤ 0 → t.clk = s.clk) ∧
          (0 < d → d ≤ c.stepLimit → t.clk = { s.clk with debt := max s.clk.debt d.toNat }) ∧
          (c.stepLimit < d →
            t.clk =
              { s.clk with showTime := s.clk.showTime + (stamp - at_), debt := 0, spacing := 0 })) ∧
  ∀ (s : State) (st : Fin 32) (stamp : ShowTime),
    (s.cfg = none → s.discipline st stamp = s) ∧
    (s.clk.capture = none → s.discipline st stamp = s) ∧
    ∀ (c : Config) (at_ : ShowTime), s.cfg = some c → s.clk.capture = some at_ →
      (c.clockGroup.getLsbD st.val = false → s.discipline st stamp = s) ∧
      ((stamp - at_).toInt ≤ 0 → s.discipline st stamp = s) ∧
      (c.clockGroup.getLsbD st.val = true → 0 < (stamp - at_).toInt →
        (stamp - at_).toInt ≤ c.stepLimit →
          s.discipline st stamp =
            { s with clk := { s.clk with debt := max s.clk.debt (stamp - at_).toInt.toNat } }) ∧
      (c.clockGroup.getLsbD st.val = true → c.stepLimit < (stamp - at_).toInt →
        (s.discipline st stamp).clk =
            { s.clk with showTime := s.clk.showTime + (stamp - at_), debt := 0, spacing := 0 } ∧
          (s.discipline st stamp).flt =
            s.flt.report { kind := .clockStepped, sort := .plain, number := st.val }
              (s.clk.showTime + (stamp - at_)) ∧
          (s.discipline st stamp).csc =
            s.csc.dropWhile (fun e => reached (s.clk.showTime + (stamp - at_)) e.startAt))

/-! ### The bay bus -/

/-- R16, R17, R7: the line falls idle, with a reception still open ending as a fragment, the 32nd bad frame in
a run raising RATE_DOUBT (R33); a start marker on an idle line opens a reception and takes the frame-start
capture. A busy line opens none, and without a reception no frame ends: a bad frame, and a frame of any kind,
then change nothing (log entry 9). -/
def Obligations.LineIdleAndReceptionStart : Prop :=
  ∀ s : State, s.Listening →
    (s.bus.lineIdle = false → s.bus.receiving = false →
      Gives .lineIdle s { s.tick with bus := { s.bus with lineIdle := true } }) ∧
    (s.bus.lineIdle = false → s.bus.receiving = true → s.bus.badRun < 31 →
      Gives .lineIdle s
        { s.tick with
          bus := { s.bus with lineIdle := true, receiving := false, badRun := s.bus.badRun + 1 } }) ∧
    (∀ (c : Config) (r : Rate), s.cfg = some c → c.rate = some r → s.bus.lineIdle = false →
      s.bus.receiving = true → 31 ≤ s.bus.badRun →
      Gives .lineIdle s
        ({ s.tick with
            bus := { s.bus with lineIdle := true, receiving := false, badRun := 0 } }.report
          .rateDoubt s.sul.number.val)) ∧
    (s.bus.lineIdle = true →
      Gives .receptionStart s
        { s.tick with
          bus := { s.bus with lineIdle := false, receiving := true }
          clk := { s.clk with capture := some s.clk.showTime } }) ∧
    (s.bus.lineIdle = false → exec .receptionStart s = .next s) ∧
    (s.bus.receiving = false →
      (∀ cause, exec (.badFrame cause) s = .next s) ∧
        (∀ sender stamp g x flags, exec (.beacon sender stamp g x flags) s = .next s) ∧
        (∀ sender cue at_, exec (.cueLongForm sender cue at_) s = .next s) ∧
        (∀ sender target scene at_, exec (.cueShortForm sender target scene at_) s = .next s) ∧
        (∀ sender voice clip, exec (.talk sender voice clip) s = .next s) ∧
        (∀ make ∈ [Instr.start, Instr.stop, Instr.stopAll, Instr.setFlag, Instr.hold, Instr.query,
            Instr.clearFaults, Instr.restart],
          ∀ sender target ops, exec (make sender target ops) s = .next s) ∧
        (∀ sender target kind ops, exec (.orderUnknownKind sender target kind ops) s = .next s) ∧
        (∀ sender target kind outcome reason data,
          exec (.answer sender target kind outcome reason data) s = .next s) ∧
        ∀ kind sender payload, exec (.frameOfUnknownKind kind sender payload) s = .next s)

/-- R17, R33: a bad frame adds 1 to the bad-frame run count; the 32nd in a run reports RATE_DOUBT and sets the
count to 0, and with a configured rate LEARN, or no configuration, the BBI learns (log entry 15). RATE_DOUBT
as a command of its own does the same where a run of 32 stands (log entry 7). -/
def Obligations.BadFramesRaiseRateDoubt : Prop :=
  (∀ (s : State) (cause : BadCause), s.Listening → s.bus.receiving = true →
      (s.bus.badRun < 31 →
        Gives (.badFrame cause) s
          { s.tick with
            bus := { s.bus with receiving := false, lineIdle := false, badRun := s.bus.badRun + 1 } }) ∧
      ∀ u : State,
        u = ({ s.tick with
                bus := { s.bus with receiving := false, lineIdle := false, badRun := 0 } }.report
              .rateDoubt s.sul.number.val) →
        (∀ (c : Config) (r : Rate), s.cfg = some c → c.rate = some r → 31 ≤ s.bus.badRun →
          Gives (.badFrame cause) s u) ∧
        ((s.cfg = none ∨ ∃ c, s.cfg = some c ∧ c.rate = none) → 31 ≤ s.bus.badRun →
          s.bus.rateState = .rateSet →
          Gives (.badFrame cause) s
            { u with
              bus :=
                { u.bus with
                  rateState := .learning, rate := none, learnTimer := 0, trial := 0, trialTimer := 0
                  badRun := 0, lineIdle := false, receiving := false } })) ∧
  ∀ s : State, 32 ≤ s.bus.badRun →
    ∀ u : State,
      u = ({ s.tick with bus := { s.bus with badRun := 0 } }.report .rateDoubt s.sul.number.val) →
      (∀ (c : Config) (r : Rate), s.cfg = some c → c.rate = some r → Gives .rateDoubt s u) ∧
      ((s.cfg = none ∨ ∃ c, s.cfg = some c ∧ c.rate = none) → s.bus.rateState = .rateSet →
        Gives .rateDoubt s
          { u with
            bus :=
              { u.bus with
                rateState := .learning, rate := none, learnTimer := 0, trial := 0, trialTimer := 0
                badRun := 0, lineIdle := false, receiving := false } })

/-- R17, R19, R20, R36, R174: valid frames that change nothing but the line: a kind that is none of the five,
an ANSWER, a CUE or ORDER for another station, a scene above 63, a sender above 31. A frame of one of the five
kinds that carries this station's own number is discarded, and DUPLICATE_STATION reported with that number,
whatever its target (log entry 34). -/
def Obligations.FramesTurnedAway : Prop :=
  (∀ (s : State) (sender target : Byte), s.Receiving →
      (∀ kind payload, Gives (.frameOfUnknownKind kind sender payload) s s.heard) ∧
      (sender.toNat ≠ s.sul.number.val →
        (∀ dest kind outcome reason data, Gives (.answer sender dest kind outcome reason data) s s.heard) ∧
        (∀ scene at_, 64 ≤ scene.toNat → Gives (.cueShortForm sender target scene at_) s s.heard) ∧
        (target.toNat ≠ s.sul.number.val →
          (∀ scene at_, Gives (.cueShortForm sender target scene at_) s s.heard) ∧
          ∀ ops, Gives (.start sender target ops) s s.heard ∧ Gives (.stop sender target ops) s s.heard ∧
            Gives (.stopAll sender target ops) s s.heard ∧ Gives (.setFlag sender target ops) s s.heard ∧
            Gives (.hold sender target ops) s s.heard ∧ Gives (.query sender target ops) s s.heard ∧
            Gives (.clearFaults sender target ops) s s.heard ∧
            Gives (.restart sender target ops) s s.heard ∧
            ∀ kind, Gives (.orderUnknownKind sender target kind ops) s s.heard)) ∧
      (32 ≤ sender.toNat →
        (∀ stamp g x flags, Gives (.beacon sender stamp g x flags) s s.heard) ∧
        (∀ cue at_, Gives (.cueLongForm sender cue at_) s s.heard) ∧
        ∀ voice clip, Gives (.talk sender voice clip) s s.heard)) ∧
  ∀ (s : State) (sender : Byte), s.Receiving → sender.toNat = s.sul.number.val →
    ∀ u : State, u = s.heard.report .duplicateStation s.sul.number.val →
      (∀ stamp g x flags, Gives (.beacon sender stamp g x flags) s u) ∧
      (∀ cue at_, Gives (.cueLongForm sender cue at_) s u) ∧
      (∀ target scene at_, Gives (.cueShortForm sender target scene at_) s u) ∧
      (∀ voice clip, Gives (.talk sender voice clip) s u) ∧
      (∀ target kind outcome reason data, Gives (.answer sender target kind outcome reason data) s u) ∧
      ∀ target ops, Gives (.start sender target ops) s u ∧ Gives (.stop sender target ops) s u ∧
        Gives (.stopAll sender target ops) s u ∧ Gives (.setFlag sender target ops) s u ∧
        Gives (.hold sender target ops) s u ∧ Gives (.query sender target ops) s u ∧
        Gives (.clearFaults sender target ops) s u ∧ Gives (.restart sender target ops) s u ∧
        ∀ kind, Gives (.orderUnknownKind sender target kind ops) s u

/-- R31, R32: learning a rate. A valid frame in a trial window ends learning with that window's rate, and a
station in LEARNING goes on to JOINING, with its interval, its beacon period and a regular request starting
there (log entry 28). The end of a window begins the next, and the learning limit gives the fallback rate,
with which a station in LEARNING goes on to JOINING. -/
def Obligations.LearningARate : Prop :=
  (∀ s : State, s.bus.rateState = .learning →
      (s.frameValid).bus.rateState = .rateSet ∧ (s.frameValid).bus.rate = some (trialRate s.bus.trial) ∧
        (s.frameValid).bus.badRun = 0 ∧ (s.frameValid).bus.lineIdle = false ∧
        (s.sul.station ≠ .learning → (s.frameValid).sul = s.sul ∧ (s.frameValid).bus.queue = s.bus.queue ∧
          (s.frameValid).bus.request = s.bus.request) ∧
        (s.sul.station = .learning →
          (s.frameValid).sul = { s.sul with station := .joining, joinTimer := 0 } ∧
            (s.frameValid).bus.period = some 0 ∧
            (s.frameValid).bus.request = some (s.bus.request.getD 0))) ∧
  ∀ s : State, s.bus.rateState = .learning →
    (200 ≤ s.bus.trialTimer →
      Gives .trialWindowEnd s
        { s.tick with
          bus :=
            { s.bus with
              trial := s.bus.trial + 1, trialTimer := 0, receiving := false, lineIdle := false } }) ∧
    (∀ c : Config, s.cfg = some c → 10000 ≤ s.bus.learnTimer → s.sul.station = .learning →
      exec .learningLimit s =
        .next (State.finish ((s.tick.onBus fun b => b.adopt c.fallback).enterJoining))) ∧
    (∀ c : Config, s.cfg = some c → 10000 ≤ s.bus.learnTimer → s.sul.station ≠ .learning →
      Gives .learningLimit s
        { s.tick with
          bus :=
            { s.bus with
              rateState := .rateSet, rate := some c.fallback, learnTimer := 0, trial := 0
              trialTimer := 0, lineIdle := false, receiving := false } })

/-- R21: the outbound queue takes up to 8 messages, each at the back with a failed-attempt count of 0; full,
it refuses a TALK and drops a CUE or an ANSWER with QUEUE_DROP, whose detail is the target of a short-form CUE
or an ANSWER and this station's own number for a long-form CUE. R22: the candidate is the queue entry of the
first class that has one, TALK before CUE before ANSWER, and in it the one that joined first; the beacon only
with an empty queue, a pending request and a station state that sends beacons. R23, R25, TABLE XI: its wait is
the class gap, the stagger and the backoff, which is 0 for a count of 0 and else a multiple of 4 up to 60. -/
def Obligations.OutboundQueueAndCandidate : Prop :=
  (∀ (s : State) (o : Origin),
      (s.bus.queue.length < 8 → ∀ m : OutMsg,
        s.enqueue m o =
          { s with
            bus :=
              { s.bus with
                queue := s.bus.queue ++ [{ id := s.bus.nextId, msg := m, origin := o, failed := 0 }]
                nextId := s.bus.nextId + 1 } }) ∧
      (8 ≤ s.bus.queue.length →
        (∀ v n id, s.enqueue (.talk v n id) o = s) ∧
        (∀ k at_, s.enqueue (.cueLong k at_) o = s.report .queueDrop s.sul.number.val .outbound) ∧
        (∀ t n at_, s.enqueue (.cueShort t n at_) o = s.report .queueDrop t.val .outbound) ∧
        ∀ t k oc r d b, s.enqueue (.answer t k oc r d b) o = s.report .queueDrop t.val .outbound)) ∧
  (∀ s : State,
      (∀ e, s.candidate = some (.entry e) → e ∈ s.bus.queue ∧
        (∀ f ∈ s.bus.queue, e.msg.cls ≤ f.msg.cls) ∧
        ∃ before after, s.bus.queue = before ++ e :: after ∧ ∀ f ∈ before, f.msg.cls ≠ e.msg.cls) ∧
      (s.bus.queue ≠ [] → ∃ e, s.candidate = some (.entry e)) ∧
      (s.bus.queue = [] →
        s.candidate =
          if s.sul.station = .joining ∨ s.sul.station = .active ∨ s.sul.station = .configFault then
            s.bus.request.map .beacon
          else none)) ∧
  ∀ (station n : Nat) (v : Voice) (clip : Fin 256) (k : Nat) (cue : Byte) (at_ : ShowTime)
    (target st : Fin 32) (scene : Fin 64) (kind outcome reason : Byte) (data : List Byte) (b : Bool)
    (id : Nat) (o : Origin),
    let back := if n = 0 then 0 else ((station * 7 + n * 5) % 16) * 4
    (Candidate.beacon n).wait station = 8 + station % 4 + back ∧
    (Candidate.entry { id := id, msg := .talk v clip k, origin := o, failed := n }).wait station =
      2 + station % 4 + back ∧
    (Candidate.entry { id := id, msg := .cueLong cue at_, origin := o, failed := n }).wait station =
      4 + station % 4 + back ∧
    (Candidate.entry { id := id, msg := .cueShort st scene at_, origin := o, failed := n }).wait station =
      4 + station % 4 + back ∧
    (Candidate.entry
        { id := id, msg := .answer target kind outcome reason data b, origin := o, failed := n }).wait
      station = 6 + station % 4 + back ∧
    back ≤ 60 ∧ back % 4 = 0

/-- R7, R18, R22, R23, R122: when the candidate's wait has been counted through on an idle line, its attempt
begins: the frame is on the line, a beacon's request is taken into flight and the granted load composed for
it, and the marker is captured. The count of bit times waited comes with the command (log entry 8). R13, R18,
R126: a beacon carries the show time, the granted load as composed, the configured ceiling, and the talking,
local-hold, fault-present and bay flags of that instant, in CONFIG_FAULT with both loads 0 and fault present;
the other frames carry what their messages say (13.1). -/
def Obligations.AttemptBegins : Prop :=
  (∀ (s : State) (g x : Nat) (fault : Bool) (flags : Byte),
    (s.sul.station = .configFault → g = 0 ∧ x = 0 ∧ fault = true) →
    (s.sul.station ≠ .configFault → g = s.lgv.compose ∧ (∀ c, s.cfg = some c → x = c.ceiling) ∧
      (s.cfg = none → x = 0) ∧ (fault = true ↔ s.flt.entries ≠ [])) →
    (∀ i : Fin 8, flags.getLsbD i.val =
      if i = 0 then s.nre.talking
      else if i = 1 then s.hld.localHold
      else if i = 2 then fault
      else if i = 3 then false
      else s.sce.flags.getLsbD (i.val - 4)) →
    s.composeBeacon =
      frameBytes 0x01#8 (BitVec.ofNat 8 s.sul.number.val)
        (bytesOf 4 s.clk.showTime.toNat ++ bytesOf 2 g ++ bytesOf 2 x ++ [flags])) ∧
  (∀ own : Fin 32,
    (∀ v clip id, (OutMsg.talk v clip id).bytes own =
      frameBytes 0x03#8 (BitVec.ofNat 8 own.val)
        [if v = .a then 0x00#8 else 0x01#8, BitVec.ofNat 8 clip.val]) ∧
    (∀ cue at_, (OutMsg.cueLong cue at_).bytes own =
      frameBytes 0x02#8 (BitVec.ofNat 8 own.val) (cue :: bytesOf 4 at_.toNat)) ∧
    (∀ st n at_, (OutMsg.cueShort st n at_).bytes own =
      frameBytes 0x02#8 (BitVec.ofNat 8 own.val)
        (BitVec.ofNat 8 st.val :: BitVec.ofNat 8 n.val :: bytesOf 4 at_.toNat)) ∧
    ∀ st kind outcome reason data restart,
      (OutMsg.answer st kind outcome reason data restart).bytes own =
        frameBytes 0x05#8 (BitVec.ofNat 8 own.val)
          (BitVec.ofNat 8 st.val :: kind :: outcome :: reason :: data)) ∧
  ∀ (s : State) (waited : Nat), s.bus.tx = .wait →
    (∀ e, s.candidate = some (.entry e) →
      (Candidate.entry e).wait s.sul.number.val ≤ waited →
      ∃ t, exec (.attemptBegin waited) s = .next t ∧ t.bus.tx = .send ∧ SameAtEnd
        { s.tick with
          bus :=
            { s.bus with
              lineIdle := false
              attempt :=
                some { what := .entry e.id, frame := e.msg.bytes s.sul.number, silent := false } }
          clk := { s.clk with capture := some s.clk.showTime } } t) ∧
    ∀ n, s.candidate = some (.beacon n) → (Candidate.beacon n).wait s.sul.number.val ≤ waited →
      ∃ t, exec (.attemptBegin waited) s = .next t ∧ t.bus.tx = .send ∧ SameAtEnd
        { s.tick with
          bus :=
            { s.bus with
              lineIdle := false, request := none
              attempt := some { what := .beacon n, frame := s.composeBeacon, silent := false } }
          lgv := { s.lgv with granted := s.lgv.compose }
          clk := { s.clk with capture := some s.clk.showTime } } t

/-- R24, R25, R28, R29: a mismatch abandons the attempt, jams, and adds 1 to the failed-attempt count of what
the attempt carried; a failed beacon is pending again and an early request marked in its flight merges into it
(log entry 16). The jam over, the transmitter leaves the line. An attempt that a RESTART outlived is not
counted (R34, log entry 17). What has failed 16 attempts is given up, with BUS_GIVE_UP: a CUE or an ANSWER
other than a RESTART's, a TALK, whose voice loses its claim (R134), the DONE of a RESTART, which then begins
(R172), or the beacon request, whose deferred mark is raised at once where no spacing runs. The jam that
brings the count to 16 gives up at once; BUS_GIVE_UP as a command of its own, on a count of 16 that stands, is
the model's (log entry 7). -/
def Obligations.FailedAttemptsAreCounted : Prop :=
  (∀ (s : State) (frame : List Byte),
      (s.bus.tx = .send → ∀ id, s.bus.attempt = some { what := .entry id, frame := frame, silent := false } →
        (∀ e ∈ s.bus.queue, e.failed < 15) → (∀ n, s.bus.request = some n → n < 16) →
        ∃ t, exec .jam s = .next t ∧ t.bus.tx = .jam ∧ SameAtEnd
          { s.tick with
            bus :=
              { s.bus with
                attempt := none
                queue := s.bus.queue.map fun e =>
                  if e.id = id then { e with failed := e.failed + 1 } else e } } t) ∧
      (s.bus.tx = .send → ∀ n, n < 15 →
        s.bus.attempt = some { what := .beacon n, frame := frame, silent := false } →
        (∀ e ∈ s.bus.queue, e.failed < 16) →
        ∃ t, exec .jam s = .next t ∧ t.bus.tx = .jam ∧ SameAtEnd
          { s.tick with
            bus :=
              { s.bus with
                attempt := none, request := some (n + 1)
                deferred := s.bus.deferred && !s.bus.markedInFlight, markedInFlight := false } } t) ∧
      (s.bus.tx = .send → ∀ what, s.bus.attempt = some { what := what, frame := frame, silent := true } →
        ∃ t, exec .jam s = .next t ∧ t.bus.tx = .jam ∧
          SameAtEnd { s.tick with bus := { s.bus with attempt := none } } t) ∧
      (s.bus.tx = .send → ∀ e ∈ s.bus.queue, e.failed = 15 → (∀ f ∈ s.bus.queue, f.id = e.id → f = e) →
        s.bus.attempt = some { what := .entry e.id, frame := frame, silent := false } →
        (∀ f ∈ s.bus.queue, f.failed < 16) → (∀ n, s.bus.request = some n → n < 16) →
        ∀ left : State,
          left = { s.tick with
            bus :=
              { s.bus with
                tx := .jam, attempt := none
                queue := s.bus.queue.filter fun x => decide (x.id ≠ e.id) } } →
          (∀ st n at_, e.msg = .cueShort st n at_ → Gives .jam s (left.report .busGiveUp st.val)) ∧
          (∀ k at_, e.msg = .cueLong k at_ → Gives .jam s (left.report .busGiveUp s.sul.number.val)) ∧
          (∀ st k o r d, e.msg = .answer st k o r d false →
            Gives .jam s (left.report .busGiveUp st.val)) ∧
          (∀ v n id, e.msg = .talk v n id → (s.voice v).state = .claiming → (s.voice v).claimId = id →
            Gives .jam s
              ((left.report .busGiveUp s.sul.number.val).setVoice v
                { s.voice v with state := .waitQuiet, claim := none, retry := some s.claimWindow })) ∧
          ∀ st k o r d, e.msg = .answer st k o r d true →
            exec .jam s =
              .next (State.finish ((left.report .busGiveUp st.val).post [.restartBegin]))) ∧
      (s.bus.tx = .send → s.bus.attempt = some { what := .beacon 15, frame := frame, silent := false } →
        (∀ e ∈ s.bus.queue, e.failed < 16) → s.flt.entries ≠ [] →
        Gives .jam s
          ({ s.tick with
              bus :=
                { s.bus with
                  tx := .jam, attempt := none
                  request := if s.bus.spacing = none ∧ s.bus.deferred = true then some 0 else none
                  deferred := s.bus.deferred && s.bus.spacing.isSome
                  markedInFlight := false } }.report .busGiveUp s.sul.number.val)) ∧
      (s.bus.tx = .jam →
        ∃ t, exec .jamEnd s = .next t ∧ t.bus.tx = s.restingTx ∧ SameAtEnd s.tick t)) ∧
  ∀ s : State,
    (∀ e ∈ s.bus.queue, 16 ≤ e.failed → (∀ f ∈ s.bus.queue, 16 ≤ f.failed → f = e) →
      (∀ n, s.bus.request = some n → n < 16) → ∀ detail : Nat,
      ((∃ st n at_, e.msg = .cueShort st n at_ ∧ detail = st.val) ∨
        (∃ k at_, e.msg = .cueLong k at_ ∧ detail = s.sul.number.val) ∨
        (∃ st k o r d, e.msg = .answer st k o r d false ∧ detail = st.val)) →
      Gives .busGiveUp s
        ({ s.tick with
            bus := { s.bus with queue := s.bus.queue.filter fun x => decide (x.id ≠ e.id) } }.report
          .busGiveUp detail)) ∧
    (∀ n, s.bus.request = some n → 16 ≤ n → (∀ e ∈ s.bus.queue, e.failed < 16) →
      s.flt.entries ≠ [] →
      Gives .busGiveUp s
        ({ s.tick with
            bus :=
              { s.bus with
                request := if s.bus.spacing = none ∧ s.bus.deferred = true then some 0 else none
                deferred := s.bus.deferred && s.bus.spacing.isSome
                markedInFlight := false } }.report .busGiveUp s.sul.number.val))

/-- R26, R28, R134: what a sent attempt leaves: a beacon starts the early spacing; a short-form CUE or an
ANSWER leaves the queue; a TALK leaves it and starts its voice's claim window; a long-form CUE leaves it and
is handed to this station's own Cue Scheduler; the DONE of a RESTART leaves it and the restart begins (R98,
R172), by the signal that then waits (log entry 5). What an attempt that a RESTART outlived carried is
reported to no block (R34), but a beacon of that kind starts the early spacing as any (log entry 17). -/
def Obligations.SentMessagesAreReported : Prop :=
  ∀ (s : State) (frame : List Byte), s.bus.tx = .send →
    (∀ n silent, s.bus.attempt = some { what := .beacon n, frame := frame, silent := silent } →
      Gives .attemptSent s
        { s.tick with
          bus :=
            { s.bus with
              tx := .defer, attempt := none, spacing := some s.earlySpacing, markedInFlight := false } }) ∧
    (∀ id, s.bus.attempt = some { what := .entry id, frame := frame, silent := true } →
      Gives .attemptSent s { s.tick with bus := { s.bus with tx := .defer, attempt := none } }) ∧
    ∀ e, s.bus.attempt = some { what := .entry e.id, frame := frame, silent := false } →
      s.bus.queue.find? (fun x => x.id = e.id) = some e →
      ∀ left : Bus,
        left = { s.bus with
          tx := .defer, attempt := none, queue := s.bus.queue.filter fun x => decide (x.id ≠ e.id) } →
      ((∃ st n at_, e.msg = .cueShort st n at_) ∨ (∃ st k o r d, e.msg = .answer st k o r d false) →
        Gives .attemptSent s { s.tick with bus := left }) ∧
      (∀ v n id, e.msg = .talk v n id → (s.voice v).state = .claiming → (s.voice v).claimId = id →
        Gives .attemptSent s
          ({ s.tick with bus := left }.setVoice v
            { s.voice v with claim := some s.claimWindow })) ∧
      (∀ st k o r d, e.msg = .answer st k o r d true →
        exec .attemptSent s = .next (State.finish { s.tick with bus := left, agenda := [.restartBegin] })) ∧
      ∀ k at_, e.msg = .cueLong k at_ →
        exec .attemptSent s =
          .next (State.finish { s.tick with bus := left, agenda := [.ownCue k at_] })

/-- R27, R28, R118: a regular boundary begins the period anew, recomputes the allowance and raises a regular
request, which clears a deferred mark; the end of the early spacing raises a deferred mark, but one that a
beacon in flight carries on (log entry 16). An early request while a beacon is in flight, or while the spacing
runs, sets the deferred mark; any other becomes pending or merges into the pending one. -/
def Obligations.BoundariesRaiseBeacons : Prop :=
  (∀ s : State,
      (∀ (c : Config) (n : Nat), s.cfg = some c → s.bus.period = some n → c.beaconPeriod ≤ n →
        s.lgv.line = [] →
        Gives .regularBoundary s
          { s.tick with
            bus :=
              { s.bus with
                period := some 0, request := some (s.bus.request.getD 0), deferred := false
                markedInFlight := false }
            lgv :=
              { s.lgv with
                allowance := recomputed c s.peerLoad s.lgv.compose, granted := s.lgv.compose } }) ∧
      (s.cfg = none → ∀ n, s.bus.period = some n → 250 ≤ n →
        Gives .regularBoundary s
          { s.tick with
            bus :=
              { s.bus with
                period := some 0, request := some (s.bus.request.getD 0), deferred := false
                markedInFlight := false }
            lgv := { s.lgv with allowance := 0, granted := 0 } }) ∧
      (s.bus.spacing = some 0 →
        Gives .earlySpacingEnd s
          { s.tick with
            bus :=
              if s.bus.deferred ∧ s.bus.markedInFlight = false then
                { s.bus with
                  spacing := none, deferred := false, request := some (s.bus.request.getD 0) }
              else { s.bus with spacing := none } })) ∧
  ∀ s : State,
    (s.bus.beaconInFlight = true →
      s.earlyRequest = { s with bus := { s.bus with deferred := true, markedInFlight := true } }) ∧
    (s.bus.beaconInFlight = false → s.bus.spacing.isSome = true →
      s.earlyRequest = { s with bus := { s.bus with deferred := true } }) ∧
    (s.bus.beaconInFlight = false → s.bus.spacing = none →
      s.earlyRequest = { s with bus := { s.bus with request := some (s.bus.request.getD 0) } })

/-- R174, 13.1: every frame that a station can send reads back as the command it is, from the bytes of its
kind, sender, length, payload and CRC-16. -/
def Obligations.FramesReadBack : Prop :=
  ∀ sender : Byte,
    (∀ (stamp : BitVec 32) (g x : BitVec 16) (flags : Byte),
      frameCommand (frameBytes kindBeacon sender (beaconPayload stamp g.toNat x.toNat flags)) =
        .beacon sender stamp g x flags) ∧
    (∀ (cue : Byte) (at_ : BitVec 32),
      frameCommand (frameBytes kindCue sender (cueLongPayload cue at_)) =
        .cueLongForm sender cue at_) ∧
    (∀ (target : Fin 32) (scene : Fin 64) (at_ : BitVec 32),
      frameCommand (frameBytes kindCue sender (cueShortPayload target.val scene.val at_)) =
        .cueShortForm sender (BitVec.ofNat 8 target.val) (BitVec.ofNat 8 scene.val) at_) ∧
    (∀ (v : Voice) (clip : Fin 256),
      frameCommand (frameBytes kindTalk sender (talkPayload v clip.val)) =
        .talk sender (voiceCode v) (BitVec.ofNat 8 clip.val)) ∧
    (∀ (target : Fin 32) (kind outcome reason : Byte) (data : List Byte), data.length ≤ 20 →
      frameCommand (frameBytes kindAnswer sender (answerPayload target.val kind outcome reason data)) =
        .answer sender (BitVec.ofNat 8 target.val) kind outcome reason data) ∧
    (∀ (target code : Byte) (ops : List Byte), ops.length ≤ 6 →
      frameCommand (frameBytes kindOrder sender (target :: code :: ops)) =
        orderCommand sender target code ops) ∧
    ∀ (kind : Byte) (payload : List Byte), payload.length ≤ 24 → kind = 0#8 ∨ 5 < kind.toNat →
      frameCommand (frameBytes kind sender payload) = .frameOfUnknownKind kind sender payload

/-- R15, R174: the line code puts no more than five equal levels in a row and loses no bit: without the
stuffed bits the levels of a frame are its bits again, a last stuffed bit included. -/
def Obligations.LineCodeReadsBack : Prop :=
  ∀ bytes : List Byte,
    destuff (lineLevels bytes) = some (bytes.flatMap bitsOfByte) ∧
      ∀ (before after : List Bool) (level : Bool),
        lineLevels bytes ≠ before ++ List.replicate 6 level ++ after

/-! ### The Peer Table -/

/-- R35 to R38: a BEACON of another station puts its entry at its place in the Peer Table. Where nothing reads
the entry (no clock group or earshot set names the sender, no run waits), that is all it does, but that a
report of local hold sets the stuck timer to 0 (R163). Runs that wait judge the entry: a PEER_FLAG await of
the station ends where the flag has its value (R44, R90), by the signal that then waits (log entry 5). R43,
R133, R134: one of an earshot-set station, which the clock group does not name, is seen by the gate: a report
of talking makes a claiming voice back off for one claim window and leaves a waiting one to wait; a report
that the sender does not talk lets a waiting voice claim where the air is quiet then. Putting an entry into a
table in order replaces the entry of its station or adds it, keeps every other entry, and keeps the order. -/
def Obligations.BeaconEntersPeerTable : Prop :=
  (∀ (s : State) (st : Fin 32) (stamp : BitVec 32) (g x : BitVec 16) (flags : Byte),
      s.Receiving → st ≠ s.sul.number → s.clockGroup.getLsbD st.val = false →
      s.nre.talking = (s.nre.a.talks || s.nre.b.talks) →
      ∀ u : State,
        u =
          { s.heard with
            ptb := putPeer
              { station := st, fresh := true, g := g.toNat, x := x.toNat, talking := flags.getLsbD 0
                localHold := flags.getLsbD 1, flags := flags.extractLsb' 4 4
                faultPresent := flags.getLsbD 2, age := 0, expired := false } s.ptb
            hld :=
              if flags.getLsbD 1 then { s.hld with stuck := 0, stuckReported := false } else s.hld } →
      (s.earshot.getLsbD st.val = false →
        exec (.beacon (BitVec.ofNat 8 st.val) stamp g x flags) s =
          .next (State.finish { u with agenda := [.peerSeen st] })) ∧
      ((∀ i, (s.slot i).state ≠ .waiting) →
        (s.earshot.getLsbD st.val = false →
          Gives (.beacon (BitVec.ofNat 8 st.val) stamp g x flags) s u) ∧
        (s.earshot.getLsbD st.val = true → flags.getLsbD 0 = true →
          ∀ waits : VoiceRec → VoiceRec,
            (∀ x, waits x =
              if x.state = .claiming then
                { x with state := .waitQuiet, claim := none, retry := some s.claimWindow }
              else x) →
            Gives (.beacon (BitVec.ofNat 8 st.val) stamp g x flags) s
              { u with nre := { s.nre with a := waits s.nre.a, b := waits s.nre.b } }) ∧
        (s.earshot.getLsbD st.val = true → flags.getLsbD 0 = false →
          ((∃ e ∈ s.ptb, e.station ≠ st ∧ s.earshot.getLsbD e.station.val = true ∧ e.fresh = true ∧
                e.talking = true) →
            Gives (.beacon (BitVec.ofNat 8 st.val) stamp g x flags) s u) ∧
          ((∀ e ∈ s.ptb, e.station ≠ st → s.earshot.getLsbD e.station.val = true → e.fresh = true →
                e.talking = false) →
            ∀ (v : Voice) (h : Held), (s.voice v).state = .waitQuiet → (s.voice v).retry = none →
              (s.voice v).current = some h → (s.voice (otherVoice v)).state ≠ .waitQuiet →
              s.held = false → s.bus.queue.length < 8 → PeersAscend s.ptb →
              Gives (.beacon (BitVec.ofNat 8 st.val) stamp g x flags) s
                ((u.setVoice v
                    { s.voice v with
                      state := .claiming, claim := none, claimId := (s.voice v).claimId + 1 }).onBus
                  (·.place (.talk v h.clip ((s.voice v).claimId + 1)) .nre)))))) ∧
  (∀ (s : State) (i : Fin 4) (w : Await) (st : Fin 32) (f : Fin 4) (v : Bool) (p : Peer),
      (s.slot i).state = .waiting → (s.slot i).await = some w → w.kind = .peerFlag st f v →
      s.peer st.val = some p →
      (p.fresh = true → p.flags.getLsbD f.val = v →
        (s.handle (.peerSeen st)).slot i = { s.slot i with state := .running, await := none }) ∧
      (p.fresh = false ∨ p.flags.getLsbD f.val ≠ v →
        (s.handle (.peerSeen st)).slot i = s.slot i)) ∧
  ∀ (e : Peer) (l : List Peer), PeersAscend l →
    PeersAscend (putPeer e l) ∧ e ∈ putPeer e l ∧
      ∀ p : Peer, p.station ≠ e.station → (p ∈ putPeer e l ↔ p ∈ l)

/-- R39, R41: a beat adds 1 to the age of an entry, stopping at 65535, and an entry that is FRESH and then
older than the stale limit in force has expired; without such a beat it has not, however low the limit has
been set. An expired entry becomes STALE when its station is in the feeder group and leaves the table
otherwise; where no one reads it, that is all. The mark of an expired entry is the model's way of letting
PEER_EXPIRY come as a command of its own (log entry 4). -/
def Obligations.PeerExpires : Prop :=
  (∀ (limit : Nat) (e : Peer),
      Peer.beat limit e =
        { e with
          age := min (e.age + 1) 65535
          expired := e.fresh && decide (limit < min (e.age + 1) 65535) }) ∧
  (∀ (s : State) (st : Fin 32), (∀ e ∈ s.ptb, e.station = st → e.expired = false) →
      exec (.peerExpiry st) s = .next s) ∧
  ∀ (s : State) (e : Peer), e ∈ s.ptb → e.fresh = true → e.expired = true →
    s.earshot.getLsbD e.station.val = false → (∀ i, (s.slot i).state ≠ .waiting) →
    (s.feeder.getLsbD e.station.val = true →
      Gives (.peerExpiry e.station) s
        { s.tick with
          ptb := s.ptb.map fun p =>
            if p.station = e.station then { p with fresh := false, expired := false } else p }) ∧
    (s.feeder.getLsbD e.station.val = false →
      Gives (.peerExpiry e.station) s
        { s.tick with ptb := s.ptb.filter fun p => decide (p.station ≠ e.station) })

/-! ### Inputs and presence -/

/-- R49, R54: the debounce of an input at a beat: a sample that differs from the level adds 1 to the stability
count (which the model stops at 255, log entry 36), an equal one sets it to 0; nothing but the count and a
button's held timer moves. R49 to R54, R60, R160: what an input's change does by its kind: a press in ACTIVE,
with the latch clear and with it set; a press elsewhere; a release; a hold key; a member of a presence group
out of ACTIVE. -/
def Obligations.InputChangesByKind : Prop :=
  (∀ (x : InputRec) (c : InputCfg) (pin active : Bool), c.kind ≠ .unused →
      x.beat c pin active =
        { x with
          stability := if (pin != c.activeLow) = x.level then 0 else min (x.stability + 1) 255
          held :=
            if c.kind = .button ∧ active = true ∧ x.level = true ∧ x.stuck = false then x.held + 1
            else x.held }) ∧
  ∀ (s : State) (i : Fin 8) (c : InputCfg), s.inputCfg i = some c →
    0 < c.debounce → c.debounce ≤ (s.viu.inputs[i]).stability →
    (c.kind = .button → (s.viu.inputs[i]).level = false → s.sul.station = .active →
      (s.viu.inputs[i]).stuck = false →
      ((s.viu.inputs[i]).latch = true →
        Gives (.inputChange i) s
          (s.tick.onInput i fun x =>
            { x with level := true, stability := 0, presses := min (x.presses + 1) 255 })) ∧
      ((s.viu.inputs[i]).latch = false →
        (c.localScene = none → c.cue = none →
          Gives (.inputChange i) s (s.tick.onInput i fun x => { x with level := true, stability := 0 })) ∧
        (∀ k, c.localScene = none → c.cue = some k → s.bus.queue.length < 8 →
          Gives (.inputChange i) s
            ((s.tick.onInput i fun x =>
                { x with level := true, stability := 0, latch := false, presses := 1 }).onBus fun b =>
              { b with
                queue := b.queue ++
                  [{ id := b.nextId, msg := .cueLong k s.clk.showTime, origin := .viu, failed := 0 }]
                nextId := b.nextId + 1 })) ∧
        ∀ n, c.localScene = some n → c.cue = none →
          exec (.inputChange i) s =
            .next (State.finish
              ((s.tick.onInput i fun x =>
                { x with level := true, stability := 0, latch := true, presses := 1 }).post
                [.request n (.button i)])))) ∧
    (c.kind = .button → (s.viu.inputs[i]).level = false → s.sul.station ≠ .active →
      Gives (.inputChange i) s (s.tick.onInput i fun x => { x with level := true, stability := 0 })) ∧
    (c.kind = .button → (s.viu.inputs[i]).level = true →
      Gives (.inputChange i) s
        (s.tick.onInput i fun x =>
          { x with level := false, stability := 0, stuck := false, held := 0 })) ∧
    (c.kind = .presence → s.sul.station ≠ .active →
      Gives (.inputChange i) s
        (s.tick.onInput i fun x => { x with level := !x.level, stability := 0 })) ∧
    (c.kind = .holdKey → (s.viu.inputs[i]).level = false → s.hld.localHold = false →
      Gives (.inputChange i) s
        (((s.tick.onInput i fun x => { x with level := true, stability := 0 }).onHld fun h =>
          { h with localHold := true }).earlyRequest))

/-- R54, R55, R70: a button held past its stuck limit is marked and reported; a group whose linger timer has
run out goes IDLE; a request out of patience leaves the queue with QUEUE_DROP, and the queue is served. R50,
R54 to R57, TABLE XXIV: an accepted change of a PRESENCE input in ACTIVE makes its group's transition; the
transitions of a presence group on a change of one of its members. -/
def Obligations.HallTimersAndGroups : Prop :=
  (∀ s : State,
      (∀ (i : Fin 8) (c : InputCfg), s.inputCfg i = some c → s.sul.station = .active → c.kind = .button →
        (s.viu.inputs[i]).level = true → (s.viu.inputs[i]).stuck = false →
        c.stuckLimit * 1000 < (s.viu.inputs[i]).held →
        Gives (.inputStuck i) s
          ((s.tick.onInput i fun x => { x with stuck := true }).report .inputStuck i.val)) ∧
      (∀ g : Fin 4, (s.viu.groups[g]).state = .linger → (s.viu.groups[g]).timer = 0 →
        (∀ i, (s.slot i).state ≠ .waiting) →
        Gives (.lingerExpiry g) s (s.tick.onGroup g fun _ => { state := .idle, timer := 0 })) ∧
      ∀ (n : Fin 64) (e : SceneEntry) (q : Request), q ∈ s.sce.queue → q.scene = n →
        s.sceneEntry n = some e → 0 < e.patience → q.patience = 0 →
        exec (.patienceExpiry n) s =
          .next (State.finish
            (({ s.tick with
                sce := { s.sce with queue := s.sce.queue.filter fun r => decide (r.scene ≠ n) } }.report
              .queueDrop n.val .requestExpiry).post [.latchTest, .serve]))) ∧
  (∀ (s : State) (i : Fin 8) (c : InputCfg), s.inputCfg i = some c → c.kind = .presence →
      0 < c.debounce → c.debounce ≤ (s.viu.inputs[i]).stability → s.sul.station = .active →
      ∀ (now : Bool) (u : State), now = !(s.viu.inputs[i]).level →
        u = (s.tick.onInput i fun x => { x with level := now, stability := 0 }) →
        exec (.inputChange i) s = .next (State.finish (u.memberChanged c.group now)) ∧
          ((∀ j, (s.slot j).state ≠ .waiting) → ∀ (old : GroupState) (new : GroupState) (timer : Nat),
            old = (s.viu.groups[c.group]).state →
            ((old = .linger ∧ now = true ∧ new = .occupied ∧ timer = 0) ∨
              (old = .idle ∧ now = true ∧ (s.groupCfg c.group).arrival = none ∧ new = .occupied ∧
                timer = 0) ∨
              (old = .occupied ∧ now = false ∧ u.memberActive c.group = false ∧
                timer = (s.groupCfg c.group).linger ∧ new = if timer = 0 then .idle else .linger)) →
            Gives (.inputChange i) s (u.onGroup c.group fun _ => { state := new, timer := timer }))) ∧
  ∀ (s : State) (g : Fin 4),
    ((s.viu.groups[g]).state = .idle →
      s.memberChanged g false = s ∧
      ((s.groupCfg g).arrival = none →
        s.memberChanged g true =
          (s.onGroup g fun _ => { state := .occupied, timer := 0 }).post [.groupChanged g]) ∧
      ∀ n, (s.groupCfg g).arrival = some n →
        s.memberChanged g true =
          (s.onGroup g fun _ => { state := .occupied, timer := 0 }).post
            [.groupChanged g, .request n (.presence g)]) ∧
    ((s.viu.groups[g]).state = .linger →
      s.memberChanged g false = s ∧
        s.memberChanged g true =
          (s.onGroup g fun _ => { state := .occupied, timer := 0 }).post [.groupChanged g]) ∧
    ((s.viu.groups[g]).state = .occupied →
      s.memberChanged g true = s ∧ (s.memberActive g = true → s.memberChanged g false = s) ∧
      (s.memberActive g = false → (s.groupCfg g).linger = 0 →
        s.memberChanged g false =
          (s.onGroup g fun _ => { state := .idle, timer := 0 }).post [.groupChanged g]) ∧
      (s.memberActive g = false → 0 < (s.groupCfg g).linger →
        s.memberChanged g false =
          (s.onGroup g fun _ => { state := .linger, timer := (s.groupCfg g).linger }).post
            [.groupChanged g]))

/-! ### Scenes -/

/-- R64 to R71: the first test that fits decides a scene request: a station state that runs no show or an
absent scene refuses it, a scene in STOPPING ignores it, a run at its lockout or past it is restarted in
place, a queued scene takes it into its entry; where every claim is free and a slot is, its run starts in
LOADING; where every contender is of lower priority and a place is found, it pre-empts or becomes a successor;
else it joins the queue. The place is the lowest FREE slot, else the lowest in STOPPING without successor,
else the slot of lowest priority below the request's, the latest out of FREE, the highest. The service of the
queue makes the same tests entry by entry, with the resources waited on in place of the queue's blocking. A
request served is told nothing more (log entry 19), and the numbers of runs and instants are the model's (log
entries 6 and 21). -/
def Obligations.RequestDispositions : Prop :=
  (∀ (s : State) (n : Fin 64) (o : ReqOrigin),
      ((s.sul.station = .reset ∨ s.sul.station = .loading ∨ s.sul.station = .configFault) →
        s.dispose n o = s.told n o .refused) ∧
      (s.sul.station.runsShow = true → s.sceneEntry n = none →
        s.dispose n o =
          (if o.isOrder = true then s else s.report .cueInvalid n.val).told n o .refused) ∧
      ∀ e, s.sul.station.runsShow = true → s.sceneEntry n = some e →
        (∀ i, s.slotOf n = some i → (s.slot i).state = .stopping → s.dispose n o = s.told n o .ignored) ∧
        (∀ i, s.slotOf n = some i → (s.slot i).state = .running ∨ (s.slot i).state = .waiting ∨
            (s.slot i).state = .ending → (s.slot i).sceneTime.toNat < e.lockout →
          s.dispose n o = s.told n o .ignored) ∧
        (s.slotOf n = none → s.isSuccessor n = false → ∀ q ∈ s.sce.queue, q.scene = n →
          s.dispose n o =
            (s.onSce fun x =>
              { x with
                queue := x.queue.map fun r => if r.scene = n then { r with origin := o } else r }).told n
              o .merged) ∧
        (s.slotOf n = none → s.isSuccessor n = false → (∀ q ∈ s.sce.queue, q.scene ≠ n) →
          (s.held = true ∨ s.sul.station ≠ .active) → s.dispose n o = s.join n e o)) ∧
  (∀ (s : State) (n : Fin 64) (o : ReqOrigin) (e : SceneEntry), s.sul.station.runsShow = true →
    s.sceneEntry n = some e →
    (∀ i, s.slotOf n = some i →
      ((s.slot i).state = .loading ∨ (s.slot i).state = .claiming →
        s.dispose n o = s.told n o (if 0 < e.lockout then .ignored else .restarted)) ∧
      ((s.slot i).state = .running ∨ (s.slot i).state = .waiting ∨ (s.slot i).state = .ending →
        e.lockout ≤ (s.slot i).sceneTime.toNat →
        ∃ t : State, s.dispose n o = t.told n o .restarted ∧
          t.slot i =
            { s.slot i with
              state := .running, sceneTime := 0#32, nextCue := 0, unread := 0, window := [], await := none
              stopReason := none
              read := if (s.slot i).read = .none then .wanted .reload else .discard true } ∧
          (∀ j, j ≠ i → t.slot j = s.slot j) ∧ t.sce.claims = s.sce.claims ∧ t.mte = s.mte ∧
          ((s.slot i).claims.getLsbD 4 = true → ∀ q ∈ t.nre.a.queue, q.owner ≠ i) ∧
          ((s.slot i).claims.getLsbD 5 = true → ∀ q ∈ t.nre.b.queue, q.owner ≠ i))) ∧
    (s.slotOf n = none → s.isSuccessor n = true →
      s.dispose n o = s.told n o (if 0 < e.lockout then .ignored else .restarted)) ∧
    (s.slotOf n = none → s.isSuccessor n = false → (∀ q ∈ s.sce.queue, q.scene ≠ n) →
      s.held = false → s.sul.station = .active →
      ((∃ q ∈ s.sce.queue, e.priority ≤ q.priority ∧
          ∃ f, s.sceneEntry q.scene = some f ∧ e.claims &&& f.claims ≠ 0#6) →
        s.dispose n o = s.join n e o) ∧
      ((∀ q ∈ s.sce.queue, e.priority ≤ q.priority → ∀ f, s.sceneEntry q.scene = some f →
          e.claims &&& f.claims = 0#6) →
        (∀ i, (s.slot i).state = .free → (∀ j, j < i → (s.slot j).state ≠ .free) →
          (∀ r : Fin 6, e.claims.getLsbD r.val = true → s.isFree r = true) →
          (s.dispose n o).slot i =
              { Slot.clear with
                state := .loading, scene := n, priority := e.priority, claims := e.claims, origin := o
                startTime := s.clk.showTime, tell := true, read := .wanted .initial
                run := s.sce.nextRun, leftFree := s.instant } ∧
            (∀ j, j ≠ i → (s.dispose n o).slot j = s.slot j) ∧
            (∀ r : Fin 6, (s.dispose n o).holder r =
              if e.claims.getLsbD r.val = true then some i else s.holder r) ∧
            ∀ x b, s.smp.state = .busy x b →
              (s.dispose n o).smp.waiting =
                s.smp.waiting ++
                  [{ who := .scene i s.sce.nextRun .initial, address := e.address % 16777216
                     count := 2 + 10 * min 8 e.cueCount, instant := s.instant }]) ∧
        ((∃ r : Fin 6, e.claims.getLsbD r.val = true ∧ s.isFree r = false) ∨
            (∀ j, (s.slot j).state ≠ .free) →
          ((∃ w ∈ s.contenders e.claims, e.priority.val ≤ s.contenderPriority w) ∨
              s.placeFor e.priority = none → s.dispose n o = s.join n e o) ∧
          ∀ i, (∀ w ∈ s.contenders e.claims, s.contenderPriority w < e.priority.val) →
            s.placeFor e.priority = some i →
            ((s.slot i).state = .free →
              ((s.dispose n o).slot i).state = .claiming ∧ ((s.dispose n o).slot i).scene = n ∧
                ((s.dispose n o).slot i).priority = e.priority ∧
                ((s.dispose n o).slot i).claims = e.claims ∧ ((s.dispose n o).slot i).origin = o ∧
                ((s.dispose n o).slot i).startTime = s.clk.showTime) ∧
            ((s.slot i).state ≠ .free →
              ((s.dispose n o).slot i).successor =
                some { scene := n, priority := e.priority, claims := e.claims, origin := o, tell := true }) ∧
            (∀ j, (s.slot j).state.stoppable = true → .run j ∈ s.contenders e.claims ∨ j = i →
              ((s.dispose n o).slot j).state = .stopping ∧
                ((s.dispose n o).slot j).stopReason =
                  some ((s.slot j).stopReason.getD .preempted)) ∧
            (∀ j, j ≠ i → .successor j ∈ s.contenders e.claims →
              ((s.dispose n o).slot j).successor = none) ∧
            ∀ j, j ≠ i → .run j ∉ s.contenders e.claims → .successor j ∉ s.contenders e.claims →
              (s.dispose n o).slot j = s.slot j)))) ∧
  (∀ (s : State) (r : Fin 6),
    (s.isFree r = true ↔ s.holder r = none ∧
      ∀ j, ((s.slot j).state = .claiming → (s.slot j).claims.getLsbD r.val = false) ∧
        ∀ u, (s.slot j).successor = some u → u.claims.getLsbD r.val = false)) ∧
  (∀ (s : State) (k i : Fin 4), s.placeFor k = some i →
    ((s.slot i).state = .free ∧ ∀ j, (s.slot j).state = .free → i ≤ j) ∨
    ((∀ j, (s.slot j).state ≠ .free) ∧ (s.slot i).state = .stopping ∧ (s.slot i).successor = none ∧
      ∀ j, (s.slot j).state = .stopping → (s.slot j).successor = none → i ≤ j) ∨
    ((∀ j, (s.slot j).state ≠ .free) ∧
      (∀ j, (s.slot j).state = .stopping → (s.slot j).successor ≠ none) ∧
      (s.slot i).state ≠ .stopping ∧ (s.slot i).priority < k ∧
      ∀ j, (s.slot j).state ≠ .stopping → (s.slot j).priority < k →
        (s.slot i).priority ≤ (s.slot j).priority ∧
        ((s.slot i).priority = (s.slot j).priority → (s.slot j).leftFree ≤ (s.slot i).leftFree ∧
          ((s.slot j).leftFree = (s.slot i).leftFree → j ≤ i)))) ∧
  ∀ s : State,
    (s.sul.station ≠ .active ∨ s.held = true → s.serve = s) ∧
    (s.sul.station = .active → s.held = false → s.serve = State.serveFrom s.sce.queue 0#6 s) ∧
    State.serveFrom [] 0#6 s = s ∧
    ∀ (q : Request) (rest : List Request) (waited : Claims) (e : SceneEntry),
      s.sceneEntry q.scene = some e →
      (e.claims &&& waited ≠ 0#6 →
        State.serveFrom (q :: rest) waited s = State.serveFrom rest (waited ||| e.claims) s) ∧
      (e.claims &&& waited = 0#6 →
        (∀ i, (s.slot i).state = .free → (∀ j, j < i → (s.slot j).state ≠ .free) →
          (∀ r : Fin 6, e.claims.getLsbD r.val = true → s.isFree r = true) →
          State.serveFrom (q :: rest) waited s =
            State.serveFrom rest waited
              ((s.onSce fun x => { x with queue := x.queue.filter fun p => p.scene ≠ q.scene }).startLoading
                i q.scene q.priority e.claims q.origin false)) ∧
        ((∃ r : Fin 6, e.claims.getLsbD r.val = true ∧ s.isFree r = false) ∨
            (∀ j, (s.slot j).state ≠ .free) →
          (∀ i, (∀ w ∈ s.contenders e.claims, s.contenderPriority w < e.priority.val) →
            s.placeFor e.priority = some i →
            State.serveFrom (q :: rest) waited s =
              State.serveFrom rest waited
                ((s.onSce fun x => { x with queue := x.queue.filter fun p => p.scene ≠ q.scene }).preempt
                  i q.scene e q.origin false)) ∧
          ((∃ w ∈ s.contenders e.claims, e.priority.val ≤ s.contenderPriority w) ∨
              s.placeFor e.priority = none →
            State.serveFrom (q :: rest) waited s = State.serveFrom rest (waited ||| e.claims) s)))

/-- R69: a request joins the queue behind the entries of its own and higher priority; the queue stays in
service order and keeps its other entries; full, it gives up its last entry to a request of higher priority,
with QUEUE_DROP, and drops any other request so. -/
def Obligations.RequestQueueInServiceOrder : Prop :=
  (∀ (q : Request) (l : List Request), InServiceOrder l →
    InServiceOrder (insertRequest q l) ∧ (insertRequest q l).Perm (q :: l) ∧
      ∃ before after, insertRequest q l = before ++ q :: after ∧ l = before ++ after ∧
        (∀ r ∈ before, q.priority ≤ r.priority) ∧ ∀ r ∈ after, r.priority < q.priority) ∧
  ∀ (s : State) (n : Fin 64) (e : SceneEntry) (o : ReqOrigin), ∀ q : Request,
    q = { scene := n, priority := e.priority, origin := o, joined := s.beats, patience := e.patience } →
    (s.sce.queue.length < 8 →
      s.join n e o = (s.onSce fun x => { x with queue := insertRequest q x.queue }).told n o .queued) ∧
    ∀ last, s.sce.queue.length = 8 → s.sce.queue.getLast? = some last →
      (last.priority < e.priority →
        s.join n e o =
          ((s.onSce fun x => { x with queue := insertRequest q x.queue.dropLast }).report .queueDrop
            last.scene.val .requestQueue).told n o .queued) ∧
      (e.priority ≤ last.priority →
        s.join n e o = (s.report .queueDrop n.val .requestQueue).told n o .dropped)

/-- R72, R73, R83, R175: a scene read that completes, its bytes on SMIN after the data-start mark A5h and
whatever came before the mark. An initial read with a good header loads the first cues; a header that
disagrees with the directory reports SCENE_RECORD_BAD; a later read's cues join the window. The bytes come
with the command (log entry 8). -/
def Obligations.SceneReadsFillTheWindow : Prop :=
  ∀ (s : State) (i : Fin 4) (kind : ReadKind) (address count at_ timer : Nat) (retried : Bool)
    (waiting : List Transfer) (sent skipped data : List Byte),
    s.smp =
      { state := .busy
          { who := .scene i (s.slot i).run kind, address := address, count := count, instant := at_ }
          retried
        waiting := waiting, sent := sent, timer := timer } →
    0xA5#8 ∉ skipped → count ≤ data.length → (s.slot i).state ≠ .free → (s.slot i).read = .wanted kind →
    ∀ e, s.sceneEntry (s.slot i).scene = some e →
    ∀ ready : State,
      ready = { s.tick with smp := { state := .ready, waiting := waiting, sent := sent, timer := 0 } } →
    ∀ smin : List Byte, smin = skipped ++ 0xA5#8 :: data →
    (kind = .initial → field (data.take count) 0 1 = (s.slot i).scene.val →
      field (data.take count) 1 1 = e.cueCount →
      exec (.sceneReadComplete smin) s =
        .next (State.finish
          ((ready.setSlot i
            { s.slot i with
              read := .none, loaded := true, unread := min 8 e.cueCount
              window := loadCues (min 8 e.cueCount) 0 ((data.take count).drop 2) }).post
            [.slotTest i]))) ∧
    (kind = .initial →
      (field (data.take count) 0 1 ≠ (s.slot i).scene.val ∨ field (data.take count) 1 1 ≠ e.cueCount) →
      exec (.sceneReadComplete smin) s =
        .next (State.finish ((ready.report .sceneRecordBad (s.slot i).scene.val).goFree i))) ∧
    (kind = .refill ∨ kind = .reload →
      exec (.refillReadComplete smin) s =
        .next (State.finish
          ((ready.setSlot i
            { s.slot i with
              read := .none, unread := (s.slot i).unread + (data.take count).length / 10
              window := (s.slot i).window ++
                loadCues ((data.take count).length / 10) (s.slot i).unread (data.take count) }).post
            [.runCues i, .refillCues i])))

/-- R72, R73, R75, R76: the ends of a run's states as commands of their own: a loaded run with all its claims
enters RUNNING; an ENDING run whose resources are idle goes FREE or, looping, starts again; a STOPPING run
with nothing held and no read goes FREE, every field cleared. (log entries 7 and 21). The origin of a run that
enters RUNNING for the first time is told STARTED, that of one that goes FREE before it has, FAILED: a button
has its press latch cleared (R52), the START in the latch is answered (R99). A successor takes the slot in
CLAIMING, with its wanted resources that are free mapped to it and its initial read asked for (R73, R76). -/
def Obligations.RunStatesEnd : Prop :=
  (∀ (s : State) (i : Fin 4), (s.slot i).tell = false → (s.slot i).successor = none →
    ((s.slot i).state = .loading ∨ (s.slot i).state = .claiming → (s.slot i).loaded = true →
      (∀ r : Fin 6, (s.slot i).claims.getLsbD r.val = true → s.holder r = some i) → s.held = false →
      exec (.claimingComplete i) s =
        .next (State.finish
          ((s.tick.setSlot i { s.slot i with state := .running, tell := false }).post
            [.refillCues i, .runCues i]))) ∧
    ((s.slot i).state = .stopping → (∀ r : Fin 6, s.holder r ≠ some i) → (s.slot i).read = .none →
      exec (.slotGoesFree i) s =
        .next (State.finish
          ((s.tick.setSlot i Slot.clear).post [.latchTest, .restartTest, .serve]))) ∧
    ((s.slot i).state = .ending → (s.slot i).claims = 0#6 → (∀ r : Fin 6, s.holder r ≠ some i) →
      (s.loops (s.slot i).scene = false ∨ (s.slot i).stopReason ≠ none) →
      exec (.endingResourcesIdle i) s =
        .next (State.finish
          ((s.tick.setSlot i Slot.clear).post [.latchTest, .restartTest, .serve]))) ∧
    ((s.slot i).state = .ending →
      (∀ r : Fin 6, (s.slot i).claims.getLsbD r.val = true → s.resourceIdle r = true) →
      (s.loops (s.slot i).scene = false ∨ (s.slot i).stopReason ≠ none) →
      exec (.endingResourcesIdle i) s = .next (State.finish (s.tick.goFree i)) ∧
        (s.goFree i).slot i = Slot.clear ∧ ∀ r : Fin 6, (s.goFree i).holder r ≠ some i) ∧
    ((s.slot i).state = .ending →
      (∀ r : Fin 6, (s.slot i).claims.getLsbD r.val = true → s.resourceIdle r = true) →
      s.loops (s.slot i).scene = true → (s.slot i).stopReason = none →
      exec (.endingResourcesIdle i) s = .next (State.finish (s.tick.rewind i)) ∧
        ((s.rewind i).slot i).state = .running ∧ ((s.rewind i).slot i).sceneTime = 0#32 ∧
        ((s.rewind i).slot i).nextCue = 0 ∧ ((s.rewind i).slot i).window = [])) ∧
  (∀ (s : State) (i : Fin 4), (s.slot i).tell = true →
    (s.slot i).state = .loading ∨ (s.slot i).state = .claiming → (s.slot i).loaded = true →
    (∀ r : Fin 6, (s.slot i).claims.getLsbD r.val = true → s.holder r = some i) → s.held = false →
    exec (.claimingComplete i) s =
      .next (State.finish
        (((s.tick.setSlot i { s.slot i with state := .running, tell := false }).told (s.slot i).scene
            (s.slot i).origin .started).post
          [.refillCues i, .runCues i]))) ∧
  (∀ (s : State) (i : Fin 4), (s.slot i).state = .stopping → (∀ r : Fin 6, s.holder r ≠ some i) →
    (s.slot i).read = .none →
    ∀ base told : State, base = (s.setSlot i Slot.clear).post [.latchTest, .restartTest, .serve] →
      told =
        (if (s.slot i).tell = true then base.told (s.slot i).scene (s.slot i).origin .failed else base) →
      exec (.slotGoesFree i) s = .next (State.finish (s.tick.goFree i)) ∧
        ((s.slot i).successor = none → s.goFree i = told) ∧
        ∀ u, (s.slot i).successor = some u →
          (s.goFree i).slot i =
              { Slot.clear with
                state := .claiming, scene := u.scene, priority := u.priority, claims := u.claims
                origin := u.origin, startTime := s.clk.showTime, tell := u.tell, run := s.sce.nextRun
                leftFree := s.instant
                read := if (s.sceneEntry u.scene).isSome then .wanted .initial else .none } ∧
            .slotTest i ∈ (s.goFree i).agenda ∧
            (∀ j, j ≠ i → (s.goFree i).slot j = s.slot j) ∧
            ∀ r : Fin 6, (s.goFree i).holder r =
              if u.claims.getLsbD r.val = true ∧ base.isFree r = true then some i else s.holder r) ∧
  ∀ (s : State) (n : Fin 64),
    (∀ i d, s.told n (.button i) d = s.onInput i fun x => { x with latch := false }) ∧
      ∀ st l, s.sce.latch = some l → l.kind = .start → ∀ t : State,
        t = (s.onSce fun e => { e with latch := none }) →
        s.told n (.order st) .started =
            t.enqueue (.answer l.sender 0x01#8 0x00#8 0x00#8 [BitVec.ofNat 8 n.val, 4#8] false) .sce ∧
          s.told n (.order st) .failed =
            t.enqueue (.answer l.sender 0x01#8 0x02#8 0x06#8 [BitVec.ofNat 8 n.val, 7#8] false) .sce

/-! ### Cues -/

/-- R84 to R88, R91, R105, R107: a cue for a RUNNING run out of hold, its window empty, with its operands in
their ranges: FADE and CYCLE take their channel, a CYCLE on the table that the channel runs already leaving
the cycle value of its last frame for hold to latch (R108), FLAG writes its flag, ANNOUNCE and DIRECT join the
outbound queue with a start-at of show time plus their delay, START requests its scene. A cue as a command of
its own is executed as log entry 10 says. -/
def Obligations.CuesWithoutClaims : Prop :=
  ∀ (s : State) (i : Fin 4), (s.slot i).state = .running → s.held = false → (s.slot i).window = [] →
    (∀ (c : Fin 16) (target : BitVec 16) (d : BitVec 24),
      Gives (.fade i (BitVec.ofNat 8 c.val) target d) s
        (s.tick.onChannel c fun x =>
          { x with course := .fade x.v target.toNat 0 d.toNat, cyc := none, latched := none })) ∧
    (∀ (c : Fin 16) (k : Fin 4) (blend : BitVec 16),
      Gives (.cycle i (BitVec.ofNat 8 c.val) (BitVec.ofNat 8 k.val) blend) s
        (s.tick.onChannel c fun x =>
          { x with
            course := if blend.toNat = 0 then .cycle k else .blend k x.v 0 blend.toNat
            cyc := if x.course.table = some k then x.cyc else none
            latched := none })) ∧
    (∀ (f : Fin 4) (v : Bool),
      Gives (.flag i (BitVec.ofNat 8 f.val) (if v then 1#8 else 0#8)) s
        (if s.sce.flags.getLsbD f.val = v then s.tick
         else
          { s.tick with
            sce :=
              { s.sce with
                flags :=
                  if v then s.sce.flags ||| BitVec.twoPow 4 f.val
                  else s.sce.flags &&& ~~~(BitVec.twoPow 4 f.val) } }.earlyRequest)) ∧
    (∀ (k : Byte) (delay : BitVec 16), s.bus.queue.length < 8 →
      Gives (.announce i k delay) s
        (s.tick.onBus (·.place (.cueLong k (s.clk.showTime + BitVec.ofNat 32 delay.toNat)) .sce))) ∧
    (∀ (st : Fin 32) (n : Fin 64) (delay : BitVec 16), s.bus.queue.length < 8 →
      Gives (.direct i (BitVec.ofNat 8 st.val) (BitVec.ofNat 8 n.val) delay) s
        (s.tick.onBus (·.place (.cueShort st n (s.clk.showTime + BitVec.ofNat 32 delay.toNat)) .sce))) ∧
    ∀ n : Fin 64,
      exec (.startCue i (BitVec.ofNat 8 n.val)) s =
        .next (State.finish { s.tick with agenda := [.request n (.chain i)] })

/-- R85, R87, R129 to R132, R138, R151, TABLE XXXVII: a cue that names a voice or an axis acts when the claim
table maps that resource to its run: a CLIP that is not valid is reported, a valid one goes to the voice; a
SILENCE stops the run's clips; a MOVE goes to the axis with its target clamped to the soft limits; a HOME goes
to the axis. A cue as a command of its own is executed as log entry 10 says. A clip in mode QUEUE joins the
voice's queue of up to 4; one in mode CUT becomes the whole queue, while the current clip tails out; a voice
that waits for the air drops its clip, reports itself idle on the emptied queue, and takes the new clip up at
once. A stop for a run takes its clips out of the voice and leaves the others. A queue head is chained behind
a current clip with nothing left to fetch, an earshot one only behind a GRANTED clip. -/
def Obligations.CuesUnderClaims : Prop :=
  (∀ (s : State) (i : Fin 4), (s.slot i).state = .running → s.held = false → (s.slot i).window = [] →
      (∀ (v : Voice) (n : Fin 256) (cut : Bool), s.holder (voicePlace v) = some i →
        (s.clipValid n = true →
          exec (.clip i (voiceCode v) (BitVec.ofNat 8 n.val) (if cut then 1#8 else 0#8)) s =
            .next (State.finish (s.tick.takeClip v { clip := n, owner := i, cut := cut }))) ∧
        (s.clipValid n = false →
          Gives (.clip i (voiceCode v) (BitVec.ofNat 8 n.val) (if cut then 1#8 else 0#8)) s
            (s.tick.report .clipInvalid n.val))) ∧
      (∀ v : Voice, s.holder (voicePlace v) = some i →
        exec (.silence i (voiceCode v)) s = .next (State.finish (s.tick.stopForRun v i))) ∧
      ∀ (a : Fin 4) (c : AxisCfg), s.axisCfg a = some c → s.holder (axisPlace a) = some i →
        (∀ (target : BitVec 24) (k : Fin 4), c.softMin ≤ c.softMax →
          exec (.move i (BitVec.ofNat 8 a.val) target (BitVec.ofNat 8 k.val)) s =
            .next (State.finish (s.tick.moveAxis a (max c.softMin (min target.toInt c.softMax)) k))) ∧
        exec (.home i (BitVec.ofNat 8 a.val)) s = .next (State.finish (s.tick.homeAxis a))) ∧
  (∀ (s : State) (v : Voice) (q : Queued),
    (q.cut = false → 4 ≤ (s.voice v).queue.length →
      s.takeClip v q = s.report .queueDrop q.clip.val .clipQueue) ∧
    (q.cut = false → (s.voice v).queue.length < 4 → (s.voice v).state ≠ .idle →
      ((s.voice v).state = .waitQuiet ∨ (s.voice v).state = .claiming ∨ (s.voice v).state = .tailing ∨
        leftToFetch (s.voice v).current ≠ 0 ∨ (s.voice v).next ≠ none) →
      s.nre.talking = (s.nre.a.talks || s.nre.b.talks) →
      s.takeClip v q = s.setVoice v { s.voice v with queue := (s.voice v).queue ++ [q] }) ∧
    (q.cut = true →
      ((s.voice v).state = .priming ∨ (s.voice v).state = .playing ∨ (s.voice v).state = .paused →
        ((s.takeClip v q).voice v).queue = [q] ∧ ((s.takeClip v q).voice v).next = none ∧
          ((s.takeClip v q).voice v).current = (s.voice v).current ∧
          ((s.takeClip v q).voice v).state = .tailing ∧ ((s.takeClip v q).voice v).tailPause = false ∧
          ((s.takeClip v q).voice v).tailCount = 0 ∧ ((s.takeClip v q).voice v).goal = 0) ∧
      ((s.voice v).state = .tailing →
        ((s.takeClip v q).voice v).queue = [q] ∧ ((s.takeClip v q).voice v).next = none ∧
          ((s.takeClip v q).voice v).state = .tailing ∧ ((s.takeClip v q).voice v).tailPause = false ∧
          ((s.takeClip v q).voice v).tailCount = (s.voice v).tailCount) ∧
      ((s.voice v).state = .idle ∨ (s.voice v).state = .waitQuiet ∨ (s.voice v).state = .claiming →
        ((s.takeClip v q).voice v).queue = [] ∧
          (((s.takeClip v q).voice v).current.map fun c => (c.clip, c.owner)) =
            some (q.clip, q.owner)) ∧
      ((s.voice v).state = .waitQuiet ∨ (s.voice v).state = .claiming →
        .drained v ∈ (s.takeClip v q).agenda ∧
          .voiceIdle v s.sce.nextAwait ∈ (s.takeClip v q).agenda))) ∧
  (∀ (s : State) (v : Voice) (i : Fin 4),
    (∀ q ∈ ((s.stopForRun v i).voice v).queue, q.owner ≠ i) ∧
    ownedBy i ((s.stopForRun v i).voice v).next = false ∧
    ((s.stopForRun v i).voice (otherVoice v)).queue = (s.voice (otherVoice v)).queue ∧
    (ownedBy i (s.voice v).next = false → ownedBy i (s.voice v).current = false →
      s.nre.talking = (s.nre.a.talks || s.nre.b.talks) →
      s.stopForRun v i =
        s.setVoice v
          { s.voice v with queue := (s.voice v).queue.filter fun q => decide (q.owner ≠ i) }) ∧
    (ownedBy i (s.voice v).current = true →
      ((s.voice v).state = .priming ∨ (s.voice v).state = .playing ∨ (s.voice v).state = .paused →
        ((s.stopForRun v i).voice v).state = .tailing ∧
          ((s.stopForRun v i).voice v).tailPause = false ∧
          ((s.stopForRun v i).voice v).tailCount = 0 ∧ ((s.stopForRun v i).voice v).goal = 0 ∧
          ((s.stopForRun v i).voice v).queue =
            (s.voice v).queue.filter fun q => decide (q.owner ≠ i)) ∧
      ((s.voice v).state = .tailing →
        ((s.stopForRun v i).voice v).state = .tailing ∧
          ((s.stopForRun v i).voice v).tailPause = false ∧
          ((s.stopForRun v i).voice v).tailCount = (s.voice v).tailCount) ∧
      ((s.voice v).state = .waitQuiet ∨ (s.voice v).state = .claiming →
        (∀ q ∈ (s.voice v).queue, q.owner = i) →
        ((s.stopForRun v i).voice v).state = .idle ∧ ((s.stopForRun v i).voice v).current = none))) ∧
  ∀ (s : State) (v : Voice),
    ((∀ c, (s.voice v).current = some c → c.toFetch ≠ 0) ∨ (s.voice v).next ≠ none ∨
        (s.voice v).queue = [] ∨
        ((s.voice v).state ≠ .priming ∧ (s.voice v).state ≠ .playing ∧ (s.voice v).state ≠ .paused) →
      s.chain v = s) ∧
    ∀ (c : Held) (h : Queued) (rest : List Queued), (s.voice v).current = some c → c.toFetch = 0 →
      (s.voice v).next = none → (s.voice v).queue = h :: rest →
      ((s.voice v).state = .priming ∨ (s.voice v).state = .playing ∨ (s.voice v).state = .paused) →
      ((s.clipOf h.clip).earshot = true → c.air ≠ .granted → s.chain v = s) ∧
      ((s.clipOf h.clip).earshot = false ∨ c.air = .granted →
        ((s.chain v).voice v).next =
            some
              { clip := h.clip, owner := h.owner
                air := if (s.clipOf h.clip).earshot = true then .granted else .none
                fetch := (s.clipOf h.clip).address, toFetch := (s.clipOf h.clip).length
                toPlay := (s.clipOf h.clip).length } ∧
          ((s.chain v).voice v).boundary = some (s.voice v).write ∧
          ((s.chain v).voice v).queue = rest ∧ ((s.chain v).voice v).current = some c ∧
          ((s.chain v).voice v).state = (s.voice v).state)

/-- R85: a cue with an operand out of its range, or whose voice or axis the claim table does not map to its
run, is skipped with CUE_INVALID, whose detail is the run's scene. A cue as a command of its own is executed
as log entry 10 says. -/
def Obligations.UnfitCuesAreSkipped : Prop :=
  ∀ (s : State) (i : Fin 4), (s.slot i).state = .running → s.held = false → (s.slot i).window = [] →
    ∀ skipped : State, skipped = s.tick.report .cueInvalid (s.slot i).scene.val →
      (∀ c target d, 16 ≤ c.toNat → Gives (.fade i c target d) s skipped) ∧
      (∀ c k blend, 16 ≤ c.toNat ∨ 4 ≤ k.toNat → Gives (.cycle i c k blend) s skipped) ∧
      (∀ f v, 4 ≤ f.toNat ∨ 2 ≤ v.toNat → Gives (.flag i f v) s skipped) ∧
      (∀ st n delay, 32 ≤ st.toNat ∨ 64 ≤ n.toNat → Gives (.direct i st n delay) s skipped) ∧
      (∀ n, 64 ≤ n.toNat → Gives (.startCue i n) s skipped) ∧
      (∀ v n m, 2 ≤ v.toNat ∨ 2 ≤ m.toNat → Gives (.clip i v n m) s skipped) ∧
      (∀ v, 2 ≤ v.toNat → Gives (.silence i v) s skipped) ∧
      (∀ a target k, 4 ≤ a.toNat ∨ 4 ≤ k.toNat → Gives (.move i a target k) s skipped) ∧
      (∀ a, 4 ≤ a.toNat → Gives (.home i a) s skipped) ∧
      (∀ k o1 o2 tm e, 4 ≤ k.toNat ∨ 2 ≤ e.toNat → Gives (.await i k o1 o2 tm e) s skipped) ∧
      ∀ (v : Voice) (a : Fin 4) (n m : Byte) (target : BitVec 24) (k : Byte),
        (s.holder (voicePlace v) ≠ some i →
          Gives (.clip i (voiceCode v) n m) s skipped ∧ Gives (.silence i (voiceCode v)) s skipped) ∧
        (s.holder (axisPlace a) ≠ some i →
          Gives (.move i (BitVec.ofNat 8 a.val) target k) s skipped ∧
            Gives (.home i (BitVec.ofNat 8 a.val)) s skipped)

/-- R89, R90, R44: an AWAIT whose condition holds lets the run go on; one that does not makes it WAITING with
its record; its timeout ends the run with AWAIT_END or lets it go on. AWAIT as a command of its own, with an
empty cue window, is executed as log entry 10 says; awaits are numbered (log entry 6). TABLE XXXVIII, R175:
the awaits that codes and operand bytes name, and what each waits for. R131, R158: an idle report of a voice,
and a report of an idle axis, ends the awaits of it begun before the report and none begun since; a report of
an axis that is not idle ends none. -/
def Obligations.AwaitsHoldTheRun : Prop :=
  (∀ (s : State) (i : Fin 4),
      ((s.slot i).state = .running → s.held = false → (s.slot i).window = [] →
        ∀ (kind op1 op2 : Byte) (tm : BitVec 16) (e : Bool) (k : AwaitKind),
          awaitOf kind op1 op2 = some k →
          (s.awaitHolds k = true →
            Gives (.await i kind op1 op2 tm (if e then 1#8 else 0#8)) s s.tick) ∧
          (s.awaitHolds k = false →
            Gives (.await i kind op1 op2 tm (if e then 1#8 else 0#8)) s
              ((s.tick.onSlot i fun x =>
                { x with
                  state := .waiting
                  await := some
                    { kind := k, timeout := tm.toNat, remaining := tm.toNat, onEnd := e
                      begun := s.sce.nextAwait } }).onSce fun x =>
                { x with nextAwait := s.sce.nextAwait + 1 }))) ∧
      ∀ w : Await, (s.slot i).state = .waiting → (s.slot i).await = some w → 0 < w.timeout →
        w.remaining = 0 →
        (w.onEnd = true →
          exec (.awaitTimeout i) s =
            .next (State.finish
              ((s.tick.onSlot i fun x =>
                { x with state := .ending, await := none, stopReason := some .awaitEnd }).post
                [.slotTest i]))) ∧
        (w.onEnd = false →
          exec (.awaitTimeout i) s =
            .next (State.finish
              ((s.tick.onSlot i fun x => { x with state := .running, await := none }).post
                [.refillCues i, .runCues i])))) ∧
  ((∀ (st : Fin 32) (f : Fin 4) (v : Bool),
      awaitOf 0#8 (BitVec.ofNat 8 st.val) (BitVec.ofNat 8 (f.val + if v then 16 else 0)) =
        some (.peerFlag st f v)) ∧
    (∀ (v : Voice) (x : Byte), awaitOf 1#8 (voiceCode v) x = some (.voiceIdle v)) ∧
    (∀ (a : Fin 4) (x : Byte), awaitOf 2#8 (BitVec.ofNat 8 a.val) x = some (.axisIdle a)) ∧
    (∀ (g : Fin 4) (idle : Bool),
      awaitOf 3#8 (BitVec.ofNat 8 g.val) (if idle then 1#8 else 0#8) = some (.presence g (!idle))) ∧
    ∀ (s : State),
      (∀ (st : Fin 32) (f : Fin 4) (v : Bool),
        (s.peer st.val = none → s.awaitHolds (.peerFlag st f v) = false) ∧
        ∀ p, s.peer st.val = some p →
          (s.awaitHolds (.peerFlag st f v) = true ↔ p.fresh = true ∧ p.flags.getLsbD f.val = v)) ∧
      (∀ v : Voice, s.awaitHolds (.voiceIdle v) = true ↔
        (s.voice v).state = .idle ∧ (s.voice v).queue = []) ∧
      (∀ a : Fin 4, s.awaitHolds (.axisIdle a) = true ↔
        (s.axis a).move = none ∧
          ((s.axis a).state = .idle ∨ (s.axis a).state = .unhomed ∨ (s.axis a).state = .fault)) ∧
      ∀ g : Fin 4,
        (s.awaitHolds (.presence g true) = true ↔ (s.viu.groups[g]).state = .occupied) ∧
        (s.awaitHolds (.presence g false) = true ↔ (s.viu.groups[g]).state = .idle)) ∧
  ∀ (s : State) (i : Fin 4) (w : Await) (before : Nat), (s.slot i).state = .waiting →
    (s.slot i).await = some w → ∀ met : Slot, met = { s.slot i with state := .running, await := none } →
    (∀ v : Voice, w.kind = .voiceIdle v →
      (s.handle (.voiceIdle v before)).slot i = if w.begun < before then met else s.slot i) ∧
    ∀ (a : Fin 4) (idle : Bool), w.kind = .axisIdle a →
      (s.handle (.axisReport a idle before)).slot i =
        if idle = true ∧ w.begun < before then met else s.slot i

/-- R84, R74: a due cue at the head of its window is executed: it leaves the window and the next cue index
advances; a run whose last cue has executed enters ENDING. -/
def Obligations.DueCuesExecute : Prop :=
  ∀ (s : State) (i : Fin 4), (s.slot i).state = .running →
    (∀ (c : LoadedCue) (rest : List LoadedCue), (s.slot i).window = c :: rest → s.held = false →
      (s.slot i).nextCue < s.cueCount i → c.offset ≤ (s.slot i).sceneTime.toNat →
      exec (.cueDue i) s =
        .next (State.finish
          (((s.tick.onSlot i fun x => { x with window := rest, nextCue := x.nextCue + 1 }).post
            [.refillCues i, .runCues i]).performCue i c.cue))) ∧
    (s.cueCount i ≤ (s.slot i).nextCue →
      exec (.cueDue i) s =
        .next (State.finish ((s.tick.onSlot i fun x => { x with state := .ending }).post [.slotTest i])))

/-- R92: of the listen windows the first that is enabled, names the sender or any, and takes in the cue number
decides; its offset gives the local scene, and a number out of 0 to 63 gives none. R94: a cue joins the
pending list behind the entries that lie no further ahead, and the list keeps its ascending order of lead, and
its other entries; an entry that show time has reached and a command has left in the list has no lead and
stays in front (log entry 4). R93 to R96: a CUE heard with its local scene: reached and within the late limit
it is a request at once, reached and later it is reported; not reached it joins the list; a full list gives up
its last entry to a cue less far ahead, with QUEUE_DROP, and drops any other so. -/
def Obligations.CuesHeardAgainstShowTime : Prop :=
  (∀ (before after : List Window) (w : Window) (cue station : Nat),
      (∀ x ∈ before, ¬ (x.enabled = true ∧ x.low ≤ cue ∧ cue ≤ x.high ∧
        (x.origin = none ∨ ∃ st, x.origin = some st ∧ st.val = station))) →
      w.enabled = true → w.low ≤ cue → cue ≤ w.high →
      (w.origin = none ∨ ∃ st, w.origin = some st ∧ st.val = station) →
      (∀ n : Fin 64, (cue : Int) + w.offset = n.val → mapCue (before ++ w :: after) cue station = some n) ∧
        ((cue : Int) + w.offset < 0 ∨ 63 < (cue : Int) + w.offset →
          mapCue (before ++ w :: after) cue station = none)) ∧
  (∀ (now : ShowTime) (q : PendingCue) (l : List PendingCue), InLeadOrder now l →
      InLeadOrder now (insertPending now q l) ∧ (insertPending now q l).Perm (q :: l) ∧
        ∀ n : Nat, n < 2147483648 → (∀ x ∈ l, reached now x.startAt = false) →
          InLeadOrder (now + BitVec.ofNat 32 n) l) ∧
  ∀ (s : State) (q : PendingCue), s.sul.station.runsShow = true →
    (reached s.clk.showTime q.startAt = true → (s.clk.showTime - q.startAt).toNat ≤ s.lateLimit →
      s.hearCue q = s.post [.request q.scene (.cue q.station q.long)]) ∧
    (reached s.clk.showTime q.startAt = true → s.lateLimit < (s.clk.showTime - q.startAt).toNat →
      s.hearCue q = s.report .cueLate q.station.val) ∧
    (reached s.clk.showTime q.startAt = false → s.csc.length < 8 →
      s.hearCue q = { s with csc := insertPending s.clk.showTime q s.csc }) ∧
    ∀ last, reached s.clk.showTime q.startAt = false → s.csc.length = 8 → s.csc.getLast? = some last →
      (lead s.clk.showTime q.startAt < lead s.clk.showTime last.startAt →
        s.hearCue q =
          ({ s with csc := insertPending s.clk.showTime q s.csc.dropLast }.report .queueDrop
            last.scene.val .pendingCue)) ∧
      (lead s.clk.showTime last.startAt ≤ lead s.clk.showTime q.startAt →
        s.hearCue q = s.report .queueDrop q.scene.val .pendingCue)

/-- R19, R92, R96: CUE frames of another station are given to the Cue Scheduler, the long form through the
listen windows and the short form when this station is its target; entries of the list that show time has
reached become requests in list order. -/
def Obligations.CueFramesAndDueEntries : Prop :=
  ∀ s : State,
    (∀ (st : Fin 32) (cue : Byte) (at_ : BitVec 32), s.Receiving → st ≠ s.sul.number →
      exec (.cueLongForm (BitVec.ofNat 8 st.val) cue at_) s =
        .next (State.finish (s.heard.hearLong st cue at_))) ∧
    (∀ (st : Fin 32) (n : Fin 64) (at_ : BitVec 32), s.Receiving → st ≠ s.sul.number →
      exec (.cueShortForm (BitVec.ofNat 8 st.val) (BitVec.ofNat 8 s.sul.number.val)
          (BitVec.ofNat 8 n.val) at_) s =
        .next (State.finish
          (s.heard.hearCue { scene := n, startAt := at_, station := st, long := false }))) ∧
    ∀ (due rest : List PendingCue) (e : PendingCue), s.csc = (e :: due) ++ rest →
      (∀ x ∈ e :: due, reached s.clk.showTime x.startAt = true) →
      (∀ x, rest.head? = some x → reached s.clk.showTime x.startAt = false) →
      exec .pendingCueDue s =
        .next (State.finish
          { s.tick with
            csc := rest
            agenda := (e :: due).map fun x => .request x.scene (.cue x.station x.long) })

/-! ### Orders -/

/-- R91, R99, R100, R160, R165, TABLE XL: orders that complete at once: SET_FLAG, HOLD, QUERY and CLEAR_FAULTS
do their work and a DONE answer joins the outbound queue; QUERY's carries its 20 bytes of the page, and the
summary page composes the granted load (R122). CLEAR_FAULTS empties the list, clears its overflow flag and
every show-hold mark, which may end local hold, and raises an early request where the list held entries or
local hold changes (R165). -/
def Obligations.OrdersCompleteAtOnce : Prop :=
  (∀ (s : State) (sender : Fin 32), s.TakesOrder sender →
    ∀ own peer : Byte, own = BitVec.ofNat 8 s.sul.number.val → peer = BitVec.ofNat 8 sender.val →
      (∀ (f : Fin 4) (v : Bool),
        Gives (.setFlag peer own [BitVec.ofNat 8 f.val, if v then 1#8 else 0#8]) s
          ((s.heard.setFlag f v).doneAnswer sender .setFlag [])) ∧
      (∀ on : Bool,
        Gives (.hold peer own [if on then 1#8 else 0#8]) s
          (((s.heard.onHld fun h => { h with orderHold := on }).syncLocalHold).doneAnswer sender .hold
            [])) ∧
      (∀ sel : Byte, sel.toNat % 32 ≤ 20 →
        Gives (.query peer own [sel]) s
          ((if sel.toNat % 32 = 0 then
              { s.heard with lgv := { s.lgv with granted := s.lgv.compose } }
            else s.heard).doneAnswer sender .query (s.queryData (sel.toNat % 32) (sel.toNat / 32)))) ∧
      Gives (.clearFaults peer own []) s (s.heard.clearFaultList.doneAnswer sender .clearFaults [])) ∧
  ∀ (s : State) (hold : Bool), hold = (s.cfg.isSome && (s.keyHold || s.hld.orderHold)) →
    s.clearFaultList =
      { s with
        flt := { entries := [], overflow := false }
        mte := vmap (fun x => { x with showHold := false }) s.mte
        hld := { s.hld with localHold := hold }
        bus :=
          if s.flt.entries ≠ [] ∨ s.hld.localHold ≠ hold then s.bus.raiseEarly else s.bus }

/-- R76, R77, R98, R99, TABLE XL: the orders that the latch holds: START requests its scene with the order as
origin; STOP and STOP_ALL stop what they name and are answered when it is gone, at once where nothing of it is
there; a RESTART's DONE joins the queue while the latch holds it. A stopped run is in STOPPING with the first
reason it was given, its await gone and its read to be discarded; its clips leave the voices it holds, the
axes it holds are aborted, and what of these is idle is released. A stop for a scene takes its entry from the
queue and its successors from their slots; a stop for every scene does so for all. -/
def Obligations.OrdersHeldByTheLatch : Prop :=
  (∀ (s : State) (sender : Fin 32), s.TakesOrder sender →
      ∀ own peer : Byte, own = BitVec.ofNat 8 s.sul.number.val → peer = BitVec.ofNat 8 sender.val →
        ∀ latched : OrderKind → List Byte → State,
          (∀ k ops, latched k ops =
            s.heard.onSce fun e => { e with latch := some { kind := k, operands := ops, sender := sender } }) →
        (∀ n : Fin 64,
          exec (.start peer own [BitVec.ofNat 8 n.val]) s =
            .next (State.finish
              ((latched .start [BitVec.ofNat 8 n.val]).post [.request n (.order sender)]))) ∧
        (∀ n : Fin 64,
          exec (.stop peer own [BitVec.ofNat 8 n.val]) s =
            .next (State.finish
              (((latched .stop [BitVec.ofNat 8 n.val]).post [.latchTest]).stopScene n .order)) ∧
          (s.gone n = true →
            Gives (.stop peer own [BitVec.ofNat 8 n.val]) s (s.heard.doneAnswer sender .stop []))) ∧
        (exec (.stopAll peer own []) s =
            .next (State.finish (((latched .stopAll []).post [.latchTest]).stopEverything .all)) ∧
          ((∀ i, (s.slot i).state = .free ∧ (s.slot i).successor = none) → s.sce.queue = [] →
            Gives (.stopAll peer own []) s (s.heard.doneAnswer sender .stopAll []))) ∧
        Gives (.restart peer own []) s
          ((latched .restart []).onBus
            (·.place (.answer sender OrderKind.restart.code outcomeDone reasonNone [] true) .sce))) ∧
  (∀ (s : State) (i : Fin 4) (reason : StopReason),
    ((s.slot i).state = .free ∨ (s.slot i).state = .stopping → s.stopRun i reason = s) ∧
    ((s.slot i).state ≠ .free → (s.slot i).state ≠ .stopping →
      (s.stopRun i reason).slot i =
          { s.slot i with
            state := .stopping, stopReason := some ((s.slot i).stopReason.getD reason), await := none
            read := if (s.slot i).read = .none then .none else .discard false } ∧
        (∀ j, j ≠ i → (s.stopRun i reason).slot j = s.slot j) ∧
        (∀ v, s.holder (voicePlace v) = some i →
          ∀ q ∈ ((s.stopRun i reason).voice v).queue, q.owner ≠ i) ∧
        (∀ a, s.holder (axisPlace a) = some i →
          (s.stopRun i reason).axis a = (s.abortAxis a).axis a) ∧
        (∀ a, s.holder (axisPlace a) ≠ some i → (s.stopRun i reason).axis a = s.axis a) ∧
        ∀ r : Fin 6, (s.stopRun i reason).holder r = some i →
          s.holder r = some i ∧ (s.stopRun i reason).resourceIdle r = false)) ∧
  ∀ (s : State) (reason : StopReason),
    (∀ n : Fin 64,
      (s.stopScene n reason).sce.queue = s.sce.queue.filter (fun q => decide (q.scene ≠ n)) ∧
        (∀ i u, ((s.stopScene n reason).slot i).successor = some u →
          u.scene ≠ n ∧ (s.slot i).successor = some u) ∧
        (∀ i, s.slotOf n = some i → (s.slot i).state ≠ .stopping →
          ((s.stopScene n reason).slot i).state = .stopping ∧
            ((s.stopScene n reason).slot i).stopReason =
              some ((s.slot i).stopReason.getD reason)) ∧
        ∀ i, s.slotOf n ≠ some i →
          ((s.stopScene n reason).slot i).state = (s.slot i).state) ∧
    (s.stopEverything reason).sce.queue = [] ∧
    ∀ i, ((s.stopEverything reason).slot i).successor = none ∧
      ((s.slot i).state = .free → ((s.stopEverything reason).slot i).state = .free) ∧
      ((s.slot i).state ≠ .free → ((s.stopEverything reason).slot i).state = .stopping)

/-- R97: an ORDER of another station, addressed to this one, that it does not carry out, each answered at
once, by the first test that applies: a sender outside the order set; a latch that is PENDING or a RESTART
that has not left LOADING; CONFIG_FAULT for a kind other than QUERY and RESTART; operands out of range; an
unknown kind. -/
def Obligations.OrdersTurnedAway : Prop :=
  ∀ (s : State) (sender : Fin 32), s.Receiving → sender ≠ s.sul.number → s.bus.queue.length < 8 →
    ∀ own peer : Byte, own = BitVec.ofNat 8 s.sul.number.val → peer = BitVec.ofNat 8 sender.val →
      (∀ (code : Byte) (ops : List Byte),
        Gives (.orderUnknownKind peer own code ops) s
          (s.heard.onBus (·.place
            (if s.orderSet.getLsbD sender.val = true then
              .answer sender code outcomeUnknown reasonNone [] false
            else .answer sender code outcomeRefused reasonNotPermitted [] false) .sce))) ∧
      ∀ (kind : OrderKind) (ops : List Byte) (outcome reason : Byte),
        (s.orderSet.getLsbD sender.val = false ∧ outcome = outcomeRefused ∧
            reason = reasonNotPermitted) ∨
          (s.orderSet.getLsbD sender.val = true ∧
              (s.sce.latch.isSome = true ∨ s.sul.restarting = true) ∧ outcome = outcomeBusy ∧
            reason = reasonNone) ∨
          (s.orderSet.getLsbD sender.val = true ∧ s.sce.latch = none ∧ s.sul.restarting = false ∧
            s.sul.station = .configFault ∧ kind ≠ .query ∧ kind ≠ .restart ∧
            outcome = outcomeRefused ∧ reason = reasonConfigFault) ∨
          (s.orderSet.getLsbD sender.val = true ∧ s.sce.latch = none ∧ s.sul.restarting = false ∧
            s.sul.station ≠ .configFault ∧ orderOf kind ops = none ∧
            outcome = outcomeRefused ∧ reason = reasonBadOperand) →
        ∀ u,
          u = s.heard.onBus (·.place (.answer sender kind.code outcome reason [] false) .sce) →
          (kind = .start → Gives (.start peer own ops) s u) ∧
          (kind = .stop → Gives (.stop peer own ops) s u) ∧
          (kind = .stopAll → Gives (.stopAll peer own ops) s u) ∧
          (kind = .setFlag → Gives (.setFlag peer own ops) s u) ∧
          (kind = .hold → Gives (.hold peer own ops) s u) ∧
          (kind = .query → Gives (.query peer own ops) s u) ∧
          (kind = .clearFaults → Gives (.clearFaults peer own ops) s u) ∧
          (kind = .restart → Gives (.restart peer own ops) s u)

/-- R100, R174: the parts of a page, 20 bytes each and in order, are the page; each fits an answer. What the
spec leaves open of the pages is as log entry 20 says. R173: on the identity page the rate in force, and the
version and CRC of the accepted image, are all ones when they are none. -/
def Obligations.QueryPartsMakeThePage : Prop :=
  (∀ (s : State) (page : Nat),
    (∀ part, (s.queryData page part).length ≤ 20) ∧
      ((List.range 8).flatMap (s.queryData page)) = (s.page page).take 160 ∧
      (s.sce.queue.length ≤ 8 → s.nre.a.queue.length ≤ 4 → s.nre.b.queue.length ≤ 4 →
        (s.page page).length ≤ 160)) ∧
  ∀ (s : State) (rate port : Byte) (image : List Byte),
    (s.bus.rate = none → rate = 0xFF#8) → (s.bus.rate = some .r250 → rate = 0#8) →
    (s.bus.rate = some .r500 → rate = 1#8) → (s.bus.rate = some .r1000 → rate = 2#8) →
    (s.cfg = none → image = [0xFF#8, 0xFF#8, 0xFF#8]) →
    (∀ c, s.cfg = some c → image = 1#8 :: bytesOf 2 c.crc.toNat) →
    (s.smp.state = .ready → port = 0#8) → (∀ t b, s.smp.state = .busy t b → port = 1#8) →
    (s.smp.state = .failed → port = 2#8) →
    s.page 20 = [BitVec.ofNat 8 s.sul.number.val, rate] ++ image ++ [port]

/-! ### Lighting and load -/

/-- R105: a fade's value is `s0 + trunc ((t - s0) p / d)`: it starts at the base value, ends on its target,
and lies between them at every count. R107, R109: a blend whose count has reached its duration enters CYCLE on
its table, and a release ramp at 0 ends, as commands of their own (log entry 7); nothing else of the channel
changes, and no other channel. The stages of a frame: R105, R107, R108: counts advance out of hold, and the
base value is that of the course with its cycle value, latched in hold (log entry 35 where none is latched);
R106: the cycle value lies on the table's line at the phase; R109: the hold override; R110: the walk
contribution and the intent; R111: the curve. -/
def Obligations.CoursesOfAChannel : Prop :=
  ((∀ s0 t d : Nat, 0 < d →
      (∀ cyc, (Course.fade s0 t 0 d).value cyc = s0 ∧ (Course.fade s0 t d d).value cyc = t) ∧
      (∀ p cyc, p ≤ d → min s0 t ≤ (Course.fade s0 t p d).value cyc ∧
        (Course.fade s0 t p d).value cyc ≤ max s0 t) ∧
      ∀ p q cyc, p ≤ q → q ≤ d → s0 ≤ t →
        (Course.fade s0 t p d).value cyc ≤ (Course.fade s0 t q d).value cyc) ∧
  ∀ (s : State) (c : Fin 16),
    (∀ (k : Fin 4) (v p d : Nat), (s.channel c).course = .blend k v p d → d ≤ p →
      Gives (.blendEnd c) s (s.tick.onChannel c fun x => { x with course := .cycle k })) ∧
    ((s.channel c).dir = .towardLive → (s.channel c).q = 0 →
      Gives (.overrideRampEnd c) s (s.tick.onChannel c fun x => { x with dir := .none }))) ∧
  (∀ (t : CycleTable) (now : ShowTime) (phase : Nat),
    t.points.Pairwise (fun p q => p.phase < q.phase) → phase = now.toNat % t.period * 65536 / t.period →
    (∀ (i : Nat) (p q : CyclePoint), t.points[i]? = some p → t.points[i + 1]? = some q →
      p.phase ≤ phase → phase < q.phase →
      (tableValue t now : Int) =
        p.level + (((q.level : Int) - p.level) * (phase - p.phase)).tdiv (q.phase - p.phase)) ∧
    ∀ first last : CyclePoint, t.points.head? = some first → t.points.getLast? = some last →
      last.phase ≤ phase → phase < 65536 →
      (tableValue t now : Int) =
        last.level +
          (((first.level : Int) - last.level) * (phase - last.phase)).tdiv (65536 - last.phase)) ∧
  ∀ (x : Channel) (c : ChannelCfg) (cfg : Config) (now : ShowTime) (hold : Bool) (groups : Vector Group 4)
    (y : Channel), y = x.frame c cfg now hold groups →
    (∀ (s0 t p d n : Nat), x.course = .fade s0 t p d → n = (if p < d ∧ hold = false then p + 1 else p) →
      y.course = .fade s0 t n d ∧
        y.v = if d = 0 then t else ((s0 : Int) + (((t : Int) - s0) * n).tdiv d).toNat) ∧
    (∀ (k : Fin 4) (cyc : Nat), x.course.table = some k →
      (hold = true → ∀ l, x.latched = some l → cyc = l) →
      (x.latched = none → cyc = tableValue cfg.tables[k] now) → (hold = false → x.latched = none) →
      (y.latched = if hold = true then some cyc else none) ∧
      (x.course = .cycle k → y.course = .cycle k ∧ y.v = cyc) ∧
      ∀ c0 p d n : Nat, x.course = .blend k c0 p d → n = (if p < d ∧ hold = false then p + 1 else p) →
        (d ≤ n → y.course = .cycle k ∧ y.v = cyc) ∧
        (n < d → y.course = .blend k c0 n d ∧
          y.v = ((c0 : Int) + (((cyc : Int) - c0) * n).tdiv d).toNat)) ∧
    (∀ u : Nat,
      (c.goTo = false → u = y.v) →
      (c.goTo = true → cfg.holdFade = 0 → u = if hold = true then c.holdLevel else y.v) →
      (c.goTo = true → 0 < cfg.holdFade →
        u = ((y.v : Int) + (((c.holdLevel : Int) - y.v) * y.q).tdiv cfg.holdFade).toNat) →
      y.intent = max u y.walk ∧
        y.level = if c.square = true then y.intent * y.intent / 1048576 else y.intent / 16) ∧
    (c.goTo = false ∨ x.dir = .none → y.q = x.q ∧ y.dir = x.dir) ∧
    (c.goTo = true → x.dir = .towardHold → y.q = min (x.q + 1) cfg.holdFade ∧ y.dir = .towardHold) ∧
    (c.goTo = true → x.dir = .towardLive →
      y.q = x.q - 1 ∧ y.dir = if x.q ≤ 1 then .none else .towardLive) ∧
    (c.group = none → y.walk = 0) ∧
    ∀ (g : Fin 4) (goal : Nat), c.group = some g →
      goal = (if (groups[g]).state = .idle then 0 else c.walkLevel) →
      y.walk = if x.walk ≤ goal then min goal (x.walk + c.walkRate) else max goal (x.walk - c.walkRate)

/-- R121: the scale of a frame by the demand D and the lighting allowance A_L of that frame: 4096 when D is at
most A_L, else `floor (A_L * 4096 / D)`. It lies in 0 to 4096, is 4096 when D = 0 and 0 when A_L = 0 and D is
above 0; one scale serves every non-exempt channel, and it has no memory of earlier frames. R112: no output
exceeds its curve level, an exempt one equals it, and an intent of 16 bits keeps the output within 0 to 4095.
-/
def Obligations.ScaleOfAFrame : Prop :=
  ∀ (s : State) (c : Config), s.cfg = some c → ∀ t : State, t = s.lightingFrame →
    (t.lgv.demand ≤ t.lgv.lightingAllowance →
      t.lgv.scale = 4096 ∧
        ∀ k : Fin 16, c.channels[k].exempt = false → (t.channel k).output = (t.channel k).level) ∧
    (t.lgv.lightingAllowance < t.lgv.demand →
      t.lgv.scale = t.lgv.lightingAllowance * 4096 / t.lgv.demand) ∧
    t.lgv.scale ≤ 4096 ∧ (t.lgv.demand = 0 → t.lgv.scale = 4096) ∧
    (t.lgv.lightingAllowance = 0 → 0 < t.lgv.demand → t.lgv.scale = 0) ∧
    (∀ k : Fin 16,
      (t.channel k).output =
          (if c.channels[k].exempt = true then (t.channel k).level
          else (t.channel k).level * t.lgv.scale / 4096) ∧
        (t.channel k).output ≤ (t.channel k).level ∧
        ((t.channel k).intent ≤ 65535 → (t.channel k).output ≤ 4095)) ∧
    ∀ old : Nat, (s.onLgv fun l => { l with scale := old }).lightingFrame.lgv.scale = t.lgv.scale

/-- R120 to R122: in a lighting frame the non-exempt lamps draw no more than the lighting allowance, and the
granted load is what axes reserve, what the exempt lamps may draw, and what the others draw; it stays within
the allowance wherever the first two do. The allowance, the ledger and the line are the frame's to read alone.
-/
def Obligations.GrantedLoadOfAFrame : Prop :=
  ∀ (s : State) (c : Config), s.cfg = some c → ∀ t : State, t = s.lightingFrame →
    t.lgv.lamps ≤ t.lgv.lightingAllowance ∧
      t.lgv.granted = s.lgv.reserved + t.lgv.exempt + t.lgv.lamps ∧
      t.lgv.allowance = s.lgv.allowance ∧ t.lgv.ledger = s.lgv.ledger ∧ t.lgv.line = s.lgv.line ∧
      (s.lgv.reserved + t.lgv.exempt ≤ s.lgv.allowance → t.lgv.granted ≤ s.lgv.allowance)

/-- What a beat does beside the clock's own. R27, R28, R31, R32, R70, R170: the counts of the BBI, of the
requests' patience and of the JOINING interval; R74, R90: scene time of a RUNNING run, and the remaining time
of an await, out of hold; R133, R134, R136: retry wait, claim timer and quiet timer; R152, R155: wait and
guard timers; R49, R55, R58: the inputs' counts and the linger timers, or at the first beat in ACTIVE the
judging of the groups (log entry 44); R161, R163: the sample of the hold line, the release timer, whether it
has reached the delay, and the stuck timer; R39, R41: the ages of the peers; R168: the beats that a transfer
of the port has taken (log entry 47). R104: a PWM period begins, with the outputs of the frame before (log
entry 46). All of them start from what is left when the events that a former beat left due are taken. R103,
R112, R148, R158: then every channel has one lighting frame and every axis one motion period with the pins of
this beat; a settled axis only counts no pulse. The order of these works within the beat, and the flag
`leave`, are the model's (log entry 4), and so are the bounds of the counts (log entry 36). -/
def Obligations.BeatDoesTheShow : Prop :=
  (∀ (s : State) (pins : Pins) (leave : Bool), s.clk.running = true → 24 ≤ s.clk.samples →
    ∀ p u w : State, p = State.takeDue s.tick →
      u = ((p.beatStart pins).beatOutside pins).beatCounts →
      w = State.settle settleFuel u.beatShow →
      exec (.beat pins leave) s = .next (State.finish (if leave then w else w.takeDue)) ∧
        u.pins = pins ∧ u.beats = s.beats + 1 ∧ u.cfg = p.cfg ∧
        u.lte = { p.lte with pwm := vmap (·.output) p.lte.channels } ∧
        (∀ x b, p.smp.state = .busy x b → u.smp = { p.smp with timer := min (p.smp.timer + 1) 3 }) ∧
        ((∀ x b, p.smp.state ≠ .busy x b) → u.smp = p.smp) ∧
        u.ptb = p.ptb.map (Peer.beat p.staleLimit) ∧
        u.bus =
          { p.bus with
            period := p.bus.period.map (· + 1), spacing := p.bus.spacing.map (· - 1)
            learnTimer :=
              if p.bus.rateState = .learning then min (p.bus.learnTimer + 1) 10000
              else p.bus.learnTimer
            trialTimer :=
              if p.bus.rateState = .learning then min (p.bus.trialTimer + 1) 200
              else p.bus.trialTimer } ∧
        u.sul =
          { p.sul with
            joinTimer :=
              if p.sul.station = .joining then p.sul.joinTimer + 1 else p.sul.joinTimer } ∧
        u.sce.queue = (p.sce.queue.map fun q => { q with patience := q.patience - 1 }) ∧
        (∀ i, u.slot i =
          if p.held = false ∧ (p.slot i).state = .running then
            { p.slot i with sceneTime := (p.slot i).sceneTime + 1#32 }
          else if p.held = false ∧ (p.slot i).state = .waiting then
            { p.slot i with
              await := (p.slot i).await.map fun x => { x with remaining := x.remaining - 1 } }
          else p.slot i) ∧
        (∀ v, u.voice v =
          { p.voice v with
            retry := (p.voice v).retry.map (· - 1), claim := (p.voice v).claim.map (· - 1)
            quiet :=
              if p.held = false ∧ ((p.voice v).state = .waitQuiet ∨ (p.voice v).state = .claiming) then
                min ((p.voice v).quiet + 1) 60001
              else (p.voice v).quiet }) ∧
        ∀ c, p.cfg = some c →
          (∀ a : Fin 4, ∀ k, k = c.axes[a] → u.axis a =
            { p.axis a with
              waitTimer :=
                if p.held = false ∧ (p.axis a).state = .waitPower then min ((p.axis a).waitTimer + 1) 60000
                else (p.axis a).waitTimer
              guardTimer :=
                if p.guardActive k.guardMask = true then 0
                else if (p.axis a).guardTimer < k.guardDelay then (p.axis a).guardTimer + 1
                else (p.axis a).guardTimer
              guardClear := decide (k.guardMask = 0#8) || (p.axis a).guardClear }) ∧
          (∀ i : Fin 8, u.viu.inputs[i] =
            (p.viu.inputs[i]).beat c.inputs[i] (pins.vin.getLsbD i.val)
              (decide (p.sul.station = .active))) ∧
          (∀ g : Fin 4,
            ((p.viu.judgeGroups = false ∨ p.sul.station ≠ .active ∨ p.memberActive g = false) →
              u.viu.groups[g] =
                if (p.viu.groups[g]).state = .linger then
                  { state := .linger, timer := (p.viu.groups[g]).timer - 1 }
                else p.viu.groups[g]) ∧
            (p.viu.judgeGroups = true → p.sul.station = .active → p.memberActive g = true →
              (p.viu.groups[g]).state = .idle →
              u.viu.groups[g] = { state := .occupied, timer := 0 } ∧ .groupChanged g ∈ u.agenda ∧
                ∀ n, c.groups[g].arrival = some n → .request n (.presence g) ∈ u.agenda)) ∧
          ∀ (low : Bool) (t : Option Nat), low = (pins.holdOther || p.hld.localHold) →
            t =
              (if low = true ∨ p.held = false then none
              else
                match p.hld.release with
                | none => some 0
                | some n => some (n + 1)) →
            u.hld =
              { p.hld with
                lineLow := low, release := t
                releaseDue :=
                  match t with
                  | none => false
                  | some n => decide (c.releaseDelay ≤ n)
                stuck :=
                  if low = true ∧ p.hld.localHold = false ∧ p.peerHold = false then
                    if p.hld.stuckReported = false ∧ p.hld.stuck < 3 * c.beaconPeriod then
                      p.hld.stuck + 1
                    else p.hld.stuck
                  else 0
                stuckReported :=
                  low && !p.hld.localHold && !p.peerHold && p.hld.stuckReported }) ∧
  ∀ (s : State) (c : Config), s.cfg = some c →
    (∀ k : Fin 16,
      s.beatShow.channel k =
        { (s.channel k).frame c.channels[k] c s.clk.showTime s.held s.viu.groups with
          output :=
            outputOf c.channels[k].exempt
              ((s.channel k).frame c.channels[k] c s.clk.showTime s.held s.viu.groups).level
              s.lightingFrame.lgv.scale }) ∧
    ∀ (a : Fin 4) (y : Axis) (ev : MotionEvent),
      ((s.axis a).state.inMotion = false → s.beatShow.axis a = { s.axis a with pulses := 0 }) ∧
      ((s.axis a).state.inMotion = true → (s.axis a).period a c.axes[a] s.pins = (y, ev) →
        (s.beatShow.axis a).p = y.p ∧ (s.beatShow.axis a).pulses = y.pulses ∧
          (s.beatShow.axis a).plus = y.plus ∧ (s.beatShow.axis a).homed = y.homed ∧
          (ev = .none → s.beatShow.axis a = y) ∧
          (ev = .rest → y.state ≠ .held → s.beatShow.axis a = y) ∧
          (ev = .limit ∨ ev = .notFound →
            s.beatShow.axis a =
                { y with showHold := y.showHold || c.axes[a].faultHolds } ∧
              (c.axes[a].faultHolds = true → s.beatShow.hld.localHold = true)))

/-- R118: the allowance of a recompute lies between the floor and the ceiling of the settings, and moves
toward what the capacity spares. R123 to R125, R152, R153: an examination of the line, out of hold, admits the
front axis when its reservation fits the allowance beside the reserved total and the exempt demand, and leaves
everything as it is when it does not. -/
def Obligations.AllowanceAndAdmission : Prop :=
  (∀ (c : Config) (o g : Nat), c.floor ≤ c.ceiling →
      c.floor ≤ recomputed c o g ∧ recomputed c o g ≤ c.ceiling ∧
        (c.floor ≤ g → g ≤ c.ceiling → o + g ≤ c.capacity → g ≤ recomputed c o g) ∧
        (c.floor ≤ g → g ≤ c.ceiling → c.capacity < o + g → recomputed c o g ≤ g)) ∧
  ∀ (s : State) (c : Config) (a : Fin 4) (rest : List (Fin 4)), s.cfg = some c →
    s.lgv.line = a :: rest →
    (s.held = true → s.examineLine = s) ∧
    (s.lgv.allowance < s.lgv.reserved + c.axes[a].reservation + s.lgv.exempt → s.examineLine = s) ∧
    (s.held = false → s.lgv.reserved + c.axes[a].reservation + s.lgv.exempt ≤ s.lgv.allowance →
      a ∉ rest → (s.axis a).guardClear = true →
      s.examineLine.lgv =
          { s.lgv with
            line := rest
            ledger := s.lgv.ledger ++ [{ axis := a, amount := c.axes[a].reservation }] } ∧
        ((s.axis a).move ≠ some .home → (s.examineLine.axis a).state = .moving) ∧
        ((s.axis a).move = some .home →
          (s.examineLine.axis a).state = .homing ∧ (s.examineLine.axis a).p = 0))

/-! ### Narration -/

/-- R137, R139, R140, R141, R175: a voice burst that completes hands its bytes, those after the data-start
mark A5h, to its voice: a DISCARD burst is dropped, an OUTSTANDING one's samples, two bytes each, enter the
ring at the write place, and the context it was taken from, the current or the next one, counts them as
fetched (R138). What is written to a ring reads back place by place, wrapping from 2047 to 0; every other
place reads as before, and the ring stays in its canonical form (log entry 32). The bytes come with the
command (log entry 8). -/
def Obligations.BurstsEnterTheRing : Prop :=
  (∀ (s : State) (v : Voice) (address count at_ timer : Nat) (retried : Bool) (waiting : List Transfer)
      (sent skipped data : List Byte),
      s.smp =
        { state := .busy { who := .voice v, address := address, count := count, instant := at_ } retried
          waiting := waiting, sent := sent, timer := timer } →
      0xA5#8 ∉ skipped → count ≤ data.length →
      ∀ ready : State,
        ready = { s.tick with smp := { state := .ready, waiting := waiting, sent := sent, timer := 0 } } →
      ∀ smin : List Byte, smin = skipped ++ 0xA5#8 :: data →
      exec (.burstComplete smin) s = .next (State.finish (ready.burstDone v (data.take count))) ∧
        ((s.voice v).burst = .discard → (s.voice v).state = .idle →
          Gives (.burstComplete smin) s
            (ready.setVoice v { s.voice v with burst := .none, burstNext := false })) ∧
        ((s.voice v).burst = .outstanding →
          ∀ (x : VoiceRec) (samples : List Sample) (fetched : Held → Held), x = s.voice v →
            samples = samplesOf (data.take count) →
            (∀ c, fetched c =
              { c with
                toFetch := c.toFetch - samples.length
                fetch := (c.fetch + 2 * samples.length) % 16777216 }) →
            ∃ t, exec (.burstComplete smin) s = .next t ∧
              (t.voice v).ring = ringWrite x.ring x.write samples ∧
              (t.voice v).write = (x.write + samples.length) % 2048 ∧
              (t.voice v).fill = x.fill + samples.length ∧ (t.voice v).read = x.read ∧
              (x.state ≠ .waitQuiet → x.state ≠ .claiming →
                (t.voice v).current = (if x.burstNext then x.current else x.current.map fetched)) ∧
              (x.burstNext = true → (t.voice v).next = x.next.map fetched) ∧
              (x.burstNext = false → x.next ≠ none → (t.voice v).next = x.next)) ∧
        ∀ (hi lo : Byte) (rest : List Byte), samplesOf (hi :: lo :: rest) = (hi ++ lo) :: samplesOf rest) ∧
  ∀ (ring : List (Nat × Sample)) (place : Nat) (xs : List Sample), ringWf ring = true →
    xs.length ≤ 2048 →
    ringWf (ringWrite ring place xs) = true ∧
      (∀ i x, xs[i]? = some x → ringGet (ringWrite ring place xs) ((place + i) % 2048) = x) ∧
      ∀ q, q < 2048 → (∀ i, i < xs.length → (place + i) % 2048 ≠ q) →
        ringGet (ringWrite ring place xs) q = ringGet ring q

/-- R1, R140, R141, R143: a sample period, 24 of them before each beat, advances the divider's second stage
and leaves the rest of the Show Clock, the pins and the beat count as they are. In it each voice has one
sample step, the duck value moves toward the target that voice A gives at the start of the period, the audio
out carries the mix with the values so moved (log entry 31), a PWM period begins at every fourth sample period
with the outputs of the last frame (R104, log entry 46), and no more happens to a voice that neither ends nor
refills: a voice in PLAYING plays the sample at its read place and ramps by 4 toward its goal, or stalls with
0 on an empty ring; one in TAILING falls by 4 for 64 periods; every other state gives 0 and moves nothing; the
ring itself is never changed. The mixed sample is the sum of the voices under their gains, voice B's also
under the duck value, saturated to 16 bits; the duck value moves by 1 toward its target and stays there. The
flag `leave` is the model's (log entry 4). -/
def Obligations.SamplePeriods : Prop :=
  (∀ (s : State) (leave : Bool), s.clk.running = false ∨ 24 ≤ s.clk.samples →
      exec (.samplePeriod leave) s = .next s) ∧
  (∀ (s : State) (leave : Bool), s.clk.running = true → s.clk.samples < 24 →
      ∃ t, exec (.samplePeriod leave) s = .next t ∧
        t.clk = { s.clk with samples := s.clk.samples + 1 } ∧ t.pins = s.pins ∧ t.beats = s.beats ∧
        t.lte.channels = s.lte.channels ∧
        t.lte.pwm =
          if (s.clk.samples + 1) % 4 = 0 then vmap (·.output) s.lte.channels else s.lte.pwm) ∧
  (∀ (s : State) (leave : Bool), s.clk.running = true → s.clk.samples < 24 → s.smp.state ≠ .failed →
      (∀ v, (s.voice v).GoesOn) → (leave = true ∨ ∀ v, (s.voice v).sampleStep.GoesOn) →
      ∃ t, exec (.samplePeriod leave) s = .next t ∧
        (∀ v, ∃ b n, t.voice v = { (s.voice v).sampleStep with burst := b, burstNext := n } ∧
          ((s.voice v).burst ≠ .none → b = (s.voice v).burst ∧ n = (s.voice v).burstNext)) ∧
        (∀ c, s.cfg = some c →
          t.nre.duck =
            duckToward s.nre.duck (if s.nre.a.state = .playing then c.duckLevel else 256)) ∧
        (s.cfg = none → t.nre.duck = duckToward s.nre.duck 256) ∧
        (s.cfg = none ∨ s.sul.station = .reset ∨ s.sul.station = .loading ∨
            s.sul.station = .configFault →
          t.nre.audio = 0#16) ∧
        ∀ c, s.cfg = some c → s.sul.station ≠ .reset → s.sul.station ≠ .loading →
          s.sul.station ≠ .configFault →
          t.nre.audio =
            mix t.nre.a.sample.toInt (t.effectiveGain .a c.gainA) t.nre.b.sample.toInt
              (t.effectiveGain .b c.gainB) t.nre.duck) ∧
  (∀ (s : State) (v : Voice) (gain : Nat),
      ((s.voice v).current = none → s.effectiveGain v gain = 0) ∧
      ∀ h, (s.voice v).current = some h →
        s.effectiveGain v gain = (s.clipOf h.clip).gain * gain * (s.voice v).ramp / 65536) ∧
  (∀ x : VoiceRec,
      (x.state = .playing → 0 < x.fill →
        x.sampleStep =
          { x with
            sample := ringGet x.ring x.read, read := (x.read + 1) % 2048, fill := x.fill - 1
            current := x.current.map fun c => { c with toPlay := c.toPlay - 1 }
            underrun := false, ramp := if x.ramp < x.goal then min (x.ramp + 4) x.goal else x.ramp }) ∧
      (x.state = .playing → x.fill = 0 →
        x.sampleStep =
          { x with
            sample := 0#16, underrun := true
            ramp := if x.ramp < x.goal then min (x.ramp + 4) x.goal else x.ramp }) ∧
      (x.state = .tailing → x.tailCount < 64 →
        x.sampleStep =
          { x with
            sample :=
              if x.tailCount < x.fill ∧ x.tailCount < leftToPlay x.current then
                ringGet x.ring ((x.read + x.tailCount) % 2048)
              else 0#16
            ramp := x.ramp - 4, tailCount := x.tailCount + 1 }) ∧
      (x.state = .tailing → 64 ≤ x.tailCount → x.sampleStep = { x with sample := 0#16 }) ∧
      (x.state ≠ .playing → x.state ≠ .tailing → x.sampleStep = { x with sample := 0#16 })) ∧
  ((∀ (sa ea sb eb : Int) (duck : Nat),
      (mix sa ea sb eb duck).toInt =
        max (-32768) (min 32767 ((sa * ea + (sb * eb * duck).fdiv 256).fdiv 256))) ∧
    ∀ duck target : Nat,
      (duck < target → duckToward duck target = duck + 1) ∧
        (target < duck → duckToward duck target = duck - 1) ∧ duckToward target target = target)

/-- R131, R133, R140, R141: the end of a clip with nothing to follow, and of a stop tail, make the voice IDLE,
which reports the drained clip and then itself idle; a pause tail ends in PAUSED. A clip chained behind the
one that ends takes over at once, at full ramp; without one the voice starts the head of its queue: in PRIMING
for a clip outside earshot, in PRIMING with the air mark GRANTED while the other voice talks, else in
WAIT_QUIET, where it judges the air at once. -/
def Obligations.ClipAndTailEnd : Prop :=
  (∀ (s : State) (v : Voice) (c : Held), (s.voice v).current = some c → (s.voice v).queue = [] →
      (s.voice v).next = none →
      ((s.voice v).state = .playing → c.toPlay = 0 →
        exec (.clipEnd v) s =
          .next (State.finish
            ((s.tick.setVoice v
              { s.voice v with state := .idle, current := none, retry := none, claim := none }).post
              [.drained v, .voiceIdle v s.sce.nextAwait]).syncTalking)) ∧
      ((s.voice v).state = .tailing → 64 ≤ (s.voice v).tailCount →
        ((s.voice v).tailPause = true →
          Gives (.tailEnd v) s (s.tick.setVoice v { s.voice v with state := .paused })) ∧
        ((s.voice v).tailPause = false →
          exec (.tailEnd v) s =
            .next (State.finish
              ((s.tick.setVoice v
                { (s.voice v).empty with state := .idle, retry := none, claim := none }).post
                [.drained v, .voiceIdle v s.sce.nextAwait]).syncTalking)))) ∧
  (∀ (s : State) (v : Voice) (c : Held), (s.voice v).current = some c → (s.voice v).state = .playing →
    c.toPlay = 0 →
    (∀ n, (s.voice v).next = some n →
      exec (.clipEnd v) s =
        .next (State.finish
          ((((s.tick.setVoice v
            { s.voice v with
              current := some n, next := none, boundary := none, goal := 256, ramp := 256
              burstNext := false }).refill v).post [.drained v]).syncTalking))) ∧
    ((s.voice v).next = none →
      exec (.clipEnd v) s =
        .next (State.finish
          ((((s.tick.setVoice v { s.voice v with current := none }).startHead v).post
            [.drained v]).syncTalking)))) ∧
  ∀ (s : State) (v : Voice) (h : Queued) (rest : List Queued) (e : ClipEntry),
    (s.voice v).queue = h :: rest → e = s.clipOf h.clip →
    ∀ air : AirMark,
    ((e.earshot = false ∧ air = .none) ∨
        (e.earshot = true ∧ (s.voice (otherVoice v)).talks = true ∧ air = .granted) →
      1 ≤ e.length → (s.voice v).fill < 512 →
      ∃ b : Burst, ∃ n : Bool, (s.startHead v).voice v =
        { s.voice v with
          state := .priming, queue := rest, ramp := 0, goal := 256, claim := none, retry := none
          burst := b, burstNext := n
          current := some
            { clip := h.clip, owner := h.owner, air := air, fetch := e.address, toFetch := e.length
              toPlay := e.length } }) ∧
    (e.earshot = true → (s.voice (otherVoice v)).talks = false →
      ∀ x : VoiceRec,
        x =
          { s.voice v with
            state := .waitQuiet, queue := rest, quiet := 0, retry := none, claim := none
            current := some
              { clip := h.clip, owner := h.owner, air := .none, fetch := e.address, toFetch := e.length
                toPlay := e.length } } →
        (s.held = true ∨ s.airQuiet = false → s.startHead v = s.setVoice v x) ∧
        (s.held = false → s.airQuiet = true → s.bus.queue.length < 8 →
          s.startHead v =
            (s.setVoice v { x with state := .claiming, claimId := x.claimId + 1 }).onBus
              (·.place (.talk v h.clip (x.claimId + 1)) .nre)) ∧
        (s.held = false → s.airQuiet = true → 8 ≤ s.bus.queue.length →
          s.startHead v = s.setVoice v { x with retry := some s.claimWindow }))

/-- R133, R134, R136: the earshot gate: at the end of its retry wait a voice claims the air when it is quiet,
or waits again when the outbound queue refuses its TALK; a claim window run out grants the claim; past the
quiet limit a must-play clip plays by courtesy and any other is dropped, with QUEUE_DROP. -/
def Obligations.EarshotGateTimers : Prop :=
  ∀ (s : State) (v : Voice) (c : Held), (s.voice v).current = some c →
    ((s.voice v).retry = some 0 → (s.voice v).state = .waitQuiet → s.held = false →
      s.bus.queue.length < 8 →
      (s.airQuiet = true →
        Gives (.retryWaitEnd v) s
          ((s.tick.setVoice v
              { s.voice v with
                state := .claiming, retry := none, claim := none
                claimId := (s.voice v).claimId + 1 }).onBus
            (·.place (.talk v c.clip ((s.voice v).claimId + 1)) .nre))) ∧
      (s.airQuiet = false →
        Gives (.retryWaitEnd v) s (s.tick.setVoice v { s.voice v with retry := none }))) ∧
    ((s.voice v).retry = some 0 → (s.voice v).state = .waitQuiet → s.held = false →
      8 ≤ s.bus.queue.length → s.airQuiet = true →
      Gives (.retryWaitEnd v) s
        (s.tick.setVoice v { s.voice v with retry := some s.claimWindow })) ∧
    ((s.voice v).state = .claiming → (s.voice v).claim = some 0 →
      exec (.claimGranted v) s =
        .next (State.finish
          (((s.tick.setVoice v
            { s.voice v with
              state := .priming, ramp := 0, goal := 256, claim := none, retry := none
              current := some { c with air := .granted } }).refill v).primeTest v).syncTalking)) ∧
    ((s.voice v).state = .waitQuiet ∨ (s.voice v).state = .claiming →
      (s.clipOf c.clip).quietLimit < (s.voice v).quiet →
      ((s.clipOf c.clip).mustPlay = true →
        exec (.quietLimit v) s =
          .next (State.finish
            (((s.tick.setVoice v
              { s.voice v with
                state := .priming, ramp := 0, goal := 64, claim := none, retry := none
                current := some { c with air := .courtesy } }).refill v).primeTest v).syncTalking)) ∧
      ((s.clipOf c.clip).mustPlay = false → (s.voice v).queue = [] →
        exec (.quietLimit v) s =
          .next (State.finish
            (((s.tick.report .queueDrop c.clip.val .quietLimit).setVoice v
              { s.voice v with state := .idle, current := none, retry := none, claim := none }).post
              [.drained v, .voiceIdle v s.sce.nextAwait]).syncTalking)))

/-- R134, R135: a TALK of an earshot-set station of lower number makes every claiming voice wait one claim
window; any of the set heard while this station talks is answered with an early beacon; a TALK from outside
the set, or with a code that names no voice, is ignored. -/
def Obligations.TalkAtTheGate : Prop :=
  ∀ (s : State) (st : Fin 32) (v : Voice) (clip : Byte), s.Receiving → st ≠ s.sul.number →
    (s.earshot.getLsbD st.val = false →
      Gives (.talk (BitVec.ofNat 8 st.val) (voiceCode v) clip) s s.heard) ∧
    (∀ x : Byte, 2 ≤ x.toNat → Gives (.talk (BitVec.ofNat 8 st.val) x clip) s s.heard) ∧
    (s.earshot.getLsbD st.val = true →
      ∀ (waits : VoiceRec → VoiceRec) (u : State),
        (∀ x, waits x =
          if x.state = .claiming ∧ st < s.sul.number then
            { x with state := .waitQuiet, claim := none, retry := some s.claimWindow }
          else x) →
        u = { s.heard with nre := { s.nre with a := waits s.nre.a, b := waits s.nre.b } } →
        Gives (.talk (BitVec.ofNat 8 st.val) (voiceCode v) clip) s
          (if s.nre.talking = true then u.earlyRequest else u))

/-! ### Motion -/

/-- R147 to R150: a motion period of an axis in MOVING, and of the stop of a MOVE, leaves it within its soft
limits when it and its target lie within them; it goes past its target only in a reversal, and arrives
exactly. R153, R154: a limit input active in the direction of travel stops a moving, homing or stopping axis
in FAULT where it stands; homing runs on in its direction, fails past the travel limit, in FAULT and not
homed, and ends at the home switch, homed and IDLE at the home offset. R149: toward its target an axis brakes,
slows to a lower top speed, accelerates or cruises, in this order of test; R150: away from it, it slows in the
old direction, no further than the soft limit. R155, R157: the stop of a HOME slows by the home profile, with
the home switch and the travel limit examined, and ends in HELD with the HOME pending, or, aborted,
in UNHOMED. -/
def Obligations.MotionPeriods : Prop :=
  (∀ (x : Axis) (c : AxisCfg) (t : Int) (pr : Profile), WithinLimits c x.p → WithinLimits c (t * 256) →
      WithinLimits c (x.movingPeriod c t pr).1.p ∧ WithinLimits c (x.stopMovePeriod c t pr).1.p ∧
        (x.p = t * 256 →
          x.movingPeriod c t pr =
            ({ x with state := .idle, v := 0, move := none, stopKind := none }, .rest)) ∧
        (x.p < t * 256 → x.plus = true ∨ x.v = 0 →
          x.p ≤ (x.movingPeriod c t pr).1.p ∧ (x.movingPeriod c t pr).1.p ≤ t * 256) ∧
        (t * 256 < x.p → x.plus = false ∨ x.v = 0 →
          t * 256 ≤ (x.movingPeriod c t pr).1.p ∧ (x.movingPeriod c t pr).1.p ≤ x.p)) ∧
  ∀ (x : Axis) (a : Fin 4) (c : AxisCfg) (pins : Pins),
    (x.state = .homing → limitActive pins a x.plus = true →
      x.period a c pins =
        ({ x with state := .fault, v := 0, move := none, stopKind := none, pulses := 0 }, .limit)) ∧
    (∀ t k, x.state = .moving → x.move = some (.move t k) →
      limitActive pins a (if x.v = 0 ∧ t * 256 ≠ x.p then decide (x.p < t * 256) else x.plus) = true →
      x.period a c pins =
        ({ x with state := .fault, v := 0, move := none, stopKind := none, pulses := 0 }, .limit)) ∧
    (x.state = .stopping → limitActive pins a x.plus = true →
      x.period a c pins =
        ({ x with state := .fault, v := 0, move := none, stopKind := none, pulses := 0 }, .limit)) ∧
    (x.state = .homing → limitActive pins a x.plus = false → homeActive pins a = false →
      ∀ v : Nat,
        v = min (x.v + c.profiles[c.homeProfile].accel) c.profiles[c.homeProfile].vmax →
      ∀ q : Int, q = (if x.plus then x.p + v else x.p - v) →
      ∀ n : Nat, n = (q.fdiv 256 - x.p.fdiv 256).natAbs →
      (q.natAbs ≤ c.travelLimit * 256 →
        x.period a c pins = ({ x with v := v, p := q, pulses := n }, .none)) ∧
      (c.travelLimit * 256 < q.natAbs →
        x.period a c pins =
          ({ x with
              state := .fault, v := 0, p := q, move := none, stopKind := none, homed := false
              pulses := n }, .notFound))) ∧
    (x.state = .homing → limitActive pins a x.plus = false → homeActive pins a = true →
      x.period a c pins =
        ({ x with
            state := .idle, v := 0, move := none, stopKind := none, pulses := 0
            p := c.homeOffset * 256, homed := true }, .rest)) ∧
    (∀ t k, x.state = .moving → x.move = some (.move t k) → limitActive pins a x.travelPlus = false →
      x.period a c pins = { x with pulses := 0 }.movingPeriod c t c.profiles[k]) ∧
    (∀ (t : Int) (pr : Profile) (r : Nat) (toPlus : Bool), r = (t * 256 - x.p).natAbs → r ≠ 0 →
      toPlus = decide (x.p < t * 256) →
      (toPlus = x.plus ∨ x.v = 0 →
        ∀ (v : Nat) (q : Int),
          v =
            (if 2 * pr.accel * r ≤ x.v * x.v then max (x.v - pr.accel) pr.accel
            else if pr.vmax < x.v then max (x.v - pr.accel) pr.vmax
            else if x.v < pr.vmax then min (x.v + pr.accel) pr.vmax
            else x.v) →
          q = (if toPlus = true then x.p + min v r else x.p - min v r) →
          x.movingPeriod c t pr =
            ({ x with plus := toPlus, v := v, p := q, pulses := (q.fdiv 256 - x.p.fdiv 256).natAbs },
              .none)) ∧
      (toPlus ≠ x.plus → 0 < x.v →
        ∀ (v room : Nat) (q : Int), v = x.v - pr.accel →
          room =
            (if x.plus = true then c.softMax * 256 - x.p else x.p - c.softMin * 256).toNat →
          q = (if x.plus = true then x.p + min v room else x.p - min v room) →
          x.movingPeriod c t pr =
            ({ x with
                v := if room < v then 0 else v, p := q
                pulses := (q.fdiv 256 - x.p.fdiv 256).natAbs }, .none))) ∧
    (x.state = .stopping → x.move = some .home → limitActive pins a x.plus = false →
      (homeActive pins a = true →
        x.period a c pins =
          ({ x with
              state := .idle, v := 0, move := none, stopKind := none, pulses := 0
              p := c.homeOffset * 256, homed := true }, .rest)) ∧
      (homeActive pins a = false → ∀ (v n : Nat) (q : Int),
        v = x.v - c.profiles[c.homeProfile].accel → q = (if x.plus then x.p + v else x.p - v) →
        n = (q.fdiv 256 - x.p.fdiv 256).natAbs →
        (c.travelLimit * 256 < q.natAbs →
          x.period a c pins =
            ({ x with
                state := .fault, v := 0, p := q, move := none, stopKind := none, homed := false
                pulses := n }, .notFound)) ∧
        (q.natAbs ≤ c.travelLimit * 256 →
          (0 < v → x.period a c pins = ({ x with v := v, p := q, pulses := n }, .none)) ∧
          (v = 0 → x.stopKind ≠ some .abort →
            x.period a c pins =
              ({ x with state := .held, v := 0, p := q, stopKind := none, pulses := n }, .rest)) ∧
          (v = 0 → x.stopKind = some .abort →
            x.period a c pins =
              ({ x with
                  state := .unhomed, v := 0, p := q, move := none, stopKind := none, pulses := n },
                .rest)))))

/-- R151, R158, TABLE LX: what a MOVE and a HOME do by the state of their axis, in each of its rows. -/
def Obligations.MoveAndHomeByState : Prop :=
  (∀ (s : State) (a : Fin 4) (t : Int) (k : Fin 4),
      ((s.axis a).state = .idle → t * 256 = (s.axis a).p →
        s.moveAxis a t k = s.post [.axisReport a (s.axis a).move.isNone s.sce.nextAwait]) ∧
      ((s.axis a).state = .moving →
        s.moveAxis a t k = s.setAxis a { s.axis a with move := some (.move t k) } ∧
          s.homeAxis a = s.report .axisNotReady a.val) ∧
      ((s.axis a).state = .unhomed ∨ (s.axis a).state = .homing ∨ (s.axis a).state = .fault →
        s.moveAxis a t k = s.report .axisNotReady a.val) ∧
      ((s.axis a).state = .homing → s.homeAxis a = s) ∧
      ((s.axis a).state = .stopping → s.homeAxis a = s.report .axisNotReady a.val) ∧
      ((s.axis a).state = .unhomed ∨ (s.axis a).state = .fault → a ∉ s.lgv.line →
        ((s.homeAxis a).axis a).state = .waitPower ∧ ((s.homeAxis a).axis a).move = some .home ∧
          (s.homeAxis a).lgv.line = s.lgv.line ++ [a]) ∧
      ((s.axis a).state = .idle → t * 256 ≠ (s.axis a).p → (s.axis a).guardClear = true →
        a ∉ s.lgv.line →
        ((s.moveAxis a t k).axis a).state = .waitPower ∧
          ((s.moveAxis a t k).axis a).move = some (.move t k) ∧
          (s.moveAxis a t k).lgv.line = s.lgv.line ++ [a])) ∧
  ∀ (s : State) (a : Fin 4) (t t' : Int) (k k' : Fin 4) (x : Axis), x = s.axis a →
    (x.state = .idle → a ∉ s.lgv.line →
      (s.homeAxis a).axis a =
          { x with
            state := .waitPower, move := some .home, homed := false, waitTimer := 0, v := 0
            stopKind := none } ∧
        (s.homeAxis a).lgv.line = s.lgv.line ++ [a]) ∧
    (x.state = .idle → t * 256 ≠ x.p → x.guardClear = false →
      (s.moveAxis a t k).axis a = { x with state := .held, move := some (.move t k) } ∧
        (s.moveAxis a t k).lgv = s.lgv) ∧
    (x.state = .stopping →
      (x.stopKind = some .holdGuard → x.move = some (.move t' k') →
        s.moveAxis a t k = s.setAxis a { x with move := some (.move t k) }) ∧
      (x.stopKind ≠ some .holdGuard ∨ x.move = some .home → s.moveAxis a t k = s.notReady a)) ∧
    (x.state = .waitPower ∨ x.state = .held →
      (x.move = some (.move t' k') →
        s.moveAxis a t k = s.setAxis a { x with move := some (.move t k) } ∧
          s.homeAxis a = s.setAxis a { x with homed := false, move := some .home }) ∧
      (x.move = some .home →
        s.moveAxis a t k = s.report .axisNotReady a.val ∧ s.homeAxis a = s))

/-- R152, R155 to R157: an axis that has waited for its power wait limit gives up its move with
MOTION_STARVED; a guard whose delay has run counts as clear, and an axis not HELD only takes note of it. A
guard input that goes active stops each axis whose mask names it, in MOVING or HOMING, with its move kept; a
guard input that goes inactive clears at once the guard of each such axis whose delay has run, as one of 0
has, and leaves the others (R59). A HELD axis whose guard is clear resumes out of hold, at the back of the
admission line; an abort stops an axis in motion, and takes its move from one that waits or is held. -/
def Obligations.AxisTimersRunOut : Prop :=
  (∀ (s : State) (a : Fin 4) (c : AxisCfg), s.axisCfg a = some c →
      ((s.axis a).state = .waitPower → c.powerWait ≤ (s.axis a).waitTimer →
        ∀ rest : AxisState, rest = (if (s.axis a).move = some .home then .unhomed else .idle) →
        exec (.motionStarved a) s =
          .next (State.finish
            ((((s.tick.report .motionStarved a.val).setAxis a
              { s.axis a with state := rest, move := none }).post
                [.axisReport a true s.sce.nextAwait]).leaveLine a))) ∧
      ((s.axis a).guardClear = false → s.guardActive c.guardMask = false →
        c.guardDelay ≤ (s.axis a).guardTimer → (s.axis a).state ≠ .held →
        Gives (.guardClear a) s (s.tick.setAxis a { s.axis a with guardClear := true }))) ∧
  (∀ (s : State) (i : Fin 8) (c : InputCfg), s.inputCfg i = some c → c.kind = .guard →
    0 < c.debounce → c.debounce ≤ (s.viu.inputs[i]).stability → (s.viu.inputs[i]).level = false →
    exec (.inputChange i) s =
      .next (State.finish
        ((s.tick.onInput i fun x => { x with level := true, stability := 0 }).guardPresented i true))) ∧
  (∀ (s : State) (i : Fin 8) (c : InputCfg), s.inputCfg i = some c → c.kind = .guard →
    0 < c.debounce → c.debounce ≤ (s.viu.inputs[i]).stability → (s.viu.inputs[i]).level = true →
    exec (.inputChange i) s =
      .next (State.finish
        ((s.tick.onInput i fun x => { x with level := false, stability := 0 }).guardPresented i false))) ∧
  (∀ (s : State) (i : Fin 8) (a : Fin 4) (k : AxisCfg), s.axisCfg a = some k →
    (k.guardMask.getLsbD i.val = false ∨ s.guardActive k.guardMask = true ∨
        (s.axis a).guardTimer < k.guardDelay ∨ (s.axis a).guardClear = true →
      (s.guardPresented i false).axis a = s.axis a) ∧
    (k.guardMask.getLsbD i.val = true → s.guardActive k.guardMask = false →
      k.guardDelay ≤ (s.axis a).guardTimer → (s.axis a).guardClear = false →
      ((s.axis a).state ≠ .held ∨ s.held = true →
        (s.guardPresented i false).axis a = { s.axis a with guardClear := true }) ∧
      ∀ m, (s.axis a).state = .held → s.held = false → (s.axis a).move = some m →
        (s.guardPresented i false).axis a =
            { s.axis a with
              state := .waitPower, waitTimer := 0, v := 0, stopKind := none, guardClear := true } ∧
          a ∈ (s.guardPresented i false).lgv.line)) ∧
  (∀ (s : State) (i : Fin 8) (a : Fin 4) (k : AxisCfg), s.axisCfg a = some k →
    (k.guardMask.getLsbD i.val = true →
      (s.guardPresented i true).axis a =
        (if (s.axis a).state = .moving ∨ (s.axis a).state = .homing then
          { s.axis a with
            state := .stopping, stopKind := some .holdGuard, guardTimer := 0, guardClear := false }
        else { s.axis a with guardTimer := 0, guardClear := false })) ∧
    (k.guardMask.getLsbD i.val = false → (s.guardPresented i true).axis a = s.axis a)) ∧
  ∀ (s : State) (a : Fin 4) (x : Axis), x = s.axis a →
    (x.state ≠ .held ∨ s.held = true ∨ x.guardClear = false → s.resume a = s) ∧
    (∀ m, x.state = .held → x.move = some m → s.held = false → x.guardClear = true →
      (s.resume a).axis a =
          { x with state := .waitPower, waitTimer := 0, v := 0, stopKind := none } ∧
        (s.resume a).lgv.line = s.lgv.line.filter (fun b => decide (b ≠ a)) ++ [a]) ∧
    (x.state = .moving ∨ x.state = .homing ∨ x.state = .stopping →
      (s.abortAxis a).axis a = { x with state := .stopping, stopKind := some .abort } ∧
        (s.abortAxis a).lgv = s.lgv) ∧
    (x.state = .waitPower ∨ x.state = .held →
      (s.abortAxis a).axis a =
          { x with state := if x.move = some .home then .unhomed else .idle, move := none } ∧
        (x.state = .waitPower → a ∉ (s.abortAxis a).lgv.line)) ∧
    (x.state = .unhomed ∨ x.state = .idle ∨ x.state = .fault → s.abortAxis a = s)

/-! ### Hold and faults -/

/-- R160, R161: local hold is on under accepted settings while a hold key, the order or an axis holds the
show; its change raises an early request. The release timer starts at 0 at the first high sample in hold,
rises by 1 at each later one, and stops at a low one. -/
def Obligations.LocalHoldAndReleaseTimer : Prop :=
  (∀ s : State,
    (s.syncLocalHold).hld.localHold =
        (s.cfg.isSome && (s.keyHold || s.hld.orderHold || s.showHold)) ∧
      (s.localSources = s.hld.localHold → s.syncLocalHold = s) ∧
      (s.localSources ≠ s.hld.localHold →
        s.syncLocalHold =
          ({ s with hld := { s.hld with localHold := s.localSources } }).earlyRequest)) ∧
  (∀ hold t, releaseNext true hold t = none) ∧ releaseNext false true none = some 0 ∧
    (∀ n, releaseNext false true (some n) = some (n + 1)) ∧ ∀ t, releaseNext false false t = none

/-- R108, R109, R142, R155, R161, R162: hold comes into effect: a CYCLE or BLEND channel keeps its cycle
value, a GO_TO channel ramps toward hold, a PLAYING voice goes into a pause tail, and an axis in motion stops
with its move kept. R163: the stuck line is reported once, at three beacon periods, or past them where a new
image has lowered the limit (log entry 40). Hold goes out of effect when the release timer has reached the
delay at a sample of the line, and not before: channels let go their cycle values and ramp back; each slot is
tested and its cues executed, the admission line examined and the queue served, by the signals that then wait
(log entry 5); HELD axes with a clear guard wait for power again; a paused voice and one in a pause tail play
on, a primed one starts, and one that waits for the air judges it. -/
def Obligations.HoldBeginsAndEnds : Prop :=
  ((∀ s : State,
        (s.cfg.isSome = true → s.hld.lineLow = true → s.hld.inEffect = false →
          exec .holdBegins s = .next (State.finish s.tick.beginHold) ∧
            s.beginHold.hld = { s.hld with inEffect := true, release := none, releaseDue := false } ∧
            (∀ c : Fin 16, (s.channel c).course.table.isSome = true →
              (s.beginHold.channel c).latched = (s.channel c).cyc) ∧
            (∀ c : Fin 16, (s.beginHold.channel c).dir =
              if (goTos s.cfg)[c] = true then .towardHold else (s.channel c).dir) ∧
            (∀ a : Fin 4, (s.axis a).state = .moving ∨ (s.axis a).state = .homing →
              (s.beginHold.axis a).state = .stopping ∧ (s.beginHold.axis a).move = (s.axis a).move ∧
                (s.beginHold.axis a).stopKind = some .holdGuard) ∧
            ∀ v : Voice, (s.voice v).state = .playing →
              (s.beginHold.voice v).state = .tailing ∧ (s.beginHold.voice v).tailPause = true) ∧
        (s.cfg.isSome = true → s.hld.stuckReported = false → 0 < s.hld.stuck →
          3 * s.beaconPeriod ≤ s.hld.stuck →
          Gives .holdLineStuck s
            (({ s.tick with hld := { s.hld with stuckReported := true } }).report .holdLineStuck
              s.sul.number.val))) ∧
    ∀ s : State,
      (s.hld.releaseDue = false ∨ s.hld.inEffect = false → exec .holdEnd s = .next s) ∧
      (s.hld.inEffect = true → s.hld.releaseDue = true →
        exec .holdEnd s = .next (State.finish s.tick.endHold) ∧
          s.endHold.hld = { s.hld with inEffect := false, release := none, releaseDue := false } ∧
          (∀ k : Fin 16, (s.endHold.channel k).latched = none) ∧
          ∀ c, s.cfg = some c → ∀ k : Fin 16, (s.endHold.channel k).dir =
            if c.channels[k].goTo = true then .towardLive else (s.channel k).dir)) ∧
  ∀ s : State,
    (∀ i, .slotTest i ∈ s.endHold.agenda ∧ .runCues i ∈ s.endHold.agenda) ∧
    .examine ∈ s.endHold.agenda ∧ .serve ∈ s.endHold.agenda ∧
    (∀ a m, (s.axis a).state = .held → (s.axis a).guardClear = true → (s.axis a).move = some m →
      (s.endHold.axis a).state = .waitPower ∧ (s.endHold.axis a).move = some m ∧
        (s.endHold.axis a).waitTimer = 0 ∧ a ∈ s.endHold.lgv.line) ∧
    ∀ v : Voice,
      ((s.voice v).state = .paused →
        (s.endHold.voice v).state = .playing ∧ (s.endHold.voice v).ramp = 0 ∧
          (s.endHold.voice v).goal = (s.voice v).airGoal) ∧
      ((s.voice v).state = .tailing → (s.voice v).tailPause = true →
        (s.endHold.voice v).state = .playing ∧ (s.endHold.voice v).ramp = (s.voice v).ramp ∧
          (s.endHold.voice v).goal = (s.voice v).airGoal) ∧
      ((s.voice v).state = .priming →
        512 ≤ (s.voice v).fill ∨ leftToFetch (s.voice v).current = 0 →
        (s.endHold.voice v).state = .playing ∧ (s.endHold.voice v).ramp = (s.voice v).goal) ∧
      ((s.voice v).state = .waitQuiet → (s.voice v).retry = none → (s.voice v).current ≠ none →
        s.airQuiet = true → s.bus.queue.length < 7 →
        s.nre.talking = (s.nre.a.talks || s.nre.b.talks) → (s.endHold.voice v).state = .claiming)

/-- R164: a report of a key that the fault list holds merges into its entry; a new one joins the back of a
list of fewer than 16; a full list only marks its overflow. A sound list stays sound. -/
def Obligations.FaultReports : Prop :=
  ∀ (l : FaultList) (key : FaultKey) (now : ShowTime),
    ((∃ e ∈ l.entries, e.key = key) →
      l.report key now =
        { l with
          entries := l.entries.map fun e =>
            if e.key = key then { e with last := now, count := min (e.count + 1) 255 } else e }) ∧
    ((∀ e ∈ l.entries, e.key ≠ key) → l.entries.length < 16 →
      l.report key now =
        { l with
          entries := l.entries ++ [{ key := key, first := now, last := now, count := 1 }] }) ∧
    ((∀ e ∈ l.entries, e.key ≠ key) → 16 ≤ l.entries.length →
      l.report key now = { l with overflow := true }) ∧
    (l.Sound → (l.report key now).Sound)

/-! ### Show memory, start-up, restart -/

/-- R167: the arbiter chooses a waiting request that no other precedes: the loader before voices, voices
before scene reads; of two voices the one of lower fill, A when equal; of two scene reads the earlier, the
lower slot at one instant. R166, R175: in READY with requests waiting the chosen one makes the port BUSY, and
the byte 03h and the three address bytes go out on SMOUT. R168: the first timeout of a transfer is reported
and the transfer sent again; the second makes the port FAILED, and the transfer and every waiting request
fail. Its 2 ms are two beats after the address was sent, and the timer stops past them (log entry 47): at any
other count, and with no transfer, neither command does anything. -/
def Obligations.PortArbiterAndTimeouts : Prop :=
  (∀ (s : State) (ts : List Transfer),
      (ts ≠ [] → ∃ t, s.choice ts = some t) ∧
      ∀ t, s.choice ts = some t → t ∈ ts ∧
        ∀ u ∈ ts,
          (u.who = .loader → t.who = .loader) ∧
          (∀ v, u.who = .voice v → ∀ i r k, t.who ≠ .scene i r k) ∧
          (∀ v w, u.who = .voice v → t.who = .voice w → (s.voice w).fill ≤ (s.voice v).fill) ∧
          (u.who = .voice .a → t.who = .voice .b → s.nre.b.fill < s.nre.a.fill) ∧
          (∀ i r k j r' k', u.who = .scene i r k → t.who = .scene j r' k' →
            t.instant < u.instant ∨ (t.instant = u.instant ∧ j ≤ i))) ∧
  (∀ s : State, s.smp.state = .ready →
      (s.smp.waiting = [] → s.arbitrate = s) ∧
      ∀ t, s.choice s.smp.waiting = some t →
        s.arbitrate.smp =
          { state := .busy t false, waiting := s.smp.waiting.erase t
            sent := [0x03#8, BitVec.ofNat 8 (t.address / 65536), BitVec.ofNat 8 (t.address / 256),
              BitVec.ofNat 8 t.address]
            timer := 0 }) ∧
  (∀ s : State, s.smp.timer ≠ 2 ∨ (∀ t retried, s.smp.state ≠ .busy t retried) →
    exec .showMemoryTimeout s = .next s ∧ exec .showMemoryFailed s = .next s) ∧
  ∀ (s : State) (t : Transfer) (waiting : List Transfer) (sent : List Byte),
    (s.smp = { state := .busy t false, waiting := waiting, sent := sent, timer := 2 } →
      Gives .showMemoryTimeout s
        (({ s.tick with
            smp :=
              { state := .busy t true, waiting := waiting, sent := readCommand t.address
                timer := 0 } }).report
          .showMemoryTimeout s.sul.number.val)) ∧
    (s.smp = { state := .busy t true, waiting := waiting, sent := sent, timer := 2 } →
      exec .showMemoryFailed s =
        .next (State.finish
          ((({ s.tick with smp := { state := .failed, waiting := [], sent := sent, timer := 0 } }).report
            .showMemoryFailed s.sul.number.val).post ((t :: waiting).map Transfer.failure))))

/-- R169, R171: the checks of the image header: a wrong signature is CONFIG_CRC, a wrong version or length is
CONFIG_RANGE, and each leads to CONFIG_FAULT; a good header is followed by the 658 bytes of the body. R54,
R58, R159, R170: the end of the JOINING interval makes the station ACTIVE: the opening scene is requested,
each axis set to home itself that is UNHOMED or in FAULT stands in WAIT_POWER with its HOME and joins the
admission line, in axis order (log entry 37), held timers start, and the first beat judges the presence
groups. The bytes come with the command (log entry 8). -/
def Obligations.StartUp : Prop :=
  (∀ (s : State) (address at_ timer : Nat) (retried : Bool) (sent skipped head : List Byte),
      s.smp =
        { state := .busy { who := .loader, address := address, count := 16, instant := at_ } retried
          waiting := [], sent := sent, timer := timer } →
      0xA5#8 ∉ skipped → head.length = 16 → s.sul.phase = .header →
      ∀ ready : State,
        ready = { s.tick with smp := { state := .ready, waiting := [], sent := sent, timer := 0 } } →
      ∀ smin : List Byte, smin = skipped ++ 0xA5#8 :: head →
      (head.take 4 ≠ [0x44#8, 0x5A#8, 0x43#8, 0x49#8] →
        exec (.loadTransferComplete smin) s =
          .next (State.finish ((ready.report .configCrc s.sul.number.val).enterFault))) ∧
      (head.take 4 = [0x44#8, 0x5A#8, 0x43#8, 0x49#8] →
        (field head 4 2 ≠ 1 ∨ field head 6 4 ≠ 674) →
        exec (.loadTransferComplete smin) s =
          .next (State.finish ((ready.report .configRange s.sul.number.val).enterFault))) ∧
      (head.take 4 = [0x44#8, 0x5A#8, 0x43#8, 0x49#8] → field head 4 2 = 1 → field head 6 4 = 674 →
        ∃ t, exec (.loadTransferComplete smin) s = .next t ∧
          t.sul = { s.sul with phase := .body (BitVec.ofNat 16 (field head 10 2)) } ∧
          t.smp =
            { state :=
                .busy { who := .loader, address := 16, count := 658, instant := s.instant + 1 } false
              waiting := [], sent := [0x03#8, 0x00#8, 0x00#8, 0x10#8], timer := 0 } ∧
          SameAtEnd { s.tick with sul := t.sul } t)) ∧
  ∀ s : State, s.sul.station = .joining → s.staleLimit ≤ s.sul.joinTimer →
    exec .joiningIntervalEnd s = .next (State.finish s.tick.enterActive) ∧
      s.enterActive.sul = { s.sul with station := .active } ∧ s.enterActive.viu.judgeGroups = true ∧
      (∀ (c : Config) (home : Fin 4 → Bool), s.cfg = some c →
        (∀ a : Fin 4, home a = true ↔
          c.axes[a].autoHome = true ∧ ((s.axis a).state = .unhomed ∨ (s.axis a).state = .fault)) →
        (∀ a : Fin 4, home a = true → a ∉ s.lgv.line) →
        s.enterActive.lgv = { s.lgv with line := s.lgv.line ++ [0, 1, 2, 3].filter home } ∧
          ∀ a : Fin 4, s.enterActive.axis a =
            if home a = true then
              { s.axis a with
                state := .waitPower, move := some .home, waitTimer := 0, v := 0, stopKind := none }
            else s.axis a) ∧
      ∀ c, s.cfg = some c → (∀ a : Fin 4, c.axes[a].autoHome = false) →
        exec .joiningIntervalEnd s =
          .next (State.finish
            { s.tick with
              sul := { s.sul with station := .active }
              viu :=
                { s.viu with
                  judgeGroups := true
                  inputs := vmap (fun x => { x with held := 0 }) s.viu.inputs }
              agenda :=
                match c.opening with
                | some n => [.request n .opening, .serve]
                | none => [.serve] })

/-- R169, checks 1, 3 and 4, R175, R176: a body whose CRC is not the header's is CONFIG_CRC; one with a
setting out of its range, or a directory entry that breaks its chapter's requirements, is CONFIG_RANGE; what
passes leads to the next transfer, and past the last of them the image is accepted. R6, R41, R48, R114, R115,
R117, R129, R147, R148, R159, R160, R170: at the acceptance every block takes its settings: stale entries
outside the new feeder group go, an input of another kind, polarity or debounce starts anew, the allowance is
the floor until the first recompute, which entry to JOINING brings at once (log entry 28), every axis driver
is enabled and an axis outside its new limits is unhomed, its guard is judged by the new settings (R155, log
entry 43), channels begin their initial or restart courses; the clock and its debt stand. A directory of count
0 is passed over (log entry 41). The settings stand in the body at the offsets of R175, and pass check 3 as
the chapters and R176 ask. R63, R129: a scene's priority and cue count are judged only where it is present,
its claims byte and every clip entry always, and an input of kind UNUSED no further (log entry 26); bits that
R175 neither names nor marks zero fail no check (log entry 42). -/
def Obligations.ImageAccepted : Prop :=
  (∀ (s : State) (address count at_ timer : Nat) (retried : Bool) (sent skipped data : List Byte),
    s.smp =
      { state := .busy { who := .loader, address := address, count := count, instant := at_ } retried
        waiting := [], sent := sent, timer := timer } →
    0xA5#8 ∉ skipped → data.length = count →
    ∀ ready : State,
      ready = { s.tick with smp := { state := .ready, waiting := [], sent := sent, timer := 0 } } →
    ∀ smin : List Byte, smin = skipped ++ 0xA5#8 :: data →
    (∀ crc, s.sul.phase = .body crc →
      (crc16 data ≠ crc →
        exec (.loadTransferComplete smin) s =
          .next (State.finish ((ready.report .configCrc s.sul.number.val).enterFault))) ∧
      (crc16 data = crc → bodyOk data = false →
        exec (.loadTransferComplete smin) s =
          .next (State.finish ((ready.report .configRange s.sul.number.val).enterFault))) ∧
      (crc16 data = crc → bodyOk data = true → ∀ c : Config, c = readBody crc data →
        (c.clipCount ≠ 0 →
          exec (.loadTransferComplete smin) s =
            .next (State.finish (ready.loadAsk (.clips c) c.clipAddress (11 * c.clipCount)))) ∧
        (c.clipCount = 0 → c.sceneCount ≠ 0 →
          exec (.loadTransferComplete smin) s =
            .next (State.finish (ready.loadAsk (.scenes c) c.sceneAddress (11 * c.sceneCount)))) ∧
        (c.clipCount = 0 → c.sceneCount = 0 →
          exec (.loadTransferComplete smin) s = .next (State.finish (ready.accept c))))) ∧
    (∀ c clips, s.sul.phase = .clips c → clips = (entriesOf c.clipCount data).map readClip →
      ((∃ e ∈ clips, 256 < e.gain ∨ 60000 < e.quietLimit) →
        exec (.loadTransferComplete smin) s =
          .next (State.finish ((ready.report .configRange s.sul.number.val).enterFault))) ∧
      ((∀ e ∈ clips, e.gain ≤ 256 ∧ e.quietLimit ≤ 60000) → c.sceneCount ≠ 0 →
        exec (.loadTransferComplete smin) s =
          .next (State.finish
            (ready.loadAsk (.scenes { c with clips := clips }) c.sceneAddress (11 * c.sceneCount)))) ∧
      ((∀ e ∈ clips, e.gain ≤ 256 ∧ e.quietLimit ≤ 60000) → c.sceneCount = 0 →
        exec (.loadTransferComplete smin) s =
          .next (State.finish (ready.accept { c with clips := clips })))) ∧
    ∀ c entries, s.sul.phase = .scenes c → entries = entriesOf c.sceneCount data →
      ((∃ e ∈ entries, 64 ≤ field e 5 1 ∨
          (field e 0 1 % 2 = 1 ∧ (3 < field e 4 1 ∨ field e 10 1 < 1 ∨ 64 < field e 10 1))) →
        exec (.loadTransferComplete smin) s =
          .next (State.finish ((ready.report .configRange s.sul.number.val).enterFault))) ∧
      ((∀ e ∈ entries, field e 5 1 < 64 ∧
          (field e 0 1 % 2 = 1 → field e 4 1 ≤ 3 ∧ 1 ≤ field e 10 1 ∧ field e 10 1 ≤ 64)) →
        exec (.loadTransferComplete smin) s =
          .next (State.finish (ready.accept { c with scenes := entries.map readScene })))) ∧
  (∀ (b : List Byte) (u : Nat → Nat → Nat) (i : Nat → Nat → Int),
    (∀ o n, u o n = field b (o - 16) n) → (∀ o n, i o n = fieldInt b (o - 16) n) →
    (bodyOk b = true ↔
      u 16 1 ≤ 3 ∧ u 17 1 ≤ 2 ∧ 100 ≤ u 18 2 ∧ u 18 2 ≤ 1000 ∧ 300 ≤ u 20 2 ∧ u 20 2 ≤ 5000 ∧
      2 * u 18 2 ≤ u 20 2 ∧ 10 ≤ u 22 1 ∧ u 22 1 ≤ 100 ∧
      50 ≤ u 28 2 ∧ u 28 2 ≤ 1000 ∧
      10 ≤ u 34 1 ∧ u 34 1 ≤ 200 ∧ u 35 2 ≤ 256 ∧ u 37 2 ≤ 256 ∧ u 39 2 ≤ 256 ∧ u 44 2 ≤ 256 ∧
      u 41 3 + 11 * u 44 2 ≤ 16777216 ∧
      u 52 2 ≤ u 54 2 ∧ 1 ≤ u 56 1 ∧ u 56 1 ≤ 16 ∧
      u 61 2 ≤ 10000 ∧
      (∀ k < 8, u (64 + 4 * k) 1 ≤ u (65 + 4 * k) 1 ∧
        -63 ≤ i (66 + 4 * k) 1 ∧ i (66 + 4 * k) 1 ≤ 63) ∧
      u 95 2 ≤ 5000 ∧ u 97 2 ≤ 5000 ∧ u 99 2 ≤ 10000 ∧
      (u 101 1 ≤ 63 ∨ u 101 1 = 255) ∧ u 105 1 ≤ 64 ∧ u 102 3 + 11 * u 105 1 ≤ 16777216 ∧
      (∀ k < 16, u (106 + 12 * k) 2 ≤ 2000 ∧
        (u (111 + 12 * k) 1 ≤ 3 ∨ u (111 + 12 * k) 1 = 255) ∧ 1 ≤ u (114 + 12 * k) 2) ∧
      (∀ k < 4, 1000 ≤ u (298 + 37 * k) 4 ∧ u (298 + 37 * k) 4 ≤ 16000000 ∧
        2 ≤ u (302 + 37 * k) 1 ∧ u (302 + 37 * k) 1 ≤ 8 ∧ u (303 + 37 * k) 2 = 0 ∧
        ∀ j, j + 1 < u (302 + 37 * k) 1 →
          u (303 + 37 * k + 4 * j) 2 < u (303 + 37 * k + 4 * (j + 1)) 2) ∧
      (∀ k < 4, i (446 + 38 * k) 3 ≤ i (449 + 38 * k) 3 ∧ u (452 + 38 * k) 1 ≤ 1 ∧
        i (446 + 38 * k) 3 ≤ i (453 + 38 * k) 3 ∧ i (453 + 38 * k) 3 ≤ i (449 + 38 * k) 3 ∧
        u (456 + 38 * k) 1 ≤ 3 ∧ 1 ≤ u (457 + 38 * k) 3 ∧ u (457 + 38 * k) 3 ≤ 8388543 ∧
        (∀ j < 4, 1 ≤ u (460 + 38 * k + 4 * j) 2 ∧ u (460 + 38 * k + 4 * j) 2 ≤ 16384 ∧
          1 ≤ u (462 + 38 * k + 4 * j) 2 ∧ u (462 + 38 * k + 4 * j) 2 ≤ 4096) ∧
        u (476 + 38 * k) 2 ≤ 2000 ∧ u (479 + 38 * k) 2 ≤ 10000 ∧
        1 ≤ u (481 + 38 * k) 2 ∧ u (481 + 38 * k) 2 ≤ 60000) ∧
      (∀ k < 8, u (598 + 8 * k) 1 ≤ 4 ∧
        (u (598 + 8 * k) 1 < 4 → u (599 + 8 * k) 1 ≤ 1 ∧ 1 ≤ u (600 + 8 * k) 1) ∧
        (u (598 + 8 * k) 1 = 0 →
          (u (601 + 8 * k) 1 ≤ 63 ∨ u (601 + 8 * k) 1 = 255) ∧
          (u (602 + 8 * k) 2 ≤ 255 ∨ u (602 + 8 * k) 2 = 65535) ∧ 1 ≤ u (604 + 8 * k) 1) ∧
        (u (598 + 8 * k) 1 = 1 → u (605 + 8 * k) 1 ≤ 3)) ∧
      ∀ k < 4, u (662 + 3 * k) 2 ≤ 60000 ∧ (u (664 + 3 * k) 1 ≤ 63 ∨ u (664 + 3 * k) 1 = 255)) ∧
    ∀ (crc : BitVec 16) (c : Config), bodyOk b = true → c = readBody crc b →
      c.crc = crc ∧ c.clips = [] ∧ c.scenes = [] ∧
      (u 16 1 = 3 → c.rate = none) ∧
      (∀ p ∈ [(0, Rate.r250), (1, Rate.r500), (2, Rate.r1000)],
        (u 16 1 = p.1 → c.rate = some p.2) ∧ (u 17 1 = p.1 → c.fallback = p.2)) ∧
      c.beaconPeriod = u 18 2 ∧ c.staleLimit = u 20 2 ∧ c.earlySpacing = u 22 1 ∧
      c.clockGroup = BitVec.ofNat 32 (u 24 4) ∧ c.stepLimit = u 28 2 ∧
      c.earshot = BitVec.ofNat 32 (u 30 4) ∧ c.claimWindow = u 34 1 ∧ c.gainA = u 35 2 ∧
      c.gainB = u 37 2 ∧ c.duckLevel = u 39 2 ∧ c.clipAddress = u 41 3 ∧ c.clipCount = u 44 2 ∧
      c.feeder = BitVec.ofNat 32 (u 46 4) ∧ c.capacity = u 50 2 ∧ c.floor = u 52 2 ∧
      c.ceiling = u 54 2 ∧ c.gain = u 56 1 ∧
      c.orderSet = BitVec.ofNat 32 (u 57 4) ∧ c.lateLimit = u 61 2 ∧
      (∀ k : Fin 8,
        (c.windows[k].enabled = true ↔ u (63 + 4 * k) 1 / 128 % 2 = 1) ∧
        (c.windows[k].origin = none ↔ u (63 + 4 * k) 1 / 64 % 2 = 1) ∧
        (∀ st, c.windows[k].origin = some st → st.val = u (63 + 4 * k) 1 % 32) ∧
        c.windows[k].low = u (64 + 4 * k) 1 ∧ c.windows[k].high = u (65 + 4 * k) 1 ∧
        c.windows[k].offset = i (66 + 4 * k) 1) ∧
      c.releaseDelay = u 95 2 ∧ c.holdFade = u 97 2 ∧ c.restartFade = u 99 2 ∧
      (c.opening = none ↔ u 101 1 = 255) ∧ (∀ n, c.opening = some n → n.val = u 101 1) ∧
      c.sceneAddress = u 102 3 ∧ c.sceneCount = u 105 1 ∧
      (∀ (k : Fin 16) (mode : Nat), mode = u (108 + 12 * k) 1 →
        c.channels[k].load = u (106 + 12 * k) 2 ∧
        (c.channels[k].square = true ↔ mode % 2 = 1) ∧
        (c.channels[k].exempt = true ↔ mode / 2 % 2 = 1) ∧
        (c.channels[k].goTo = true ↔ mode / 4 % 2 = 1) ∧
        (c.channels[k].initialTable = none ↔ mode / 8 % 2 = 0) ∧
        (∀ n, c.channels[k].initialTable = some n → n.val = mode / 16 % 4) ∧
        c.channels[k].holdLevel = u (109 + 12 * k) 2 ∧
        (c.channels[k].group = none ↔ u (111 + 12 * k) 1 = 255) ∧
        (∀ g, c.channels[k].group = some g → g.val = u (111 + 12 * k) 1) ∧
        c.channels[k].walkLevel = u (112 + 12 * k) 2 ∧ c.channels[k].walkRate = u (114 + 12 * k) 2 ∧
        c.channels[k].powerUp = u (116 + 12 * k) 2) ∧
      (∀ k : Fin 4, c.tables[k].period = u (298 + 37 * k) 4 ∧
        c.tables[k].points.length = u (302 + 37 * k) 1 ∧
        ∀ j p, c.tables[k].points[j]? = some p →
          p.phase = u (303 + 37 * k + 4 * j) 2 ∧ p.level = u (305 + 37 * k + 4 * j) 2) ∧
      (∀ k : Fin 4, c.axes[k].softMin = i (446 + 38 * k) 3 ∧ c.axes[k].softMax = i (449 + 38 * k) 3 ∧
        (c.axes[k].homePlus = true ↔ u (452 + 38 * k) 1 = 0) ∧
        c.axes[k].homeOffset = i (453 + 38 * k) 3 ∧ c.axes[k].homeProfile.val = u (456 + 38 * k) 1 ∧
        c.axes[k].travelLimit = u (457 + 38 * k) 3 ∧
        (∀ j : Fin 4, (c.axes[k].profiles[j]).vmax = u (460 + 38 * k + 4 * j) 2 ∧
          (c.axes[k].profiles[j]).accel = u (462 + 38 * k + 4 * j) 2) ∧
        c.axes[k].reservation = u (476 + 38 * k) 2 ∧
        c.axes[k].guardMask = BitVec.ofNat 8 (u (478 + 38 * k) 1) ∧
        c.axes[k].guardDelay = u (479 + 38 * k) 2 ∧ c.axes[k].powerWait = u (481 + 38 * k) 2 ∧
        (c.axes[k].autoHome = true ↔ u (483 + 38 * k) 1 % 2 = 1) ∧
        (c.axes[k].faultHolds = true ↔ u (483 + 38 * k) 1 / 2 % 2 = 1)) ∧
      (∀ k : Fin 8,
        (∀ p ∈ [(0, InputKind.button), (1, InputKind.presence), (2, InputKind.guard),
            (3, InputKind.holdKey), (4, InputKind.unused)],
          u (598 + 8 * k) 1 = p.1 → c.inputs[k].kind = p.2) ∧
        (c.inputs[k].activeLow = true ↔ u (599 + 8 * k) 1 = 1) ∧
        c.inputs[k].debounce = u (600 + 8 * k) 1 ∧ c.inputs[k].stuckLimit = u (604 + 8 * k) 1 ∧
        (c.inputs[k].kind = .button →
          (c.inputs[k].localScene = none ↔ u (601 + 8 * k) 1 = 255) ∧
          (∀ n, c.inputs[k].localScene = some n → n.val = u (601 + 8 * k) 1) ∧
          (c.inputs[k].cue = none ↔ u (602 + 8 * k) 2 = 65535) ∧
          ∀ n, c.inputs[k].cue = some n → n.toNat = u (602 + 8 * k) 2) ∧
        (c.inputs[k].kind = .presence → c.inputs[k].group.val = u (605 + 8 * k) 1)) ∧
      ∀ k : Fin 4, c.groups[k].linger = u (662 + 3 * k) 2 ∧
        (c.groups[k].arrival = none ↔ u (664 + 3 * k) 1 = 255) ∧
        ∀ n, c.groups[k].arrival = some n → n.val = u (664 + 3 * k) 1) ∧
  (∀ (e : List Byte) (x : ClipEntry) (y : SceneEntry), x = readClip e → y = readScene e →
    x.address = field e 0 3 ∧ x.length = field e 3 3 ∧ x.gain = field e 6 2 ∧
      (x.present = true ↔ field e 8 1 % 2 = 1) ∧ (x.earshot = true ↔ field e 8 1 / 2 % 2 = 1) ∧
      (x.mustPlay = true ↔ field e 8 1 / 4 % 2 = 1) ∧ x.quietLimit = field e 9 2 ∧
      (y.present = true ↔ field e 0 1 % 2 = 1) ∧ (y.loop = true ↔ field e 0 1 / 2 % 2 = 1) ∧
      y.address = field e 1 3 ∧ (field e 4 1 ≤ 3 → y.priority.val = field e 4 1) ∧
      y.claims = BitVec.ofNat 6 (field e 5 1) ∧ y.lockout = field e 6 2 ∧
      y.patience = field e 8 2 ∧ y.cueCount = field e 10 1) ∧
  (∀ (n k : Nat) (data : List Byte),
    (entriesOf n data)[k]? = if k < n then some ((data.drop (11 * k)).take 11) else none) ∧
  ∀ (s t : State) (c : Config), t = s.accept c →
    t.cfg = some c ∧ t.clk = s.clk ∧ t.sul.restarting = false ∧
    t.ptb = s.ptb.filter (fun e => e.fresh || c.feeder.getLsbD e.station.val) ∧
    t.hld.localHold = (t.keyHold || t.hld.orderHold || t.showHold) ∧
    (∀ i : Fin 8,
      ((∃ o, s.cfg = some o ∧ o.inputs[i].kind = c.inputs[i].kind ∧
          o.inputs[i].activeLow = c.inputs[i].activeLow ∧
          o.inputs[i].debounce = c.inputs[i].debounce) →
        t.viu.inputs[i] = s.viu.inputs[i]) ∧
      ((∀ o, s.cfg = some o → o.inputs[i].kind ≠ c.inputs[i].kind ∨
          o.inputs[i].activeLow ≠ c.inputs[i].activeLow ∨
          o.inputs[i].debounce ≠ c.inputs[i].debounce) →
        t.viu.inputs[i] = { s.viu.inputs[i] with level := false, stability := 0 })) ∧
    (∀ k : Fin 16, ∀ ch, ch = c.channels[k] → ∀ d, d = (if s.sul.restarting then c.restartFade else 0) →
      (t.channel k).course =
        match ch.initialTable with
        | none => .fade (s.channel k).v ch.powerUp 0 d
        | some tb => if d = 0 then .cycle tb else .blend tb (s.channel k).v 0 d) ∧
    (∀ a : Fin 4, ∀ k, k = c.axes[a] →
      (t.axis a).enable = true ∧ (t.axis a).p = (s.axis a).p ∧
        (((s.axis a).p < k.softMin * 256 ∨ k.softMax * 256 < (s.axis a).p) → (s.axis a).homed = true →
          (t.axis a).state = .unhomed ∧ (t.axis a).homed = false ∧ (t.axis a).move = none ∧
            a ∉ t.lgv.line ∧ ∀ r ∈ t.lgv.ledger, r.axis ≠ a) ∧
        (k.softMin * 256 ≤ (s.axis a).p → (s.axis a).p ≤ k.softMax * 256 →
          (t.axis a).homed = (s.axis a).homed ∧ (t.axis a).move = (s.axis a).move ∧
            ((s.axis a).state ≠ .held → (t.axis a).state = (s.axis a).state)) ∧
        (s.cfg = none → (t.axis a).guardClear = false) ∧
        (s.cfg ≠ none →
          ((t.axis a).guardClear = true ↔ k.guardMask = 0#8 ∨
            (t.guardActive k.guardMask = false ∧ k.guardDelay ≤ (s.axis a).guardTimer)))) ∧
    t.lgv.exempt = s.lgv.exempt ∧ t.lgv.demand = s.lgv.demand ∧ t.lgv.lamps = s.lgv.lamps ∧
    t.lgv.scale = s.lgv.scale ∧
    (s.sul.restarting = false → c.rate = none →
      t.sul.station = .learning ∧ t.lgv.allowance = c.floor ∧ t.bus.rateState = .learning) ∧
    (∀ r, s.sul.restarting = false → c.rate = some r →
      t.bus.rate = some r ∧ t.bus.rateState = .rateSet) ∧
    (s.sul.restarting = true → t.bus.rate = s.bus.rate ∧ t.bus.rateState = s.bus.rateState) ∧
    (s.sul.restarting = true ∨ c.rate ≠ none →
      t.sul.station = .joining ∧ t.sul.joinTimer = 0 ∧ t.bus.period = some 0 ∧
        t.bus.request.isSome = true ∧
        t.lgv.granted = { t.lgv with allowance := c.floor }.compose ∧
        t.lgv.allowance = recomputed c t.peerLoad t.lgv.granted)

/-- R80, R96, R116, R128, R146, R159, R171: on entry to CONFIG_FAULT: no settings in force, every channel
dark, no load granted, voices silent, axes at rest and unhomed where they stand, no hold in effect, no request
or pending cue (log entries 25 and 27), and with every slot FREE all that `DarkAndStill` says; and every step
of a dark and still station that leaves it in CONFIG_FAULT leaves it dark and still. -/
def Obligations.ConfigFaultIsDarkAndStill : Prop :=
  (∀ s : State,
    s.enterFault.cfg = none ∧ s.enterFault.sul.station = .configFault ∧ s.enterFault.csc = [] ∧
      s.enterFault.sce.queue = [] ∧ s.enterFault.sce.flags = 0#4 ∧
      (∀ c : Fin 16, (s.enterFault.channel c).output = 0) ∧ s.enterFault.lgv.compose = 0 ∧
      (∀ v : Voice, (s.enterFault.voice v).state = .idle ∧ (s.enterFault.voice v).queue = []) ∧
      s.enterFault.nre.talking = false ∧
      (∀ a : Fin 4, (s.enterFault.axis a).state = .unhomed ∧ (s.enterFault.axis a).v = 0 ∧
        (s.enterFault.axis a).p = (s.axis a).p) ∧
      s.enterFault.hld.inEffect = false ∧ s.enterFault.hld.localHold = false ∧
      s.enterFault.hld.orderHold = s.hld.orderHold ∧ s.enterFault.bus.request.isSome = true ∧
      ((∀ i : Fin 4, (s.slot i).state = .free ∧ (s.slot i).successor = none) →
        s.enterFault.DarkAndStill)) ∧
  ∀ s t : State, s.sul.station = .configFault → s.DarkAndStill → s.agenda = [] → step s = .next t →
    t.sul.station = .configFault → t.DarkAndStill

/-- R5, R34, R62, R91, R96, R98, R101, R172: a RESTART begins once its DONE has left the queue: the clock, the
inputs' levels, the fault list and the rate are kept; the latch, the request queue, the pending cues and the
flags are empty, and so is the outbound queue where no voice has a clip waiting that may claim the air; the
reload waits until every slot is FREE, and then asks for the header, behind a transfer still in progress;
neither command does anything before its time. RESTART_BEGIN and RESTART_RELOAD as commands of their own are
as log entry 7 says. -/
def Obligations.RestartBeginsAndReloads : Prop :=
  (∀ (s : State) (l : Latch), s.sce.latch = some l → l.kind = .restart →
    (∀ e ∈ s.bus.queue, ∀ t k o r d, e.msg ≠ .answer t k o r d true) →
    exec .restartBegin s = .next (State.finish s.tick.beginRestart)) ∧
  (∀ s : State,
    ((∀ l, s.sce.latch = some l → l.kind ≠ .restart) ∨
        (∃ e ∈ s.bus.queue, ∃ t k o r d, e.msg = .answer t k o r d true) →
      exec .restartBegin s = .next s) ∧
    s.handle .restartBegin = s.beginRestart ∧
    (s.sul.phase ≠ .awaitSlots ∨ (∃ i, (s.slot i).state ≠ .free) → exec .restartReload s = .next s)) ∧
  (∀ s : State,
    s.beginRestart.clk = s.clk ∧ s.beginRestart.cfg = s.cfg ∧ s.beginRestart.flt = s.flt ∧
      s.beginRestart.sul =
        { s.sul with station := .loading, restarting := true, phase := .awaitSlots } ∧
      s.beginRestart.sce.latch = none ∧ s.beginRestart.sce.flags = 0#4 ∧
      s.beginRestart.sce.queue = [] ∧ s.beginRestart.csc = [] ∧
      (s.nre.a.queue = [] → s.nre.b.queue = [] → s.beginRestart.bus.queue = []) ∧
      s.beginRestart.bus.rate = s.bus.rate ∧ s.beginRestart.bus.period = none ∧
      ∀ i : Fin 8, (s.beginRestart.viu.inputs[i]).level = (s.viu.inputs[i]).level) ∧
  (∀ (s : State) (x : Transfer) (retried : Bool), s.sul.phase = .awaitSlots →
    (∀ i, (s.slot i).state = .free) → s.smp.state = .busy x retried →
    Gives .restartReload s
      { s.tick with
        sul := { s.sul with phase := .header }
        smp :=
          { s.smp with
            waiting := s.smp.waiting ++
              [{ who := .loader, address := 0, count := 16, instant := s.instant + 1 }] } }) ∧
  ∀ s : State, s.sul.phase = .awaitSlots → (∀ i, (s.slot i).state = .free) → s.smp.waiting = [] →
    (s.smp.state = .ready ∨ s.smp.state = .failed) →
    ∃ t, exec .restartReload s = .next t ∧ t.sul = { s.sul with phase := .header } ∧
      t.smp =
        { state := .busy { who := .loader, address := 0, count := 16, instant := s.instant + 1 } false
          waiting := [], sent := [0x03#8, 0x00#8, 0x00#8, 0x00#8], timer := 0 } ∧
      SameAtEnd { s.tick with sul := t.sul } t

/-! ### What every step keeps -/

/-- R1, R35, R36, R47, R137, R140, R164: no step takes the divider past the 24 sample periods of a beat; no
step takes a ring out of its canonical form (log entry 32), the fault list past 16 entries, one for each key,
with counts of 1 to 255, or the Peer Table out of its strictly ascending order of station number, without this
station's own number, and empty in RESET. -/
def Obligations.StepsKeepSoundState : Prop :=
  ∀ s t : State, step s = .next t →
    (s.clk.samples ≤ 24 → t.clk.samples ≤ 24) ∧ (s.RingsWf → t.RingsWf) ∧ (s.flt.Sound → t.flt.Sound) ∧
      (s.PeersSound → t.PeersSound)

/-- TABLE XII, R166, R167: what every step keeps of the transmitter and the port: off the line the transmitter
rests in OFF, DEFER or WAIT as the rate, the station state, the line and the candidate give, and a READY port
has no request waiting. -/
def Obligations.StepsKeepTransmitterAndPort : Prop :=
  ∀ s t : State, step s = .next t →
    (s.bus.tx = .send ∨ s.bus.tx = .jam ∨ s.bus.tx = s.restingTx) →
    (s.smp.state = .ready → s.smp.waiting = []) →
    (t.bus.tx = .send ∨ t.bus.tx = .jam ∨ t.bus.tx = t.restingTx) ∧
      (t.smp.state = .ready → t.smp.waiting = [])

/-- R1, R5, R47, R146, R164: the state after reset meets what every step keeps. -/
def Obligations.ResetIsSound : Prop :=
  State.reset.clk.samples ≤ 24 ∧ State.reset.RingsWf ∧ State.reset.flt.Sound ∧ State.reset.PeersSound ∧
    State.reset.bus.tx = State.reset.restingTx ∧
    (State.reset.smp.state = .ready → State.reset.smp.waiting = [])
end

