-- ==== Sys2Proof/Laws/State.lean ====
section
/-! SUPPORT. One lemma per field of the state for each update of Ops.lean, and what reading a slot, an axis, a
voice or a channel gives after it is written. -/

namespace Sys2Proof.Machine

@[simp] theorem State.onClk_clk (s : State) (f : Clock → Clock) : (s.onClk f).clk = f s.clk := rfl
@[simp] theorem State.onClk_bus (s : State) (f : Clock → Clock) : (s.onClk f).bus = s.bus := rfl
@[simp] theorem State.onClk_ptb (s : State) (f : Clock → Clock) : (s.onClk f).ptb = s.ptb := rfl
@[simp] theorem State.onClk_viu (s : State) (f : Clock → Clock) : (s.onClk f).viu = s.viu := rfl
@[simp] theorem State.onClk_sce (s : State) (f : Clock → Clock) : (s.onClk f).sce = s.sce := rfl
@[simp] theorem State.onClk_csc (s : State) (f : Clock → Clock) : (s.onClk f).csc = s.csc := rfl
@[simp] theorem State.onClk_lte (s : State) (f : Clock → Clock) : (s.onClk f).lte = s.lte := rfl
@[simp] theorem State.onClk_lgv (s : State) (f : Clock → Clock) : (s.onClk f).lgv = s.lgv := rfl
@[simp] theorem State.onClk_nre (s : State) (f : Clock → Clock) : (s.onClk f).nre = s.nre := rfl
@[simp] theorem State.onClk_mte (s : State) (f : Clock → Clock) : (s.onClk f).mte = s.mte := rfl
@[simp] theorem State.onClk_hld (s : State) (f : Clock → Clock) : (s.onClk f).hld = s.hld := rfl
@[simp] theorem State.onClk_flt (s : State) (f : Clock → Clock) : (s.onClk f).flt = s.flt := rfl
@[simp] theorem State.onClk_smp (s : State) (f : Clock → Clock) : (s.onClk f).smp = s.smp := rfl
@[simp] theorem State.onClk_sul (s : State) (f : Clock → Clock) : (s.onClk f).sul = s.sul := rfl
@[simp] theorem State.onClk_cfg (s : State) (f : Clock → Clock) : (s.onClk f).cfg = s.cfg := rfl
@[simp] theorem State.onClk_pins (s : State) (f : Clock → Clock) : (s.onClk f).pins = s.pins := rfl
@[simp] theorem State.onClk_beats (s : State) (f : Clock → Clock) : (s.onClk f).beats = s.beats := rfl
@[simp] theorem State.onClk_instant (s : State) (f : Clock → Clock) : (s.onClk f).instant = s.instant := rfl
@[simp] theorem State.onClk_agenda (s : State) (f : Clock → Clock) : (s.onClk f).agenda = s.agenda := rfl
@[simp] theorem State.onClk_pending (s : State) (f : Clock → Clock) : (s.onClk f).pending = s.pending := rfl

@[simp] theorem State.onBus_clk (s : State) (f : Bus → Bus) : (s.onBus f).clk = s.clk := rfl
@[simp] theorem State.onBus_bus (s : State) (f : Bus → Bus) : (s.onBus f).bus = f s.bus := rfl
@[simp] theorem State.onBus_ptb (s : State) (f : Bus → Bus) : (s.onBus f).ptb = s.ptb := rfl
@[simp] theorem State.onBus_viu (s : State) (f : Bus → Bus) : (s.onBus f).viu = s.viu := rfl
@[simp] theorem State.onBus_sce (s : State) (f : Bus → Bus) : (s.onBus f).sce = s.sce := rfl
@[simp] theorem State.onBus_csc (s : State) (f : Bus → Bus) : (s.onBus f).csc = s.csc := rfl
@[simp] theorem State.onBus_lte (s : State) (f : Bus → Bus) : (s.onBus f).lte = s.lte := rfl
@[simp] theorem State.onBus_lgv (s : State) (f : Bus → Bus) : (s.onBus f).lgv = s.lgv := rfl
@[simp] theorem State.onBus_nre (s : State) (f : Bus → Bus) : (s.onBus f).nre = s.nre := rfl
@[simp] theorem State.onBus_mte (s : State) (f : Bus → Bus) : (s.onBus f).mte = s.mte := rfl
@[simp] theorem State.onBus_hld (s : State) (f : Bus → Bus) : (s.onBus f).hld = s.hld := rfl
@[simp] theorem State.onBus_flt (s : State) (f : Bus → Bus) : (s.onBus f).flt = s.flt := rfl
@[simp] theorem State.onBus_smp (s : State) (f : Bus → Bus) : (s.onBus f).smp = s.smp := rfl
@[simp] theorem State.onBus_sul (s : State) (f : Bus → Bus) : (s.onBus f).sul = s.sul := rfl
@[simp] theorem State.onBus_cfg (s : State) (f : Bus → Bus) : (s.onBus f).cfg = s.cfg := rfl
@[simp] theorem State.onBus_pins (s : State) (f : Bus → Bus) : (s.onBus f).pins = s.pins := rfl
@[simp] theorem State.onBus_beats (s : State) (f : Bus → Bus) : (s.onBus f).beats = s.beats := rfl
@[simp] theorem State.onBus_instant (s : State) (f : Bus → Bus) : (s.onBus f).instant = s.instant := rfl
@[simp] theorem State.onBus_agenda (s : State) (f : Bus → Bus) : (s.onBus f).agenda = s.agenda := rfl
@[simp] theorem State.onBus_pending (s : State) (f : Bus → Bus) : (s.onBus f).pending = s.pending := rfl

@[simp] theorem State.onViu_clk (s : State) (f : Viu → Viu) : (s.onViu f).clk = s.clk := rfl
@[simp] theorem State.onViu_bus (s : State) (f : Viu → Viu) : (s.onViu f).bus = s.bus := rfl
@[simp] theorem State.onViu_ptb (s : State) (f : Viu → Viu) : (s.onViu f).ptb = s.ptb := rfl
@[simp] theorem State.onViu_viu (s : State) (f : Viu → Viu) : (s.onViu f).viu = f s.viu := rfl
@[simp] theorem State.onViu_sce (s : State) (f : Viu → Viu) : (s.onViu f).sce = s.sce := rfl
@[simp] theorem State.onViu_csc (s : State) (f : Viu → Viu) : (s.onViu f).csc = s.csc := rfl
@[simp] theorem State.onViu_lte (s : State) (f : Viu → Viu) : (s.onViu f).lte = s.lte := rfl
@[simp] theorem State.onViu_lgv (s : State) (f : Viu → Viu) : (s.onViu f).lgv = s.lgv := rfl
@[simp] theorem State.onViu_nre (s : State) (f : Viu → Viu) : (s.onViu f).nre = s.nre := rfl
@[simp] theorem State.onViu_mte (s : State) (f : Viu → Viu) : (s.onViu f).mte = s.mte := rfl
@[simp] theorem State.onViu_hld (s : State) (f : Viu → Viu) : (s.onViu f).hld = s.hld := rfl
@[simp] theorem State.onViu_flt (s : State) (f : Viu → Viu) : (s.onViu f).flt = s.flt := rfl
@[simp] theorem State.onViu_smp (s : State) (f : Viu → Viu) : (s.onViu f).smp = s.smp := rfl
@[simp] theorem State.onViu_sul (s : State) (f : Viu → Viu) : (s.onViu f).sul = s.sul := rfl
@[simp] theorem State.onViu_cfg (s : State) (f : Viu → Viu) : (s.onViu f).cfg = s.cfg := rfl
@[simp] theorem State.onViu_pins (s : State) (f : Viu → Viu) : (s.onViu f).pins = s.pins := rfl
@[simp] theorem State.onViu_beats (s : State) (f : Viu → Viu) : (s.onViu f).beats = s.beats := rfl
@[simp] theorem State.onViu_instant (s : State) (f : Viu → Viu) : (s.onViu f).instant = s.instant := rfl
@[simp] theorem State.onViu_agenda (s : State) (f : Viu → Viu) : (s.onViu f).agenda = s.agenda := rfl
@[simp] theorem State.onViu_pending (s : State) (f : Viu → Viu) : (s.onViu f).pending = s.pending := rfl

@[simp] theorem State.onSce_clk (s : State) (f : Sce → Sce) : (s.onSce f).clk = s.clk := rfl
@[simp] theorem State.onSce_bus (s : State) (f : Sce → Sce) : (s.onSce f).bus = s.bus := rfl
@[simp] theorem State.onSce_ptb (s : State) (f : Sce → Sce) : (s.onSce f).ptb = s.ptb := rfl
@[simp] theorem State.onSce_viu (s : State) (f : Sce → Sce) : (s.onSce f).viu = s.viu := rfl
@[simp] theorem State.onSce_sce (s : State) (f : Sce → Sce) : (s.onSce f).sce = f s.sce := rfl
@[simp] theorem State.onSce_csc (s : State) (f : Sce → Sce) : (s.onSce f).csc = s.csc := rfl
@[simp] theorem State.onSce_lte (s : State) (f : Sce → Sce) : (s.onSce f).lte = s.lte := rfl
@[simp] theorem State.onSce_lgv (s : State) (f : Sce → Sce) : (s.onSce f).lgv = s.lgv := rfl
@[simp] theorem State.onSce_nre (s : State) (f : Sce → Sce) : (s.onSce f).nre = s.nre := rfl
@[simp] theorem State.onSce_mte (s : State) (f : Sce → Sce) : (s.onSce f).mte = s.mte := rfl
@[simp] theorem State.onSce_hld (s : State) (f : Sce → Sce) : (s.onSce f).hld = s.hld := rfl
@[simp] theorem State.onSce_flt (s : State) (f : Sce → Sce) : (s.onSce f).flt = s.flt := rfl
@[simp] theorem State.onSce_smp (s : State) (f : Sce → Sce) : (s.onSce f).smp = s.smp := rfl
@[simp] theorem State.onSce_sul (s : State) (f : Sce → Sce) : (s.onSce f).sul = s.sul := rfl
@[simp] theorem State.onSce_cfg (s : State) (f : Sce → Sce) : (s.onSce f).cfg = s.cfg := rfl
@[simp] theorem State.onSce_pins (s : State) (f : Sce → Sce) : (s.onSce f).pins = s.pins := rfl
@[simp] theorem State.onSce_beats (s : State) (f : Sce → Sce) : (s.onSce f).beats = s.beats := rfl
@[simp] theorem State.onSce_instant (s : State) (f : Sce → Sce) : (s.onSce f).instant = s.instant := rfl
@[simp] theorem State.onSce_agenda (s : State) (f : Sce → Sce) : (s.onSce f).agenda = s.agenda := rfl
@[simp] theorem State.onSce_pending (s : State) (f : Sce → Sce) : (s.onSce f).pending = s.pending := rfl

@[simp] theorem State.onLte_clk (s : State) (f : Lte → Lte) : (s.onLte f).clk = s.clk := rfl
@[simp] theorem State.onLte_bus (s : State) (f : Lte → Lte) : (s.onLte f).bus = s.bus := rfl
@[simp] theorem State.onLte_ptb (s : State) (f : Lte → Lte) : (s.onLte f).ptb = s.ptb := rfl
@[simp] theorem State.onLte_viu (s : State) (f : Lte → Lte) : (s.onLte f).viu = s.viu := rfl
@[simp] theorem State.onLte_sce (s : State) (f : Lte → Lte) : (s.onLte f).sce = s.sce := rfl
@[simp] theorem State.onLte_csc (s : State) (f : Lte → Lte) : (s.onLte f).csc = s.csc := rfl
@[simp] theorem State.onLte_lte (s : State) (f : Lte → Lte) : (s.onLte f).lte = f s.lte := rfl
@[simp] theorem State.onLte_lgv (s : State) (f : Lte → Lte) : (s.onLte f).lgv = s.lgv := rfl
@[simp] theorem State.onLte_nre (s : State) (f : Lte → Lte) : (s.onLte f).nre = s.nre := rfl
@[simp] theorem State.onLte_mte (s : State) (f : Lte → Lte) : (s.onLte f).mte = s.mte := rfl
@[simp] theorem State.onLte_hld (s : State) (f : Lte → Lte) : (s.onLte f).hld = s.hld := rfl
@[simp] theorem State.onLte_flt (s : State) (f : Lte → Lte) : (s.onLte f).flt = s.flt := rfl
@[simp] theorem State.onLte_smp (s : State) (f : Lte → Lte) : (s.onLte f).smp = s.smp := rfl
@[simp] theorem State.onLte_sul (s : State) (f : Lte → Lte) : (s.onLte f).sul = s.sul := rfl
@[simp] theorem State.onLte_cfg (s : State) (f : Lte → Lte) : (s.onLte f).cfg = s.cfg := rfl
@[simp] theorem State.onLte_pins (s : State) (f : Lte → Lte) : (s.onLte f).pins = s.pins := rfl
@[simp] theorem State.onLte_beats (s : State) (f : Lte → Lte) : (s.onLte f).beats = s.beats := rfl
@[simp] theorem State.onLte_instant (s : State) (f : Lte → Lte) : (s.onLte f).instant = s.instant := rfl
@[simp] theorem State.onLte_agenda (s : State) (f : Lte → Lte) : (s.onLte f).agenda = s.agenda := rfl
@[simp] theorem State.onLte_pending (s : State) (f : Lte → Lte) : (s.onLte f).pending = s.pending := rfl

@[simp] theorem State.onLgv_clk (s : State) (f : Lgv → Lgv) : (s.onLgv f).clk = s.clk := rfl
@[simp] theorem State.onLgv_bus (s : State) (f : Lgv → Lgv) : (s.onLgv f).bus = s.bus := rfl
@[simp] theorem State.onLgv_ptb (s : State) (f : Lgv → Lgv) : (s.onLgv f).ptb = s.ptb := rfl
@[simp] theorem State.onLgv_viu (s : State) (f : Lgv → Lgv) : (s.onLgv f).viu = s.viu := rfl
@[simp] theorem State.onLgv_sce (s : State) (f : Lgv → Lgv) : (s.onLgv f).sce = s.sce := rfl
@[simp] theorem State.onLgv_csc (s : State) (f : Lgv → Lgv) : (s.onLgv f).csc = s.csc := rfl
@[simp] theorem State.onLgv_lte (s : State) (f : Lgv → Lgv) : (s.onLgv f).lte = s.lte := rfl
@[simp] theorem State.onLgv_lgv (s : State) (f : Lgv → Lgv) : (s.onLgv f).lgv = f s.lgv := rfl
@[simp] theorem State.onLgv_nre (s : State) (f : Lgv → Lgv) : (s.onLgv f).nre = s.nre := rfl
@[simp] theorem State.onLgv_mte (s : State) (f : Lgv → Lgv) : (s.onLgv f).mte = s.mte := rfl
@[simp] theorem State.onLgv_hld (s : State) (f : Lgv → Lgv) : (s.onLgv f).hld = s.hld := rfl
@[simp] theorem State.onLgv_flt (s : State) (f : Lgv → Lgv) : (s.onLgv f).flt = s.flt := rfl
@[simp] theorem State.onLgv_smp (s : State) (f : Lgv → Lgv) : (s.onLgv f).smp = s.smp := rfl
@[simp] theorem State.onLgv_sul (s : State) (f : Lgv → Lgv) : (s.onLgv f).sul = s.sul := rfl
@[simp] theorem State.onLgv_cfg (s : State) (f : Lgv → Lgv) : (s.onLgv f).cfg = s.cfg := rfl
@[simp] theorem State.onLgv_pins (s : State) (f : Lgv → Lgv) : (s.onLgv f).pins = s.pins := rfl
@[simp] theorem State.onLgv_beats (s : State) (f : Lgv → Lgv) : (s.onLgv f).beats = s.beats := rfl
@[simp] theorem State.onLgv_instant (s : State) (f : Lgv → Lgv) : (s.onLgv f).instant = s.instant := rfl
@[simp] theorem State.onLgv_agenda (s : State) (f : Lgv → Lgv) : (s.onLgv f).agenda = s.agenda := rfl
@[simp] theorem State.onLgv_pending (s : State) (f : Lgv → Lgv) : (s.onLgv f).pending = s.pending := rfl

@[simp] theorem State.onNre_clk (s : State) (f : Nre → Nre) : (s.onNre f).clk = s.clk := rfl
@[simp] theorem State.onNre_bus (s : State) (f : Nre → Nre) : (s.onNre f).bus = s.bus := rfl
@[simp] theorem State.onNre_ptb (s : State) (f : Nre → Nre) : (s.onNre f).ptb = s.ptb := rfl
@[simp] theorem State.onNre_viu (s : State) (f : Nre → Nre) : (s.onNre f).viu = s.viu := rfl
@[simp] theorem State.onNre_sce (s : State) (f : Nre → Nre) : (s.onNre f).sce = s.sce := rfl
@[simp] theorem State.onNre_csc (s : State) (f : Nre → Nre) : (s.onNre f).csc = s.csc := rfl
@[simp] theorem State.onNre_lte (s : State) (f : Nre → Nre) : (s.onNre f).lte = s.lte := rfl
@[simp] theorem State.onNre_lgv (s : State) (f : Nre → Nre) : (s.onNre f).lgv = s.lgv := rfl
@[simp] theorem State.onNre_nre (s : State) (f : Nre → Nre) : (s.onNre f).nre = f s.nre := rfl
@[simp] theorem State.onNre_mte (s : State) (f : Nre → Nre) : (s.onNre f).mte = s.mte := rfl
@[simp] theorem State.onNre_hld (s : State) (f : Nre → Nre) : (s.onNre f).hld = s.hld := rfl
@[simp] theorem State.onNre_flt (s : State) (f : Nre → Nre) : (s.onNre f).flt = s.flt := rfl
@[simp] theorem State.onNre_smp (s : State) (f : Nre → Nre) : (s.onNre f).smp = s.smp := rfl
@[simp] theorem State.onNre_sul (s : State) (f : Nre → Nre) : (s.onNre f).sul = s.sul := rfl
@[simp] theorem State.onNre_cfg (s : State) (f : Nre → Nre) : (s.onNre f).cfg = s.cfg := rfl
@[simp] theorem State.onNre_pins (s : State) (f : Nre → Nre) : (s.onNre f).pins = s.pins := rfl
@[simp] theorem State.onNre_beats (s : State) (f : Nre → Nre) : (s.onNre f).beats = s.beats := rfl
@[simp] theorem State.onNre_instant (s : State) (f : Nre → Nre) : (s.onNre f).instant = s.instant := rfl
@[simp] theorem State.onNre_agenda (s : State) (f : Nre → Nre) : (s.onNre f).agenda = s.agenda := rfl
@[simp] theorem State.onNre_pending (s : State) (f : Nre → Nre) : (s.onNre f).pending = s.pending := rfl

@[simp] theorem State.onHld_clk (s : State) (f : Hld → Hld) : (s.onHld f).clk = s.clk := rfl
@[simp] theorem State.onHld_bus (s : State) (f : Hld → Hld) : (s.onHld f).bus = s.bus := rfl
@[simp] theorem State.onHld_ptb (s : State) (f : Hld → Hld) : (s.onHld f).ptb = s.ptb := rfl
@[simp] theorem State.onHld_viu (s : State) (f : Hld → Hld) : (s.onHld f).viu = s.viu := rfl
@[simp] theorem State.onHld_sce (s : State) (f : Hld → Hld) : (s.onHld f).sce = s.sce := rfl
@[simp] theorem State.onHld_csc (s : State) (f : Hld → Hld) : (s.onHld f).csc = s.csc := rfl
@[simp] theorem State.onHld_lte (s : State) (f : Hld → Hld) : (s.onHld f).lte = s.lte := rfl
@[simp] theorem State.onHld_lgv (s : State) (f : Hld → Hld) : (s.onHld f).lgv = s.lgv := rfl
@[simp] theorem State.onHld_nre (s : State) (f : Hld → Hld) : (s.onHld f).nre = s.nre := rfl
@[simp] theorem State.onHld_mte (s : State) (f : Hld → Hld) : (s.onHld f).mte = s.mte := rfl
@[simp] theorem State.onHld_hld (s : State) (f : Hld → Hld) : (s.onHld f).hld = f s.hld := rfl
@[simp] theorem State.onHld_flt (s : State) (f : Hld → Hld) : (s.onHld f).flt = s.flt := rfl
@[simp] theorem State.onHld_smp (s : State) (f : Hld → Hld) : (s.onHld f).smp = s.smp := rfl
@[simp] theorem State.onHld_sul (s : State) (f : Hld → Hld) : (s.onHld f).sul = s.sul := rfl
@[simp] theorem State.onHld_cfg (s : State) (f : Hld → Hld) : (s.onHld f).cfg = s.cfg := rfl
@[simp] theorem State.onHld_pins (s : State) (f : Hld → Hld) : (s.onHld f).pins = s.pins := rfl
@[simp] theorem State.onHld_beats (s : State) (f : Hld → Hld) : (s.onHld f).beats = s.beats := rfl
@[simp] theorem State.onHld_instant (s : State) (f : Hld → Hld) : (s.onHld f).instant = s.instant := rfl
@[simp] theorem State.onHld_agenda (s : State) (f : Hld → Hld) : (s.onHld f).agenda = s.agenda := rfl
@[simp] theorem State.onHld_pending (s : State) (f : Hld → Hld) : (s.onHld f).pending = s.pending := rfl

@[simp] theorem State.onSmp_clk (s : State) (f : Port → Port) : (s.onSmp f).clk = s.clk := rfl
@[simp] theorem State.onSmp_bus (s : State) (f : Port → Port) : (s.onSmp f).bus = s.bus := rfl
@[simp] theorem State.onSmp_ptb (s : State) (f : Port → Port) : (s.onSmp f).ptb = s.ptb := rfl
@[simp] theorem State.onSmp_viu (s : State) (f : Port → Port) : (s.onSmp f).viu = s.viu := rfl
@[simp] theorem State.onSmp_sce (s : State) (f : Port → Port) : (s.onSmp f).sce = s.sce := rfl
@[simp] theorem State.onSmp_csc (s : State) (f : Port → Port) : (s.onSmp f).csc = s.csc := rfl
@[simp] theorem State.onSmp_lte (s : State) (f : Port → Port) : (s.onSmp f).lte = s.lte := rfl
@[simp] theorem State.onSmp_lgv (s : State) (f : Port → Port) : (s.onSmp f).lgv = s.lgv := rfl
@[simp] theorem State.onSmp_nre (s : State) (f : Port → Port) : (s.onSmp f).nre = s.nre := rfl
@[simp] theorem State.onSmp_mte (s : State) (f : Port → Port) : (s.onSmp f).mte = s.mte := rfl
@[simp] theorem State.onSmp_hld (s : State) (f : Port → Port) : (s.onSmp f).hld = s.hld := rfl
@[simp] theorem State.onSmp_flt (s : State) (f : Port → Port) : (s.onSmp f).flt = s.flt := rfl
@[simp] theorem State.onSmp_smp (s : State) (f : Port → Port) : (s.onSmp f).smp = f s.smp := rfl
@[simp] theorem State.onSmp_sul (s : State) (f : Port → Port) : (s.onSmp f).sul = s.sul := rfl
@[simp] theorem State.onSmp_cfg (s : State) (f : Port → Port) : (s.onSmp f).cfg = s.cfg := rfl
@[simp] theorem State.onSmp_pins (s : State) (f : Port → Port) : (s.onSmp f).pins = s.pins := rfl
@[simp] theorem State.onSmp_beats (s : State) (f : Port → Port) : (s.onSmp f).beats = s.beats := rfl
@[simp] theorem State.onSmp_instant (s : State) (f : Port → Port) : (s.onSmp f).instant = s.instant := rfl
@[simp] theorem State.onSmp_agenda (s : State) (f : Port → Port) : (s.onSmp f).agenda = s.agenda := rfl
@[simp] theorem State.onSmp_pending (s : State) (f : Port → Port) : (s.onSmp f).pending = s.pending := rfl

@[simp] theorem State.onSul_clk (s : State) (f : Sul → Sul) : (s.onSul f).clk = s.clk := rfl
@[simp] theorem State.onSul_bus (s : State) (f : Sul → Sul) : (s.onSul f).bus = s.bus := rfl
@[simp] theorem State.onSul_ptb (s : State) (f : Sul → Sul) : (s.onSul f).ptb = s.ptb := rfl
@[simp] theorem State.onSul_viu (s : State) (f : Sul → Sul) : (s.onSul f).viu = s.viu := rfl
@[simp] theorem State.onSul_sce (s : State) (f : Sul → Sul) : (s.onSul f).sce = s.sce := rfl
@[simp] theorem State.onSul_csc (s : State) (f : Sul → Sul) : (s.onSul f).csc = s.csc := rfl
@[simp] theorem State.onSul_lte (s : State) (f : Sul → Sul) : (s.onSul f).lte = s.lte := rfl
@[simp] theorem State.onSul_lgv (s : State) (f : Sul → Sul) : (s.onSul f).lgv = s.lgv := rfl
@[simp] theorem State.onSul_nre (s : State) (f : Sul → Sul) : (s.onSul f).nre = s.nre := rfl
@[simp] theorem State.onSul_mte (s : State) (f : Sul → Sul) : (s.onSul f).mte = s.mte := rfl
@[simp] theorem State.onSul_hld (s : State) (f : Sul → Sul) : (s.onSul f).hld = s.hld := rfl
@[simp] theorem State.onSul_flt (s : State) (f : Sul → Sul) : (s.onSul f).flt = s.flt := rfl
@[simp] theorem State.onSul_smp (s : State) (f : Sul → Sul) : (s.onSul f).smp = s.smp := rfl
@[simp] theorem State.onSul_sul (s : State) (f : Sul → Sul) : (s.onSul f).sul = f s.sul := rfl
@[simp] theorem State.onSul_cfg (s : State) (f : Sul → Sul) : (s.onSul f).cfg = s.cfg := rfl
@[simp] theorem State.onSul_pins (s : State) (f : Sul → Sul) : (s.onSul f).pins = s.pins := rfl
@[simp] theorem State.onSul_beats (s : State) (f : Sul → Sul) : (s.onSul f).beats = s.beats := rfl
@[simp] theorem State.onSul_instant (s : State) (f : Sul → Sul) : (s.onSul f).instant = s.instant := rfl
@[simp] theorem State.onSul_agenda (s : State) (f : Sul → Sul) : (s.onSul f).agenda = s.agenda := rfl
@[simp] theorem State.onSul_pending (s : State) (f : Sul → Sul) : (s.onSul f).pending = s.pending := rfl

@[simp] theorem State.onMte_clk (s : State) (f : Axis → Axis) : (s.onMte f).clk = s.clk := rfl
@[simp] theorem State.onMte_bus (s : State) (f : Axis → Axis) : (s.onMte f).bus = s.bus := rfl
@[simp] theorem State.onMte_ptb (s : State) (f : Axis → Axis) : (s.onMte f).ptb = s.ptb := rfl
@[simp] theorem State.onMte_viu (s : State) (f : Axis → Axis) : (s.onMte f).viu = s.viu := rfl
@[simp] theorem State.onMte_sce (s : State) (f : Axis → Axis) : (s.onMte f).sce = s.sce := rfl
@[simp] theorem State.onMte_csc (s : State) (f : Axis → Axis) : (s.onMte f).csc = s.csc := rfl
@[simp] theorem State.onMte_lte (s : State) (f : Axis → Axis) : (s.onMte f).lte = s.lte := rfl
@[simp] theorem State.onMte_lgv (s : State) (f : Axis → Axis) : (s.onMte f).lgv = s.lgv := rfl
@[simp] theorem State.onMte_nre (s : State) (f : Axis → Axis) : (s.onMte f).nre = s.nre := rfl
@[simp] theorem State.onMte_mte (s : State) (f : Axis → Axis) : (s.onMte f).mte = vmap f s.mte := rfl
@[simp] theorem State.onMte_hld (s : State) (f : Axis → Axis) : (s.onMte f).hld = s.hld := rfl
@[simp] theorem State.onMte_flt (s : State) (f : Axis → Axis) : (s.onMte f).flt = s.flt := rfl
@[simp] theorem State.onMte_smp (s : State) (f : Axis → Axis) : (s.onMte f).smp = s.smp := rfl
@[simp] theorem State.onMte_sul (s : State) (f : Axis → Axis) : (s.onMte f).sul = s.sul := rfl
@[simp] theorem State.onMte_cfg (s : State) (f : Axis → Axis) : (s.onMte f).cfg = s.cfg := rfl
@[simp] theorem State.onMte_pins (s : State) (f : Axis → Axis) : (s.onMte f).pins = s.pins := rfl
@[simp] theorem State.onMte_beats (s : State) (f : Axis → Axis) : (s.onMte f).beats = s.beats := rfl
@[simp] theorem State.onMte_instant (s : State) (f : Axis → Axis) : (s.onMte f).instant = s.instant := rfl
@[simp] theorem State.onMte_agenda (s : State) (f : Axis → Axis) : (s.onMte f).agenda = s.agenda := rfl
@[simp] theorem State.onMte_pending (s : State) (f : Axis → Axis) : (s.onMte f).pending = s.pending := rfl

@[simp] theorem State.setSlot_clk (s : State) (i : Fin 4) (y : Slot) : (s.setSlot i y).clk = s.clk := rfl
@[simp] theorem State.setSlot_bus (s : State) (i : Fin 4) (y : Slot) : (s.setSlot i y).bus = s.bus := rfl
@[simp] theorem State.setSlot_ptb (s : State) (i : Fin 4) (y : Slot) : (s.setSlot i y).ptb = s.ptb := rfl
@[simp] theorem State.setSlot_viu (s : State) (i : Fin 4) (y : Slot) : (s.setSlot i y).viu = s.viu := rfl
@[simp] theorem State.setSlot_sce (s : State) (i : Fin 4) (y : Slot) : (s.setSlot i y).sce = { s.sce with slots := s.sce.slots.set i y } := rfl
@[simp] theorem State.setSlot_csc (s : State) (i : Fin 4) (y : Slot) : (s.setSlot i y).csc = s.csc := rfl
@[simp] theorem State.setSlot_lte (s : State) (i : Fin 4) (y : Slot) : (s.setSlot i y).lte = s.lte := rfl
@[simp] theorem State.setSlot_lgv (s : State) (i : Fin 4) (y : Slot) : (s.setSlot i y).lgv = s.lgv := rfl
@[simp] theorem State.setSlot_nre (s : State) (i : Fin 4) (y : Slot) : (s.setSlot i y).nre = s.nre := rfl
@[simp] theorem State.setSlot_mte (s : State) (i : Fin 4) (y : Slot) : (s.setSlot i y).mte = s.mte := rfl
@[simp] theorem State.setSlot_hld (s : State) (i : Fin 4) (y : Slot) : (s.setSlot i y).hld = s.hld := rfl
@[simp] theorem State.setSlot_flt (s : State) (i : Fin 4) (y : Slot) : (s.setSlot i y).flt = s.flt := rfl
@[simp] theorem State.setSlot_smp (s : State) (i : Fin 4) (y : Slot) : (s.setSlot i y).smp = s.smp := rfl
@[simp] theorem State.setSlot_sul (s : State) (i : Fin 4) (y : Slot) : (s.setSlot i y).sul = s.sul := rfl
@[simp] theorem State.setSlot_cfg (s : State) (i : Fin 4) (y : Slot) : (s.setSlot i y).cfg = s.cfg := rfl
@[simp] theorem State.setSlot_pins (s : State) (i : Fin 4) (y : Slot) : (s.setSlot i y).pins = s.pins := rfl
@[simp] theorem State.setSlot_beats (s : State) (i : Fin 4) (y : Slot) : (s.setSlot i y).beats = s.beats := rfl
@[simp] theorem State.setSlot_instant (s : State) (i : Fin 4) (y : Slot) : (s.setSlot i y).instant = s.instant := rfl
@[simp] theorem State.setSlot_agenda (s : State) (i : Fin 4) (y : Slot) : (s.setSlot i y).agenda = s.agenda := rfl
@[simp] theorem State.setSlot_pending (s : State) (i : Fin 4) (y : Slot) : (s.setSlot i y).pending = s.pending := rfl

@[simp] theorem State.onSlot_clk (s : State) (i : Fin 4) (f : Slot → Slot) : (s.onSlot i f).clk = s.clk := rfl
@[simp] theorem State.onSlot_bus (s : State) (i : Fin 4) (f : Slot → Slot) : (s.onSlot i f).bus = s.bus := rfl
@[simp] theorem State.onSlot_ptb (s : State) (i : Fin 4) (f : Slot → Slot) : (s.onSlot i f).ptb = s.ptb := rfl
@[simp] theorem State.onSlot_viu (s : State) (i : Fin 4) (f : Slot → Slot) : (s.onSlot i f).viu = s.viu := rfl
@[simp] theorem State.onSlot_sce (s : State) (i : Fin 4) (f : Slot → Slot) : (s.onSlot i f).sce = { s.sce with slots := s.sce.slots.set i (f (s.slot i)) } := rfl
@[simp] theorem State.onSlot_csc (s : State) (i : Fin 4) (f : Slot → Slot) : (s.onSlot i f).csc = s.csc := rfl
@[simp] theorem State.onSlot_lte (s : State) (i : Fin 4) (f : Slot → Slot) : (s.onSlot i f).lte = s.lte := rfl
@[simp] theorem State.onSlot_lgv (s : State) (i : Fin 4) (f : Slot → Slot) : (s.onSlot i f).lgv = s.lgv := rfl
@[simp] theorem State.onSlot_nre (s : State) (i : Fin 4) (f : Slot → Slot) : (s.onSlot i f).nre = s.nre := rfl
@[simp] theorem State.onSlot_mte (s : State) (i : Fin 4) (f : Slot → Slot) : (s.onSlot i f).mte = s.mte := rfl
@[simp] theorem State.onSlot_hld (s : State) (i : Fin 4) (f : Slot → Slot) : (s.onSlot i f).hld = s.hld := rfl
@[simp] theorem State.onSlot_flt (s : State) (i : Fin 4) (f : Slot → Slot) : (s.onSlot i f).flt = s.flt := rfl
@[simp] theorem State.onSlot_smp (s : State) (i : Fin 4) (f : Slot → Slot) : (s.onSlot i f).smp = s.smp := rfl
@[simp] theorem State.onSlot_sul (s : State) (i : Fin 4) (f : Slot → Slot) : (s.onSlot i f).sul = s.sul := rfl
@[simp] theorem State.onSlot_cfg (s : State) (i : Fin 4) (f : Slot → Slot) : (s.onSlot i f).cfg = s.cfg := rfl
@[simp] theorem State.onSlot_pins (s : State) (i : Fin 4) (f : Slot → Slot) : (s.onSlot i f).pins = s.pins := rfl
@[simp] theorem State.onSlot_beats (s : State) (i : Fin 4) (f : Slot → Slot) : (s.onSlot i f).beats = s.beats := rfl
@[simp] theorem State.onSlot_instant (s : State) (i : Fin 4) (f : Slot → Slot) : (s.onSlot i f).instant = s.instant := rfl
@[simp] theorem State.onSlot_agenda (s : State) (i : Fin 4) (f : Slot → Slot) : (s.onSlot i f).agenda = s.agenda := rfl
@[simp] theorem State.onSlot_pending (s : State) (i : Fin 4) (f : Slot → Slot) : (s.onSlot i f).pending = s.pending := rfl

@[simp] theorem State.setAxis_clk (s : State) (a : Fin 4) (y : Axis) : (s.setAxis a y).clk = s.clk := rfl
@[simp] theorem State.setAxis_bus (s : State) (a : Fin 4) (y : Axis) : (s.setAxis a y).bus = s.bus := rfl
@[simp] theorem State.setAxis_ptb (s : State) (a : Fin 4) (y : Axis) : (s.setAxis a y).ptb = s.ptb := rfl
@[simp] theorem State.setAxis_viu (s : State) (a : Fin 4) (y : Axis) : (s.setAxis a y).viu = s.viu := rfl
@[simp] theorem State.setAxis_sce (s : State) (a : Fin 4) (y : Axis) : (s.setAxis a y).sce = s.sce := rfl
@[simp] theorem State.setAxis_csc (s : State) (a : Fin 4) (y : Axis) : (s.setAxis a y).csc = s.csc := rfl
@[simp] theorem State.setAxis_lte (s : State) (a : Fin 4) (y : Axis) : (s.setAxis a y).lte = s.lte := rfl
@[simp] theorem State.setAxis_lgv (s : State) (a : Fin 4) (y : Axis) : (s.setAxis a y).lgv = s.lgv := rfl
@[simp] theorem State.setAxis_nre (s : State) (a : Fin 4) (y : Axis) : (s.setAxis a y).nre = s.nre := rfl
@[simp] theorem State.setAxis_mte (s : State) (a : Fin 4) (y : Axis) : (s.setAxis a y).mte = s.mte.set a y := rfl
@[simp] theorem State.setAxis_hld (s : State) (a : Fin 4) (y : Axis) : (s.setAxis a y).hld = s.hld := rfl
@[simp] theorem State.setAxis_flt (s : State) (a : Fin 4) (y : Axis) : (s.setAxis a y).flt = s.flt := rfl
@[simp] theorem State.setAxis_smp (s : State) (a : Fin 4) (y : Axis) : (s.setAxis a y).smp = s.smp := rfl
@[simp] theorem State.setAxis_sul (s : State) (a : Fin 4) (y : Axis) : (s.setAxis a y).sul = s.sul := rfl
@[simp] theorem State.setAxis_cfg (s : State) (a : Fin 4) (y : Axis) : (s.setAxis a y).cfg = s.cfg := rfl
@[simp] theorem State.setAxis_pins (s : State) (a : Fin 4) (y : Axis) : (s.setAxis a y).pins = s.pins := rfl
@[simp] theorem State.setAxis_beats (s : State) (a : Fin 4) (y : Axis) : (s.setAxis a y).beats = s.beats := rfl
@[simp] theorem State.setAxis_instant (s : State) (a : Fin 4) (y : Axis) : (s.setAxis a y).instant = s.instant := rfl
@[simp] theorem State.setAxis_agenda (s : State) (a : Fin 4) (y : Axis) : (s.setAxis a y).agenda = s.agenda := rfl
@[simp] theorem State.setAxis_pending (s : State) (a : Fin 4) (y : Axis) : (s.setAxis a y).pending = s.pending := rfl

@[simp] theorem State.onAxis_clk (s : State) (a : Fin 4) (f : Axis → Axis) : (s.onAxis a f).clk = s.clk := rfl
@[simp] theorem State.onAxis_bus (s : State) (a : Fin 4) (f : Axis → Axis) : (s.onAxis a f).bus = s.bus := rfl
@[simp] theorem State.onAxis_ptb (s : State) (a : Fin 4) (f : Axis → Axis) : (s.onAxis a f).ptb = s.ptb := rfl
@[simp] theorem State.onAxis_viu (s : State) (a : Fin 4) (f : Axis → Axis) : (s.onAxis a f).viu = s.viu := rfl
@[simp] theorem State.onAxis_sce (s : State) (a : Fin 4) (f : Axis → Axis) : (s.onAxis a f).sce = s.sce := rfl
@[simp] theorem State.onAxis_csc (s : State) (a : Fin 4) (f : Axis → Axis) : (s.onAxis a f).csc = s.csc := rfl
@[simp] theorem State.onAxis_lte (s : State) (a : Fin 4) (f : Axis → Axis) : (s.onAxis a f).lte = s.lte := rfl
@[simp] theorem State.onAxis_lgv (s : State) (a : Fin 4) (f : Axis → Axis) : (s.onAxis a f).lgv = s.lgv := rfl
@[simp] theorem State.onAxis_nre (s : State) (a : Fin 4) (f : Axis → Axis) : (s.onAxis a f).nre = s.nre := rfl
@[simp] theorem State.onAxis_mte (s : State) (a : Fin 4) (f : Axis → Axis) : (s.onAxis a f).mte = s.mte.set a (f (s.axis a)) := rfl
@[simp] theorem State.onAxis_hld (s : State) (a : Fin 4) (f : Axis → Axis) : (s.onAxis a f).hld = s.hld := rfl
@[simp] theorem State.onAxis_flt (s : State) (a : Fin 4) (f : Axis → Axis) : (s.onAxis a f).flt = s.flt := rfl
@[simp] theorem State.onAxis_smp (s : State) (a : Fin 4) (f : Axis → Axis) : (s.onAxis a f).smp = s.smp := rfl
@[simp] theorem State.onAxis_sul (s : State) (a : Fin 4) (f : Axis → Axis) : (s.onAxis a f).sul = s.sul := rfl
@[simp] theorem State.onAxis_cfg (s : State) (a : Fin 4) (f : Axis → Axis) : (s.onAxis a f).cfg = s.cfg := rfl
@[simp] theorem State.onAxis_pins (s : State) (a : Fin 4) (f : Axis → Axis) : (s.onAxis a f).pins = s.pins := rfl
@[simp] theorem State.onAxis_beats (s : State) (a : Fin 4) (f : Axis → Axis) : (s.onAxis a f).beats = s.beats := rfl
@[simp] theorem State.onAxis_instant (s : State) (a : Fin 4) (f : Axis → Axis) : (s.onAxis a f).instant = s.instant := rfl
@[simp] theorem State.onAxis_agenda (s : State) (a : Fin 4) (f : Axis → Axis) : (s.onAxis a f).agenda = s.agenda := rfl
@[simp] theorem State.onAxis_pending (s : State) (a : Fin 4) (f : Axis → Axis) : (s.onAxis a f).pending = s.pending := rfl

@[simp] theorem State.setChannel_clk (s : State) (c : Fin 16) (y : Channel) : (s.setChannel c y).clk = s.clk := rfl
@[simp] theorem State.setChannel_bus (s : State) (c : Fin 16) (y : Channel) : (s.setChannel c y).bus = s.bus := rfl
@[simp] theorem State.setChannel_ptb (s : State) (c : Fin 16) (y : Channel) : (s.setChannel c y).ptb = s.ptb := rfl
@[simp] theorem State.setChannel_viu (s : State) (c : Fin 16) (y : Channel) : (s.setChannel c y).viu = s.viu := rfl
@[simp] theorem State.setChannel_sce (s : State) (c : Fin 16) (y : Channel) : (s.setChannel c y).sce = s.sce := rfl
@[simp] theorem State.setChannel_csc (s : State) (c : Fin 16) (y : Channel) : (s.setChannel c y).csc = s.csc := rfl
@[simp] theorem State.setChannel_lte (s : State) (c : Fin 16) (y : Channel) : (s.setChannel c y).lte = { s.lte with channels := s.lte.channels.set c y } := rfl
@[simp] theorem State.setChannel_lgv (s : State) (c : Fin 16) (y : Channel) : (s.setChannel c y).lgv = s.lgv := rfl
@[simp] theorem State.setChannel_nre (s : State) (c : Fin 16) (y : Channel) : (s.setChannel c y).nre = s.nre := rfl
@[simp] theorem State.setChannel_mte (s : State) (c : Fin 16) (y : Channel) : (s.setChannel c y).mte = s.mte := rfl
@[simp] theorem State.setChannel_hld (s : State) (c : Fin 16) (y : Channel) : (s.setChannel c y).hld = s.hld := rfl
@[simp] theorem State.setChannel_flt (s : State) (c : Fin 16) (y : Channel) : (s.setChannel c y).flt = s.flt := rfl
@[simp] theorem State.setChannel_smp (s : State) (c : Fin 16) (y : Channel) : (s.setChannel c y).smp = s.smp := rfl
@[simp] theorem State.setChannel_sul (s : State) (c : Fin 16) (y : Channel) : (s.setChannel c y).sul = s.sul := rfl
@[simp] theorem State.setChannel_cfg (s : State) (c : Fin 16) (y : Channel) : (s.setChannel c y).cfg = s.cfg := rfl
@[simp] theorem State.setChannel_pins (s : State) (c : Fin 16) (y : Channel) : (s.setChannel c y).pins = s.pins := rfl
@[simp] theorem State.setChannel_beats (s : State) (c : Fin 16) (y : Channel) : (s.setChannel c y).beats = s.beats := rfl
@[simp] theorem State.setChannel_instant (s : State) (c : Fin 16) (y : Channel) : (s.setChannel c y).instant = s.instant := rfl
@[simp] theorem State.setChannel_agenda (s : State) (c : Fin 16) (y : Channel) : (s.setChannel c y).agenda = s.agenda := rfl
@[simp] theorem State.setChannel_pending (s : State) (c : Fin 16) (y : Channel) : (s.setChannel c y).pending = s.pending := rfl

@[simp] theorem State.onChannel_clk (s : State) (c : Fin 16) (f : Channel → Channel) : (s.onChannel c f).clk = s.clk := rfl
@[simp] theorem State.onChannel_bus (s : State) (c : Fin 16) (f : Channel → Channel) : (s.onChannel c f).bus = s.bus := rfl
@[simp] theorem State.onChannel_ptb (s : State) (c : Fin 16) (f : Channel → Channel) : (s.onChannel c f).ptb = s.ptb := rfl
@[simp] theorem State.onChannel_viu (s : State) (c : Fin 16) (f : Channel → Channel) : (s.onChannel c f).viu = s.viu := rfl
@[simp] theorem State.onChannel_sce (s : State) (c : Fin 16) (f : Channel → Channel) : (s.onChannel c f).sce = s.sce := rfl
@[simp] theorem State.onChannel_csc (s : State) (c : Fin 16) (f : Channel → Channel) : (s.onChannel c f).csc = s.csc := rfl
@[simp] theorem State.onChannel_lte (s : State) (c : Fin 16) (f : Channel → Channel) : (s.onChannel c f).lte = { s.lte with channels := s.lte.channels.set c (f (s.channel c)) } := rfl
@[simp] theorem State.onChannel_lgv (s : State) (c : Fin 16) (f : Channel → Channel) : (s.onChannel c f).lgv = s.lgv := rfl
@[simp] theorem State.onChannel_nre (s : State) (c : Fin 16) (f : Channel → Channel) : (s.onChannel c f).nre = s.nre := rfl
@[simp] theorem State.onChannel_mte (s : State) (c : Fin 16) (f : Channel → Channel) : (s.onChannel c f).mte = s.mte := rfl
@[simp] theorem State.onChannel_hld (s : State) (c : Fin 16) (f : Channel → Channel) : (s.onChannel c f).hld = s.hld := rfl
@[simp] theorem State.onChannel_flt (s : State) (c : Fin 16) (f : Channel → Channel) : (s.onChannel c f).flt = s.flt := rfl
@[simp] theorem State.onChannel_smp (s : State) (c : Fin 16) (f : Channel → Channel) : (s.onChannel c f).smp = s.smp := rfl
@[simp] theorem State.onChannel_sul (s : State) (c : Fin 16) (f : Channel → Channel) : (s.onChannel c f).sul = s.sul := rfl
@[simp] theorem State.onChannel_cfg (s : State) (c : Fin 16) (f : Channel → Channel) : (s.onChannel c f).cfg = s.cfg := rfl
@[simp] theorem State.onChannel_pins (s : State) (c : Fin 16) (f : Channel → Channel) : (s.onChannel c f).pins = s.pins := rfl
@[simp] theorem State.onChannel_beats (s : State) (c : Fin 16) (f : Channel → Channel) : (s.onChannel c f).beats = s.beats := rfl
@[simp] theorem State.onChannel_instant (s : State) (c : Fin 16) (f : Channel → Channel) : (s.onChannel c f).instant = s.instant := rfl
@[simp] theorem State.onChannel_agenda (s : State) (c : Fin 16) (f : Channel → Channel) : (s.onChannel c f).agenda = s.agenda := rfl
@[simp] theorem State.onChannel_pending (s : State) (c : Fin 16) (f : Channel → Channel) : (s.onChannel c f).pending = s.pending := rfl

@[simp] theorem State.onInput_clk (s : State) (i : Fin 8) (f : InputRec → InputRec) : (s.onInput i f).clk = s.clk := rfl
@[simp] theorem State.onInput_bus (s : State) (i : Fin 8) (f : InputRec → InputRec) : (s.onInput i f).bus = s.bus := rfl
@[simp] theorem State.onInput_ptb (s : State) (i : Fin 8) (f : InputRec → InputRec) : (s.onInput i f).ptb = s.ptb := rfl
@[simp] theorem State.onInput_viu (s : State) (i : Fin 8) (f : InputRec → InputRec) : (s.onInput i f).viu = { s.viu with inputs := s.viu.inputs.set i (f s.viu.inputs[i]) } := rfl
@[simp] theorem State.onInput_sce (s : State) (i : Fin 8) (f : InputRec → InputRec) : (s.onInput i f).sce = s.sce := rfl
@[simp] theorem State.onInput_csc (s : State) (i : Fin 8) (f : InputRec → InputRec) : (s.onInput i f).csc = s.csc := rfl
@[simp] theorem State.onInput_lte (s : State) (i : Fin 8) (f : InputRec → InputRec) : (s.onInput i f).lte = s.lte := rfl
@[simp] theorem State.onInput_lgv (s : State) (i : Fin 8) (f : InputRec → InputRec) : (s.onInput i f).lgv = s.lgv := rfl
@[simp] theorem State.onInput_nre (s : State) (i : Fin 8) (f : InputRec → InputRec) : (s.onInput i f).nre = s.nre := rfl
@[simp] theorem State.onInput_mte (s : State) (i : Fin 8) (f : InputRec → InputRec) : (s.onInput i f).mte = s.mte := rfl
@[simp] theorem State.onInput_hld (s : State) (i : Fin 8) (f : InputRec → InputRec) : (s.onInput i f).hld = s.hld := rfl
@[simp] theorem State.onInput_flt (s : State) (i : Fin 8) (f : InputRec → InputRec) : (s.onInput i f).flt = s.flt := rfl
@[simp] theorem State.onInput_smp (s : State) (i : Fin 8) (f : InputRec → InputRec) : (s.onInput i f).smp = s.smp := rfl
@[simp] theorem State.onInput_sul (s : State) (i : Fin 8) (f : InputRec → InputRec) : (s.onInput i f).sul = s.sul := rfl
@[simp] theorem State.onInput_cfg (s : State) (i : Fin 8) (f : InputRec → InputRec) : (s.onInput i f).cfg = s.cfg := rfl
@[simp] theorem State.onInput_pins (s : State) (i : Fin 8) (f : InputRec → InputRec) : (s.onInput i f).pins = s.pins := rfl
@[simp] theorem State.onInput_beats (s : State) (i : Fin 8) (f : InputRec → InputRec) : (s.onInput i f).beats = s.beats := rfl
@[simp] theorem State.onInput_instant (s : State) (i : Fin 8) (f : InputRec → InputRec) : (s.onInput i f).instant = s.instant := rfl
@[simp] theorem State.onInput_agenda (s : State) (i : Fin 8) (f : InputRec → InputRec) : (s.onInput i f).agenda = s.agenda := rfl
@[simp] theorem State.onInput_pending (s : State) (i : Fin 8) (f : InputRec → InputRec) : (s.onInput i f).pending = s.pending := rfl

@[simp] theorem State.onGroup_clk (s : State) (g : Fin 4) (f : Group → Group) : (s.onGroup g f).clk = s.clk := rfl
@[simp] theorem State.onGroup_bus (s : State) (g : Fin 4) (f : Group → Group) : (s.onGroup g f).bus = s.bus := rfl
@[simp] theorem State.onGroup_ptb (s : State) (g : Fin 4) (f : Group → Group) : (s.onGroup g f).ptb = s.ptb := rfl
@[simp] theorem State.onGroup_viu (s : State) (g : Fin 4) (f : Group → Group) : (s.onGroup g f).viu = { s.viu with groups := s.viu.groups.set g (f s.viu.groups[g]) } := rfl
@[simp] theorem State.onGroup_sce (s : State) (g : Fin 4) (f : Group → Group) : (s.onGroup g f).sce = s.sce := rfl
@[simp] theorem State.onGroup_csc (s : State) (g : Fin 4) (f : Group → Group) : (s.onGroup g f).csc = s.csc := rfl
@[simp] theorem State.onGroup_lte (s : State) (g : Fin 4) (f : Group → Group) : (s.onGroup g f).lte = s.lte := rfl
@[simp] theorem State.onGroup_lgv (s : State) (g : Fin 4) (f : Group → Group) : (s.onGroup g f).lgv = s.lgv := rfl
@[simp] theorem State.onGroup_nre (s : State) (g : Fin 4) (f : Group → Group) : (s.onGroup g f).nre = s.nre := rfl
@[simp] theorem State.onGroup_mte (s : State) (g : Fin 4) (f : Group → Group) : (s.onGroup g f).mte = s.mte := rfl
@[simp] theorem State.onGroup_hld (s : State) (g : Fin 4) (f : Group → Group) : (s.onGroup g f).hld = s.hld := rfl
@[simp] theorem State.onGroup_flt (s : State) (g : Fin 4) (f : Group → Group) : (s.onGroup g f).flt = s.flt := rfl
@[simp] theorem State.onGroup_smp (s : State) (g : Fin 4) (f : Group → Group) : (s.onGroup g f).smp = s.smp := rfl
@[simp] theorem State.onGroup_sul (s : State) (g : Fin 4) (f : Group → Group) : (s.onGroup g f).sul = s.sul := rfl
@[simp] theorem State.onGroup_cfg (s : State) (g : Fin 4) (f : Group → Group) : (s.onGroup g f).cfg = s.cfg := rfl
@[simp] theorem State.onGroup_pins (s : State) (g : Fin 4) (f : Group → Group) : (s.onGroup g f).pins = s.pins := rfl
@[simp] theorem State.onGroup_beats (s : State) (g : Fin 4) (f : Group → Group) : (s.onGroup g f).beats = s.beats := rfl
@[simp] theorem State.onGroup_instant (s : State) (g : Fin 4) (f : Group → Group) : (s.onGroup g f).instant = s.instant := rfl
@[simp] theorem State.onGroup_agenda (s : State) (g : Fin 4) (f : Group → Group) : (s.onGroup g f).agenda = s.agenda := rfl
@[simp] theorem State.onGroup_pending (s : State) (g : Fin 4) (f : Group → Group) : (s.onGroup g f).pending = s.pending := rfl

@[simp] theorem State.setClaim_clk (s : State) (r : Fin 6) (y : Option (Fin 4)) : (s.setClaim r y).clk = s.clk := rfl
@[simp] theorem State.setClaim_bus (s : State) (r : Fin 6) (y : Option (Fin 4)) : (s.setClaim r y).bus = s.bus := rfl
@[simp] theorem State.setClaim_ptb (s : State) (r : Fin 6) (y : Option (Fin 4)) : (s.setClaim r y).ptb = s.ptb := rfl
@[simp] theorem State.setClaim_viu (s : State) (r : Fin 6) (y : Option (Fin 4)) : (s.setClaim r y).viu = s.viu := rfl
@[simp] theorem State.setClaim_sce (s : State) (r : Fin 6) (y : Option (Fin 4)) : (s.setClaim r y).sce = { s.sce with claims := s.sce.claims.set r y } := rfl
@[simp] theorem State.setClaim_csc (s : State) (r : Fin 6) (y : Option (Fin 4)) : (s.setClaim r y).csc = s.csc := rfl
@[simp] theorem State.setClaim_lte (s : State) (r : Fin 6) (y : Option (Fin 4)) : (s.setClaim r y).lte = s.lte := rfl
@[simp] theorem State.setClaim_lgv (s : State) (r : Fin 6) (y : Option (Fin 4)) : (s.setClaim r y).lgv = s.lgv := rfl
@[simp] theorem State.setClaim_nre (s : State) (r : Fin 6) (y : Option (Fin 4)) : (s.setClaim r y).nre = s.nre := rfl
@[simp] theorem State.setClaim_mte (s : State) (r : Fin 6) (y : Option (Fin 4)) : (s.setClaim r y).mte = s.mte := rfl
@[simp] theorem State.setClaim_hld (s : State) (r : Fin 6) (y : Option (Fin 4)) : (s.setClaim r y).hld = s.hld := rfl
@[simp] theorem State.setClaim_flt (s : State) (r : Fin 6) (y : Option (Fin 4)) : (s.setClaim r y).flt = s.flt := rfl
@[simp] theorem State.setClaim_smp (s : State) (r : Fin 6) (y : Option (Fin 4)) : (s.setClaim r y).smp = s.smp := rfl
@[simp] theorem State.setClaim_sul (s : State) (r : Fin 6) (y : Option (Fin 4)) : (s.setClaim r y).sul = s.sul := rfl
@[simp] theorem State.setClaim_cfg (s : State) (r : Fin 6) (y : Option (Fin 4)) : (s.setClaim r y).cfg = s.cfg := rfl
@[simp] theorem State.setClaim_pins (s : State) (r : Fin 6) (y : Option (Fin 4)) : (s.setClaim r y).pins = s.pins := rfl
@[simp] theorem State.setClaim_beats (s : State) (r : Fin 6) (y : Option (Fin 4)) : (s.setClaim r y).beats = s.beats := rfl
@[simp] theorem State.setClaim_instant (s : State) (r : Fin 6) (y : Option (Fin 4)) : (s.setClaim r y).instant = s.instant := rfl
@[simp] theorem State.setClaim_agenda (s : State) (r : Fin 6) (y : Option (Fin 4)) : (s.setClaim r y).agenda = s.agenda := rfl
@[simp] theorem State.setClaim_pending (s : State) (r : Fin 6) (y : Option (Fin 4)) : (s.setClaim r y).pending = s.pending := rfl

@[simp] theorem State.post_clk (s : State) (xs : List Signal) : (s.post xs).clk = s.clk := rfl
@[simp] theorem State.post_bus (s : State) (xs : List Signal) : (s.post xs).bus = s.bus := rfl
@[simp] theorem State.post_ptb (s : State) (xs : List Signal) : (s.post xs).ptb = s.ptb := rfl
@[simp] theorem State.post_viu (s : State) (xs : List Signal) : (s.post xs).viu = s.viu := rfl
@[simp] theorem State.post_sce (s : State) (xs : List Signal) : (s.post xs).sce = s.sce := rfl
@[simp] theorem State.post_csc (s : State) (xs : List Signal) : (s.post xs).csc = s.csc := rfl
@[simp] theorem State.post_lte (s : State) (xs : List Signal) : (s.post xs).lte = s.lte := rfl
@[simp] theorem State.post_lgv (s : State) (xs : List Signal) : (s.post xs).lgv = s.lgv := rfl
@[simp] theorem State.post_nre (s : State) (xs : List Signal) : (s.post xs).nre = s.nre := rfl
@[simp] theorem State.post_mte (s : State) (xs : List Signal) : (s.post xs).mte = s.mte := rfl
@[simp] theorem State.post_hld (s : State) (xs : List Signal) : (s.post xs).hld = s.hld := rfl
@[simp] theorem State.post_flt (s : State) (xs : List Signal) : (s.post xs).flt = s.flt := rfl
@[simp] theorem State.post_smp (s : State) (xs : List Signal) : (s.post xs).smp = s.smp := rfl
@[simp] theorem State.post_sul (s : State) (xs : List Signal) : (s.post xs).sul = s.sul := rfl
@[simp] theorem State.post_cfg (s : State) (xs : List Signal) : (s.post xs).cfg = s.cfg := rfl
@[simp] theorem State.post_pins (s : State) (xs : List Signal) : (s.post xs).pins = s.pins := rfl
@[simp] theorem State.post_beats (s : State) (xs : List Signal) : (s.post xs).beats = s.beats := rfl
@[simp] theorem State.post_instant (s : State) (xs : List Signal) : (s.post xs).instant = s.instant := rfl
@[simp] theorem State.post_agenda (s : State) (xs : List Signal) : (s.post xs).agenda = xs ++ s.agenda := rfl
@[simp] theorem State.post_pending (s : State) (xs : List Signal) : (s.post xs).pending = s.pending := rfl

@[simp] theorem State.tick_clk (s : State) : s.tick.clk = s.clk := rfl
@[simp] theorem State.tick_bus (s : State) : s.tick.bus = s.bus := rfl
@[simp] theorem State.tick_ptb (s : State) : s.tick.ptb = s.ptb := rfl
@[simp] theorem State.tick_viu (s : State) : s.tick.viu = s.viu := rfl
@[simp] theorem State.tick_sce (s : State) : s.tick.sce = s.sce := rfl
@[simp] theorem State.tick_csc (s : State) : s.tick.csc = s.csc := rfl
@[simp] theorem State.tick_lte (s : State) : s.tick.lte = s.lte := rfl
@[simp] theorem State.tick_lgv (s : State) : s.tick.lgv = s.lgv := rfl
@[simp] theorem State.tick_nre (s : State) : s.tick.nre = s.nre := rfl
@[simp] theorem State.tick_mte (s : State) : s.tick.mte = s.mte := rfl
@[simp] theorem State.tick_hld (s : State) : s.tick.hld = s.hld := rfl
@[simp] theorem State.tick_flt (s : State) : s.tick.flt = s.flt := rfl
@[simp] theorem State.tick_smp (s : State) : s.tick.smp = s.smp := rfl
@[simp] theorem State.tick_sul (s : State) : s.tick.sul = s.sul := rfl
@[simp] theorem State.tick_cfg (s : State) : s.tick.cfg = s.cfg := rfl
@[simp] theorem State.tick_pins (s : State) : s.tick.pins = s.pins := rfl
@[simp] theorem State.tick_beats (s : State) : s.tick.beats = s.beats := rfl
@[simp] theorem State.tick_instant (s : State) : s.tick.instant = s.instant + 1 := rfl
@[simp] theorem State.tick_agenda (s : State) : s.tick.agenda = [] := rfl
@[simp] theorem State.tick_pending (s : State) : s.tick.pending = s.pending := rfl

@[simp] theorem State.setVoice_clk (s : State) (v : Voice) (y : VoiceRec) : (s.setVoice v y).clk = s.clk := by
  cases v <;> rfl
@[simp] theorem State.onVoice_clk (s : State) (v : Voice) (f : VoiceRec → VoiceRec) :
    (s.onVoice v f).clk = s.clk := State.setVoice_clk s v _
@[simp] theorem State.setVoice_bus (s : State) (v : Voice) (y : VoiceRec) : (s.setVoice v y).bus = s.bus := by
  cases v <;> rfl
@[simp] theorem State.onVoice_bus (s : State) (v : Voice) (f : VoiceRec → VoiceRec) :
    (s.onVoice v f).bus = s.bus := State.setVoice_bus s v _
@[simp] theorem State.setVoice_ptb (s : State) (v : Voice) (y : VoiceRec) : (s.setVoice v y).ptb = s.ptb := by
  cases v <;> rfl
@[simp] theorem State.onVoice_ptb (s : State) (v : Voice) (f : VoiceRec → VoiceRec) :
    (s.onVoice v f).ptb = s.ptb := State.setVoice_ptb s v _
@[simp] theorem State.setVoice_viu (s : State) (v : Voice) (y : VoiceRec) : (s.setVoice v y).viu = s.viu := by
  cases v <;> rfl
@[simp] theorem State.onVoice_viu (s : State) (v : Voice) (f : VoiceRec → VoiceRec) :
    (s.onVoice v f).viu = s.viu := State.setVoice_viu s v _
@[simp] theorem State.setVoice_sce (s : State) (v : Voice) (y : VoiceRec) : (s.setVoice v y).sce = s.sce := by
  cases v <;> rfl
@[simp] theorem State.onVoice_sce (s : State) (v : Voice) (f : VoiceRec → VoiceRec) :
    (s.onVoice v f).sce = s.sce := State.setVoice_sce s v _
@[simp] theorem State.setVoice_csc (s : State) (v : Voice) (y : VoiceRec) : (s.setVoice v y).csc = s.csc := by
  cases v <;> rfl
@[simp] theorem State.onVoice_csc (s : State) (v : Voice) (f : VoiceRec → VoiceRec) :
    (s.onVoice v f).csc = s.csc := State.setVoice_csc s v _
@[simp] theorem State.setVoice_lte (s : State) (v : Voice) (y : VoiceRec) : (s.setVoice v y).lte = s.lte := by
  cases v <;> rfl
@[simp] theorem State.onVoice_lte (s : State) (v : Voice) (f : VoiceRec → VoiceRec) :
    (s.onVoice v f).lte = s.lte := State.setVoice_lte s v _
@[simp] theorem State.setVoice_lgv (s : State) (v : Voice) (y : VoiceRec) : (s.setVoice v y).lgv = s.lgv := by
  cases v <;> rfl
@[simp] theorem State.onVoice_lgv (s : State) (v : Voice) (f : VoiceRec → VoiceRec) :
    (s.onVoice v f).lgv = s.lgv := State.setVoice_lgv s v _
@[simp] theorem State.setVoice_mte (s : State) (v : Voice) (y : VoiceRec) : (s.setVoice v y).mte = s.mte := by
  cases v <;> rfl
@[simp] theorem State.onVoice_mte (s : State) (v : Voice) (f : VoiceRec → VoiceRec) :
    (s.onVoice v f).mte = s.mte := State.setVoice_mte s v _
@[simp] theorem State.setVoice_hld (s : State) (v : Voice) (y : VoiceRec) : (s.setVoice v y).hld = s.hld := by
  cases v <;> rfl
@[simp] theorem State.onVoice_hld (s : State) (v : Voice) (f : VoiceRec → VoiceRec) :
    (s.onVoice v f).hld = s.hld := State.setVoice_hld s v _
@[simp] theorem State.setVoice_flt (s : State) (v : Voice) (y : VoiceRec) : (s.setVoice v y).flt = s.flt := by
  cases v <;> rfl
@[simp] theorem State.onVoice_flt (s : State) (v : Voice) (f : VoiceRec → VoiceRec) :
    (s.onVoice v f).flt = s.flt := State.setVoice_flt s v _
@[simp] theorem State.setVoice_smp (s : State) (v : Voice) (y : VoiceRec) : (s.setVoice v y).smp = s.smp := by
  cases v <;> rfl
@[simp] theorem State.onVoice_smp (s : State) (v : Voice) (f : VoiceRec → VoiceRec) :
    (s.onVoice v f).smp = s.smp := State.setVoice_smp s v _
@[simp] theorem State.setVoice_sul (s : State) (v : Voice) (y : VoiceRec) : (s.setVoice v y).sul = s.sul := by
  cases v <;> rfl
@[simp] theorem State.onVoice_sul (s : State) (v : Voice) (f : VoiceRec → VoiceRec) :
    (s.onVoice v f).sul = s.sul := State.setVoice_sul s v _
@[simp] theorem State.setVoice_cfg (s : State) (v : Voice) (y : VoiceRec) : (s.setVoice v y).cfg = s.cfg := by
  cases v <;> rfl
@[simp] theorem State.onVoice_cfg (s : State) (v : Voice) (f : VoiceRec → VoiceRec) :
    (s.onVoice v f).cfg = s.cfg := State.setVoice_cfg s v _
@[simp] theorem State.setVoice_pins (s : State) (v : Voice) (y : VoiceRec) : (s.setVoice v y).pins = s.pins := by
  cases v <;> rfl
@[simp] theorem State.onVoice_pins (s : State) (v : Voice) (f : VoiceRec → VoiceRec) :
    (s.onVoice v f).pins = s.pins := State.setVoice_pins s v _
@[simp] theorem State.setVoice_beats (s : State) (v : Voice) (y : VoiceRec) : (s.setVoice v y).beats = s.beats := by
  cases v <;> rfl
@[simp] theorem State.onVoice_beats (s : State) (v : Voice) (f : VoiceRec → VoiceRec) :
    (s.onVoice v f).beats = s.beats := State.setVoice_beats s v _
@[simp] theorem State.setVoice_instant (s : State) (v : Voice) (y : VoiceRec) : (s.setVoice v y).instant = s.instant := by
  cases v <;> rfl
@[simp] theorem State.onVoice_instant (s : State) (v : Voice) (f : VoiceRec → VoiceRec) :
    (s.onVoice v f).instant = s.instant := State.setVoice_instant s v _
@[simp] theorem State.setVoice_agenda (s : State) (v : Voice) (y : VoiceRec) : (s.setVoice v y).agenda = s.agenda := by
  cases v <;> rfl
@[simp] theorem State.onVoice_agenda (s : State) (v : Voice) (f : VoiceRec → VoiceRec) :
    (s.onVoice v f).agenda = s.agenda := State.setVoice_agenda s v _
@[simp] theorem State.setVoice_pending (s : State) (v : Voice) (y : VoiceRec) : (s.setVoice v y).pending = s.pending := by
  cases v <;> rfl
@[simp] theorem State.onVoice_pending (s : State) (v : Voice) (f : VoiceRec → VoiceRec) :
    (s.onVoice v f).pending = s.pending := State.setVoice_pending s v _

/-! ### Reading what was written -/

@[simp] theorem State.slot_setSlot_self (s : State) (i : Fin 4) (y : Slot) : (s.setSlot i y).slot i = y := by
  simp [State.slot]

theorem State.slot_setSlot_ne (s : State) {i j : Fin 4} (y : Slot) (h : j ≠ i) :
    (s.setSlot i y).slot j = s.slot j := by
  have : (i : Nat) ≠ j := fun e => h (Fin.ext e.symm)
  simp [State.slot, this]

@[simp] theorem State.slot_onSlot_self (s : State) (i : Fin 4) (f : Slot → Slot) :
    (s.onSlot i f).slot i = f (s.slot i) := State.slot_setSlot_self s i _

theorem State.slot_onSlot_ne (s : State) {i j : Fin 4} (f : Slot → Slot) (h : j ≠ i) :
    (s.onSlot i f).slot j = s.slot j := State.slot_setSlot_ne s _ h

@[simp] theorem State.slot_post (s : State) (l : List Signal) (i : Fin 4) :
    (s.post l).slot i = s.slot i := rfl

@[simp] theorem State.axis_setAxis_self (s : State) (a : Fin 4) (y : Axis) : (s.setAxis a y).axis a = y := by
  simp [State.axis]

theorem State.axis_setAxis_ne (s : State) {a b : Fin 4} (y : Axis) (h : b ≠ a) :
    (s.setAxis a y).axis b = s.axis b := by
  have : (a : Nat) ≠ b := fun e => h (Fin.ext e.symm)
  simp [State.axis, this]

@[simp] theorem State.axis_onAxis_self (s : State) (a : Fin 4) (f : Axis → Axis) :
    (s.onAxis a f).axis a = f (s.axis a) := State.axis_setAxis_self s a _

@[simp] theorem State.channel_setChannel_self (s : State) (c : Fin 16) (y : Channel) :
    (s.setChannel c y).channel c = y := by
  simp [State.channel]

theorem State.channel_setChannel_ne (s : State) {c d : Fin 16} (y : Channel) (h : d ≠ c) :
    (s.setChannel c y).channel d = s.channel d := by
  have : (c : Nat) ≠ d := fun e => h (Fin.ext e.symm)
  simp [State.channel, this]

@[simp] theorem State.channel_onChannel_self (s : State) (c : Fin 16) (f : Channel → Channel) :
    (s.onChannel c f).channel c = f (s.channel c) := State.channel_setChannel_self s c _

@[simp] theorem State.voice_setVoice_self (s : State) (v : Voice) (y : VoiceRec) :
    (s.setVoice v y).voice v = y := by
  cases v <;> rfl

@[simp] theorem State.voice_onVoice_self (s : State) (v : Voice) (f : VoiceRec → VoiceRec) :
    (s.onVoice v f).voice v = f (s.voice v) := State.voice_setVoice_self s v _

@[simp] theorem State.holder_setClaim_self (s : State) (r : Fin 6) (y : Option (Fin 4)) :
    (s.setClaim r y).holder r = y := by
  simp [State.holder]

theorem State.holder_setClaim_ne (s : State) {r q : Fin 6} (y : Option (Fin 4)) (h : q ≠ r) :
    (s.setClaim r y).holder q = s.holder q := by
  have : (r : Nat) ≠ q := fun e => h (Fin.ext e.symm)
  simp [State.holder, this]

@[simp] theorem Lgv.note_allowance (l : Lgv) : l.note.allowance = l.allowance := rfl
@[simp] theorem Lgv.note_ledger (l : Lgv) : l.note.ledger = l.ledger := rfl
@[simp] theorem Lgv.note_line (l : Lgv) : l.note.line = l.line := rfl
@[simp] theorem Lgv.note_exempt (l : Lgv) : l.note.exempt = l.exempt := rfl
@[simp] theorem Lgv.note_demand (l : Lgv) : l.note.demand = l.demand := rfl
@[simp] theorem Lgv.note_scale (l : Lgv) : l.note.scale = l.scale := rfl
@[simp] theorem Lgv.note_lamps (l : Lgv) : l.note.lamps = l.lamps := rfl
@[simp] theorem Lgv.note_granted (l : Lgv) : l.note.granted = l.compose := rfl

@[simp] theorem Peer.beat_station (n : Nat) (e : Peer) : (Peer.beat n e).station = e.station := rfl
@[simp] theorem Peer.beat_g (n : Nat) (e : Peer) : (Peer.beat n e).g = e.g := rfl
@[simp] theorem Peer.beat_x (n : Nat) (e : Peer) : (Peer.beat n e).x = e.x := rfl
@[simp] theorem Peer.beat_fresh (n : Nat) (e : Peer) : (Peer.beat n e).fresh = e.fresh := rfl
@[simp] theorem Peer.beat_talking (n : Nat) (e : Peer) : (Peer.beat n e).talking = e.talking := rfl
@[simp] theorem Peer.beat_localHold (n : Nat) (e : Peer) : (Peer.beat n e).localHold = e.localHold := rfl
@[simp] theorem Peer.beat_flags (n : Nat) (e : Peer) : (Peer.beat n e).flags = e.flags := rfl
@[simp] theorem Peer.beat_faultPresent (n : Nat) (e : Peer) : (Peer.beat n e).faultPresent = e.faultPresent := rfl
@[simp] theorem Peer.beat_age (n : Nat) (e : Peer) : (Peer.beat n e).age = min (e.age + 1) 65535 := rfl

end Sys2Proof.Machine
end

