-- ==== Sys2Proof/Laws/Ops.lean ====
section
/-! SUPPORT. What each shared operation can do, said once: the ring of a voice, requests of one block to
another, the end of an instant, what a command answers, and what meeting awaits makes of each slot. -/

namespace Sys2Proof.Machine

/-! ### The ring of a voice -/

theorem ringWfFrom_mono {low low' : Nat} (h : low' ≤ low) :
    ∀ {ring : List (Nat × Sample)}, ringWfFrom low ring = true → ringWfFrom low' ring = true
  | [], _ => rfl
  | (k, x) :: rest, hw => by
    simp only [ringWfFrom, Bool.and_eq_true, decide_eq_true_eq] at hw ⊢
    exact ⟨⟨⟨by omega, hw.1.1.2⟩, hw.1.2⟩, hw.2⟩

theorem ringCons_wf {low place : Nat} {x : Sample} {rest : List (Nat × Sample)} (hl : low ≤ place)
    (hp : place < ringSize) (hr : ringWfFrom (place + 1) rest = true) :
    ringWfFrom low (ringCons place x rest) = true := by
  unfold ringCons
  split
  · exact ringWfFrom_mono (by omega) hr
  · simp_all [ringWfFrom]

/-- Writing a place below 2048 keeps the canonical form from a place at or below it. -/
theorem ringSet_wfFrom {place : Nat} {x : Sample} (hp : place < ringSize) :
    ∀ {low : Nat} {ring : List (Nat × Sample)}, low ≤ place → ringWfFrom low ring = true →
      ringWfFrom low (ringSet ring place x) = true
  | low, [], hl, _ => ringCons_wf hl hp rfl
  | low, (k, y) :: rest, hl, hw => by
    have hw' := hw
    simp only [ringWfFrom, Bool.and_eq_true, decide_eq_true_eq] at hw'
    obtain ⟨⟨⟨hk, hks⟩, hy⟩, hr⟩ := hw'
    unfold ringSet
    split
    · refine ringCons_wf hl hp ?_
      simp only [ringWfFrom, Bool.and_eq_true, decide_eq_true_eq]
      exact ⟨⟨⟨by omega, hks⟩, hy⟩, hr⟩
    · split
      · subst k
        exact ringCons_wf hl hp hr
      · simp only [ringWfFrom, Bool.and_eq_true, decide_eq_true_eq]
        exact ⟨⟨⟨hk, hks⟩, hy⟩, ringSet_wfFrom hp (by omega) hr⟩

/-- The one write of a ring keeps its canonical form. -/
theorem ringSet_wf {ring : List (Nat × Sample)} {place : Nat} (x : Sample) (hp : place < ringSize)
    (hw : ringWf ring = true) : ringWf (ringSet ring place x) = true :=
  ringSet_wfFrom hp (Nat.zero_le _) hw

/-- A burst's writes keep a ring's canonical form. -/
theorem ringWrite_wf : ∀ (xs : List Sample) {ring : List (Nat × Sample)} (place : Nat),
    ringWf ring = true → ringWf (ringWrite ring place xs) = true
  | [], _, _, hw => hw
  | x :: xs, _, place, hw =>
    ringWrite_wf xs (place + 1) (ringSet_wf x (Nat.mod_lt _ (by decide)) hw)

/-- The empty ring is canonical. -/
theorem ringWf_nil : ringWf [] = true := rfl

/-- Below all that is listed a ring reads as 0. -/
theorem ringGet_below : ∀ {low place : Nat} {ring : List (Nat × Sample)}, place < low →
    ringWfFrom low ring = true → ringGet ring place = 0#16
  | _, _, [], _, _ => rfl
  | low, place, (k, x) :: rest, hp, hw => by
    simp only [ringWfFrom, Bool.and_eq_true, decide_eq_true_eq] at hw
    simp [ringGet, show place < k by omega]

theorem ringGet_cons_same {place : Nat} {x : Sample} {rest : List (Nat × Sample)}
    (hr : ringWfFrom (place + 1) rest = true) : ringGet (ringCons place x rest) place = x := by
  unfold ringCons
  split
  · subst x; exact ringGet_below (Nat.lt_succ_self _) hr
  · simp [ringGet]

theorem ringGet_cons_ne {place q : Nat} {x : Sample} {rest : List (Nat × Sample)} (hq : q ≠ place)
    (hr : ringWfFrom (place + 1) rest = true) :
    ringGet (ringCons place x rest) q = ringGet rest q := by
  unfold ringCons
  split
  · rfl
  · simp only [ringGet]
    split
    · rename_i h
      exact (ringGet_below (low := place + 1) (by omega) hr).symm
    · simp

theorem ringGet_ringSet_from {place q : Nat} {x : Sample} :
    ∀ {low : Nat} {ring : List (Nat × Sample)}, ringWfFrom low ring = true →
      ringGet (ringSet ring place x) q = if q = place then x else ringGet ring q
  | low, [], _ => by
    split
    · subst q; exact ringGet_cons_same rfl
    · rename_i h; exact ringGet_cons_ne h rfl
  | low, (k, y) :: rest, hw => by
    have hw' := hw
    simp only [ringWfFrom, Bool.and_eq_true, decide_eq_true_eq] at hw'
    obtain ⟨⟨⟨hk, hks⟩, hy⟩, hr⟩ := hw'
    unfold ringSet
    split
    · have hr' : ringWfFrom (place + 1) ((k, y) :: rest) = true := by
        simp only [ringWfFrom, Bool.and_eq_true, decide_eq_true_eq]
        exact ⟨⟨⟨by omega, hks⟩, hy⟩, hr⟩
      split
      · subst q; exact ringGet_cons_same hr'
      · rename_i h; exact ringGet_cons_ne h hr'
    · split
      · subst k
        split
        · subst q; exact ringGet_cons_same hr
        · rename_i h
          rw [ringGet_cons_ne h hr]
          simp only [ringGet]
          split
          · exact ringGet_below (low := place + 1) (by omega) hr
          · simp
      · rename_i h1 h2
        simp only [ringGet]
        split
        · rename_i h3
          simp [show q ≠ place by omega]
        · split
          · rename_i h3 h4
            simp [show q ≠ place by omega]
          · exact ringGet_ringSet_from hr

/-- A place of a canonical ring reads as it was last written; every other place reads as before. -/
theorem ringGet_ringSet {ring : List (Nat × Sample)} (place q : Nat) (x : Sample)
    (hw : ringWf ring = true) :
    ringGet (ringSet ring place x) q = if q = place then x else ringGet ring q :=
  ringGet_ringSet_from hw

/-! ### Fault reports, beacon requests, the outbound queue -/

/-- A request of any kind changes the beacon request, the deferred mark and its note alone. -/
theorem Bus.raiseEarly_eq (b : Bus) :
    b.raiseEarly =
      { b with
        request := b.raiseEarly.request, deferred := b.raiseEarly.deferred
        markedInFlight := b.raiseEarly.markedInFlight } := by
  unfold Bus.raiseEarly Bus.raise
  split
  · rfl
  · split
    · rfl
    · split <;> rfl

/-- A report changes the fault list and, by an early request, the BBI alone. -/
theorem State.report_eq (s : State) (k : FaultKind) (n : Nat) (d : DropSort) :
    s.report k n d = { s with flt := (s.report k n d).flt, bus := (s.report k n d).bus } := by
  unfold State.report
  split <;> rfl

@[simp] theorem State.report_flt (s : State) (k : FaultKind) (n : Nat) (d : DropSort) :
    (s.report k n d).flt = s.flt.report { kind := k, sort := d, number := n } s.clk.showTime := by
  unfold State.report
  split <;> rfl

@[simp] theorem State.report_agenda (s : State) (k : FaultKind) (n : Nat) (d : DropSort) :
    (s.report k n d).agenda = s.agenda := by
  unfold State.report
  split <;> rfl

@[simp] theorem State.report_sul (s : State) (k : FaultKind) (n : Nat) (d : DropSort) :
    (s.report k n d).sul = s.sul := by
  unfold State.report
  split <;> rfl

@[simp] theorem State.report_cfg (s : State) (k : FaultKind) (n : Nat) (d : DropSort) :
    (s.report k n d).cfg = s.cfg := by
  unfold State.report
  split <;> rfl

@[simp] theorem State.report_clk (s : State) (k : FaultKind) (n : Nat) (d : DropSort) :
    (s.report k n d).clk = s.clk := by
  unfold State.report
  split <;> rfl

/-- A report leaves the fault list as one report of its key leaves it: sound if it was (R164). -/
theorem FaultList.report_sound {l : FaultList} (key : FaultKey) (now : ShowTime) (h : l.Sound) :
    (l.report key now).Sound := by
  obtain ⟨hn, hk, hc⟩ := h
  have hkeys : ∀ es : List FaultEntry,
      (es.map fun e => if e.key = key then e.again now else e).map (·.key) = es.map (·.key) := by
    intro es
    rw [List.map_map]
    apply List.map_congr_left
    intro e _
    simp only [Function.comp]
    split <;> rfl
  unfold FaultList.report
  split
  · refine ⟨by simpa using hn, by rw [hkeys]; exact hk, ?_⟩
    intro e he
    obtain ⟨x, hx, rfl⟩ := List.mem_map.1 he
    have := hc x hx
    split
    · simp only [FaultEntry.again]; omega
    · exact this
  · split
    · rename_i hnew hroom
      refine ⟨by simp; omega, ?_, ?_⟩
      · simp only [List.map_append, List.map_cons, List.map_nil]
        refine List.Nodup.append hk (by simp) ?_
        intro x hx hx'
        simp only [List.mem_singleton] at hx'
        subst x
        obtain ⟨e, he, hek⟩ := List.mem_map.1 hx
        simp only [Bool.not_eq_true, List.any_eq_false] at hnew
        exact absurd hek (by simpa using hnew e he)
      · intro e he
        rcases List.mem_append.1 he with h | h
        · exact hc e h
        · simp only [List.mem_singleton] at h
          subst e; simp
    · exact ⟨hn, hk, hc⟩

/-- A message joins the back of the outbound queue when it has room; without room a TALK leaves the state
as it was, and any other message is reported dropped (R21). -/
theorem State.enqueue_cases (s : State) (m : OutMsg) (o : Origin) :
    (s.bus.queue.length < 8 ∧ s.enqueue m o = s.onBus (·.place m o)) ∨
      (8 ≤ s.bus.queue.length ∧
        (s.enqueue m o = s ∨
          s.enqueue m o = s.report .queueDrop (m.detail s.sul.number.val) .outbound)) := by
  unfold State.enqueue State.outboundRoom
  by_cases h : s.bus.queue.length < 8
  · exact .inl ⟨h, by simp [h]⟩
  · refine .inr ⟨by omega, ?_⟩
    simp only [h, decide_false, Bool.false_eq_true, if_false]
    cases m <;> simp

/-! ### The port -/

/-- The arbiter changes the port alone. -/
theorem State.arbitrate_eq (s : State) : s.arbitrate = { s with smp := s.arbitrate.smp } := by
  unfold State.arbitrate
  split
  · split <;> rfl
  · rfl

theorem State.choice_isSome (s : State) : ∀ {ts : List Transfer}, ts ≠ [] → (s.choice ts).isSome
  | [], h => absurd rfl h
  | t :: rest, _ => by
    unfold State.choice
    split
    · rfl
    · split <;> rfl

/-- What the arbiter chooses is one of the requests. -/
theorem State.choice_mem (s : State) : ∀ {ts : List Transfer} {t : Transfer}, s.choice ts = some t → t ∈ ts
  | [], _, h => by simp [State.choice] at h
  | u :: rest, t, h => by
    unfold State.choice at h
    split at h
    · simp_all
    · split at h
      · rename_i v hv _
        have := State.choice_mem s hv
        simp_all
      · simp_all

/-- After the arbiter the port is not READY with a request waiting (R167). -/
theorem State.arbitrate_ready (s : State) (h : s.arbitrate.smp.state = .ready) :
    s.arbitrate.smp.waiting = [] := by
  unfold State.arbitrate at h ⊢
  split at h
  · split at h
    · rename_i hr hc
      by_contra hne
      have := s.choice_isSome hne
      simp [hc] at this
    · simp at h
  · rename_i hne
    exact absurd h hne

/-- A beat counts a transfer in progress and does nothing else to the port (R168). -/
theorem Port.beat_cases (p : Port) :
    (∃ t retried, p.state = .busy t retried ∧ p.beat = { p with timer := min (p.timer + 1) 3 }) ∨
      ((∀ t retried, p.state ≠ .busy t retried) ∧ p.beat = p) := by
  unfold Port.beat
  split
  · exact .inl ⟨_, _, ‹_›, rfl⟩
  · rename_i h
    exact .inr ⟨h, rfl⟩

@[simp] theorem Port.beat_state (p : Port) : p.beat.state = p.state := by
  unfold Port.beat
  split <;> rfl

@[simp] theorem Port.beat_waiting (p : Port) : p.beat.waiting = p.waiting := by
  unfold Port.beat
  split <;> rfl

/-! ### The end of an instant -/

/-- Bringing up the transmitter changes its state alone. -/
theorem State.syncTx_eq (s : State) : s.syncTx = { s with bus := { s.bus with tx := s.syncTx.bus.tx } } := by
  unfold State.syncTx
  split <;> rfl

/-- With no signal waiting nothing is taken. -/
theorem State.settle_nil (n : Nat) {s : State} (h : s.agenda = []) : State.settle n s = s := by
  cases n with
  | zero => rfl
  | succ n => simp [State.settle, h]

/-- With no signal waiting the end of an instant changes the transmitter's state and the port alone. -/
theorem State.finish_quiet {u : State} (h : u.agenda = []) : SameAtEnd u u.finish := by
  unfold State.finish SameAtEnd
  rw [State.settle_nil _ h, State.syncTx_eq, State.arbitrate_eq]

/-- With no signal waiting the end of an instant is `atEnd`. -/
theorem State.finish_atEnd {u : State} (h : u.agenda = []) : u.finish = u.atEnd := by
  unfold State.finish
  rw [State.settle_nil _ h, State.arbitrate_eq]
  unfold State.syncTx Bus.onLine State.atEnd
  by_cases h1 : u.bus.tx = .send
  · simp only [h1, decide_true, Bool.true_or, if_true, true_or]
    rw [← h1]
  · by_cases h2 : u.bus.tx = .jam
    · simp only [h2, decide_true, Bool.or_true, if_true, or_true]
      rw [← h2]
    · simp [h1, h2, State.onBus, State.restingTx, State.mayTransmit, State.candidate]

/-- What is true of a state and kept by every signal is true after the signals are taken. -/
theorem State.settle_induct {P : State → Prop} (hrest : ∀ s rest, P s → P { s with agenda := rest })
    (hstep : ∀ s x, P s → P (s.handle x)) : ∀ (n : Nat) (s : State), P s → P (State.settle n s)
  | 0, _, h => h
  | n + 1, s, h => by
    unfold State.settle
    split
    · exact h
    · exact State.settle_induct hrest hstep n _ (hstep _ _ (hrest _ _ h))

/-- What is true of a state and kept by each round is true after all rounds. -/
theorem forEach_induct {α : Type} {P : State → Prop} {f : α → State → State}
    (hf : ∀ x s, P s → P (f x s)) : ∀ (xs : List α) (s : State), P s → P (forEach xs f s)
  | [], _, h => h
  | x :: xs, s, h => forEach_induct hf xs (f x s) (hf x s h)

/-! ### Leads, beats, the data-start mark -/

/-- A reached start-at has no lead. -/
theorem lead_reached {now t : ShowTime} (h : reached now t = true) : lead now t = 0 := by simp [lead, h]

/-- The lead of a start-at not reached is how far ahead it lies. -/
theorem lead_not_reached {now t : ShowTime} (h : reached now t = false) : lead now t = ahead now t := by
  simp [lead, h]

/-- When a beat is at hand. -/
theorem Clock.beatDue_iff (c : Clock) : c.beatDue = true ↔ c.running = true ∧ 24 ≤ c.samples := by
  rw [Clock.beatDue, Bool.and_eq_true, decide_eq_true_eq]; rfl

/-- When a sample period is at hand. -/
theorem Clock.sampleDue_iff (c : Clock) : c.sampleDue = true ↔ c.running = true ∧ c.samples < 24 := by
  rw [Clock.sampleDue, Bool.and_eq_true, decide_eq_true_eq]; rfl

/-- What follows the first data-start mark is the data. -/
theorem afterMark_append : ∀ {skipped : List Byte} (data : List Byte), dataStart ∉ skipped →
    afterMark (skipped ++ dataStart :: data) = data
  | [], _, _ => by simp [afterMark]
  | b :: rest, data, h => by
    have hb : b ≠ dataStart := fun e => h (by simp [e])
    have hr : dataStart ∉ rest := fun e => h (by simp [e])
    simp [afterMark, hb, afterMark_append data hr]

/-! ### What a command answers -/

/-- A command that may take effect answers the end of its instant. -/
theorem act_may {may : State → Bool} {effect : State → State} {s : State} (h : may s = true) :
    act may effect s = .next (effect s.tick).finish := by
  simp [act, h]

/-- A command that may not take effect answers the state as it stands. -/
theorem act_may_not {may : State → Bool} {effect : State → State} {s : State} (h : may s = false) :
    act may effect s = .next s := by
  simp [act, h]

/-- A command whose effect leaves no signal gives that effect. -/
theorem gives_of_act {c : Instr} {may : State → Bool} {effect : State → State} {s u : State}
    (hc : exec c s = act may effect s) (h : may s = true) (he : effect s.tick = u)
    (hu : u.agenda = []) : Gives c s u := by
  show exec c s = _
  rw [hc, act_may h, he, State.finish_atEnd hu]

/-! ### Awaits and cycle values -/

/-- The slot that judging leaves in place of `x`: RUNNING where it waited for what `met` picks. -/
def Slot.judged (met : Await → Bool) (x : Slot) : Slot :=
  match x.state, x.await with
  | .waiting, some w => if met w then { x with state := .running, await := none } else x
  | _, _ => x

/-- Judging one slot touches that slot alone. -/
theorem State.judgeSlot_slot (s : State) (met : Await → Bool) (i j : Fin 4) :
    (s.judgeSlot met i).slot j = if j = i then (s.slot i).judged met else s.slot j := by
  unfold State.judgeSlot Slot.judged
  by_cases hj : j = i
  · subst hj
    split
    · split <;> simp_all [State.awaitMet]
    · simp_all
  · split
    · split <;> simp [State.awaitMet, State.slot_onSlot_ne, hj]
    · simp [hj]

/-- What meeting awaits makes of each slot. -/
theorem State.meetAwaits_slot (s : State) (met : Await → Bool) (i : Fin 4) :
    (s.meetAwaits met).slot i = (s.slot i).judged met := by
  simp only [State.meetAwaits, forEach, List.foldl, State.judgeSlot_slot]
  fin_cases i <;> simp

/-- A channel that stays on its table keeps the cycle value of its last frame. -/
theorem Channel.cycleOf_same {x : Channel} {t : Fin 4} (h : x.course.table = some t) :
    x.cycleOf t = x.cyc := if_pos h

/-- A channel that comes to a table has no cycle value of it. -/
theorem Channel.cycleOf_other {x : Channel} {t : Fin 4} (h : x.course.table ≠ some t) :
    x.cycleOf t = none := if_neg h

end Sys2Proof.Machine
end

