-- ==== Sys2Proof/Laws/Keeps.lean ====
section
/-! SUPPORT. What every function of the state keeps, said once for each: the queue of commands, the counts of
the model, the pins and the station number stand; a sound fault list, sound rings and a sound Peer Table
stay sound; and, but for the few functions that write it, the Show Clock stands. -/

namespace Sys2Proof.Machine

/-- What stands and what stays sound from `s` to `t`. -/
structure Holds (s t : State) : Prop where
  pending : t.pending = s.pending
  beats : t.beats = s.beats
  instant : t.instant = s.instant
  pins : t.pins = s.pins
  number : t.sul.number = s.sul.number
  reset : t.sul.station = .reset → s.sul.station = .reset
  flt : s.flt.Sound → t.flt.Sound
  rings : s.RingsWf → t.RingsWf
  peers : s.PeersSound → t.PeersSound

/-- `Holds`, and the Show Clock stands. -/
structure Keeps (s t : State) : Prop extends Holds s t where
  clk : t.clk = s.clk

theorem Holds.refl (s : State) : Holds s s :=
  ⟨rfl, rfl, rfl, rfl, rfl, id, id, id, id⟩

theorem Keeps.refl (s : State) : Keeps s s := ⟨Holds.refl s, rfl⟩

theorem Holds.trans {s t u : State} (h : Holds s t) (g : Holds t u) : Holds s u :=
  ⟨g.pending.trans h.pending, g.beats.trans h.beats, g.instant.trans h.instant, g.pins.trans h.pins,
    g.number.trans h.number, h.reset ∘ g.reset, g.flt ∘ h.flt, g.rings ∘ h.rings, g.peers ∘ h.peers⟩

theorem Keeps.trans {s t u : State} (h : Keeps s t) (g : Keeps t u) : Keeps s u :=
  ⟨h.toHolds.trans g.toHolds, g.clk.trans h.clk⟩

theorem forEach_keeps {α : Type} {xs : List α} {f : α → State → State} {s₀ s : State} (h : Keeps s₀ s)
    (hf : ∀ x s, Keeps s (f x s)) : Keeps s₀ (forEach xs f s) := by
  induction xs generalizing s with
  | nil => exact h
  | cons x xs ih => exact ih (h.trans (hf x s))

/-! ### Writing one block -/

theorem State.onBus_keeps {s₀ s : State} (f : Bus → Bus) (h : Keeps s₀ s) : Keeps s₀ (s.onBus f) :=
  h.trans ⟨⟨rfl, rfl, rfl, rfl, rfl, id, id, id, id⟩, rfl⟩
theorem State.onViu_keeps {s₀ s : State} (f : Viu → Viu) (h : Keeps s₀ s) : Keeps s₀ (s.onViu f) :=
  h.trans ⟨⟨rfl, rfl, rfl, rfl, rfl, id, id, id, id⟩, rfl⟩
theorem State.onSce_keeps {s₀ s : State} (f : Sce → Sce) (h : Keeps s₀ s) : Keeps s₀ (s.onSce f) :=
  h.trans ⟨⟨rfl, rfl, rfl, rfl, rfl, id, id, id, id⟩, rfl⟩
theorem State.onLte_keeps {s₀ s : State} (f : Lte → Lte) (h : Keeps s₀ s) : Keeps s₀ (s.onLte f) :=
  h.trans ⟨⟨rfl, rfl, rfl, rfl, rfl, id, id, id, id⟩, rfl⟩
theorem State.onLgv_keeps {s₀ s : State} (f : Lgv → Lgv) (h : Keeps s₀ s) : Keeps s₀ (s.onLgv f) :=
  h.trans ⟨⟨rfl, rfl, rfl, rfl, rfl, id, id, id, id⟩, rfl⟩
theorem State.onMte_keeps {s₀ s : State} (f : Axis → Axis) (h : Keeps s₀ s) : Keeps s₀ (s.onMte f) :=
  h.trans ⟨⟨rfl, rfl, rfl, rfl, rfl, id, id, id, id⟩, rfl⟩
theorem State.onHld_keeps {s₀ s : State} (f : Hld → Hld) (h : Keeps s₀ s) : Keeps s₀ (s.onHld f) :=
  h.trans ⟨⟨rfl, rfl, rfl, rfl, rfl, id, id, id, id⟩, rfl⟩
theorem State.onSmp_keeps {s₀ s : State} (f : Port → Port) (h : Keeps s₀ s) : Keeps s₀ (s.onSmp f) :=
  h.trans ⟨⟨rfl, rfl, rfl, rfl, rfl, id, id, id, id⟩, rfl⟩
theorem State.setSlot_keeps {s₀ s : State} (i : Fin 4) (x : Slot) (h : Keeps s₀ s) :
    Keeps s₀ (s.setSlot i x) :=
  h.trans ⟨⟨rfl, rfl, rfl, rfl, rfl, id, id, id, id⟩, rfl⟩
theorem State.onSlot_keeps {s₀ s : State} (i : Fin 4) (f : Slot → Slot) (h : Keeps s₀ s) :
    Keeps s₀ (s.onSlot i f) :=
  h.trans ⟨⟨rfl, rfl, rfl, rfl, rfl, id, id, id, id⟩, rfl⟩
theorem State.setAxis_keeps {s₀ s : State} (a : Fin 4) (x : Axis) (h : Keeps s₀ s) :
    Keeps s₀ (s.setAxis a x) :=
  h.trans ⟨⟨rfl, rfl, rfl, rfl, rfl, id, id, id, id⟩, rfl⟩
theorem State.onAxis_keeps {s₀ s : State} (a : Fin 4) (f : Axis → Axis) (h : Keeps s₀ s) :
    Keeps s₀ (s.onAxis a f) :=
  h.trans ⟨⟨rfl, rfl, rfl, rfl, rfl, id, id, id, id⟩, rfl⟩
theorem State.setChannel_keeps {s₀ s : State} (c : Fin 16) (x : Channel) (h : Keeps s₀ s) :
    Keeps s₀ (s.setChannel c x) :=
  h.trans ⟨⟨rfl, rfl, rfl, rfl, rfl, id, id, id, id⟩, rfl⟩
theorem State.onChannel_keeps {s₀ s : State} (c : Fin 16) (f : Channel → Channel) (h : Keeps s₀ s) :
    Keeps s₀ (s.onChannel c f) :=
  h.trans ⟨⟨rfl, rfl, rfl, rfl, rfl, id, id, id, id⟩, rfl⟩
theorem State.onInput_keeps {s₀ s : State} (i : Fin 8) (f : InputRec → InputRec) (h : Keeps s₀ s) :
    Keeps s₀ (s.onInput i f) :=
  h.trans ⟨⟨rfl, rfl, rfl, rfl, rfl, id, id, id, id⟩, rfl⟩
theorem State.onGroup_keeps {s₀ s : State} (g : Fin 4) (f : Group → Group) (h : Keeps s₀ s) :
    Keeps s₀ (s.onGroup g f) :=
  h.trans ⟨⟨rfl, rfl, rfl, rfl, rfl, id, id, id, id⟩, rfl⟩
theorem State.setClaim_keeps {s₀ s : State} (p : Fin 6) (x : Option (Fin 4)) (h : Keeps s₀ s) :
    Keeps s₀ (s.setClaim p x) :=
  h.trans ⟨⟨rfl, rfl, rfl, rfl, rfl, id, id, id, id⟩, rfl⟩
theorem State.post_keeps {s₀ s : State} (xs : List Signal) (h : Keeps s₀ s) :
    Keeps s₀ (s.post xs) :=
  h.trans ⟨⟨rfl, rfl, rfl, rfl, rfl, id, id, id, id⟩, rfl⟩
theorem State.csc_keeps {s₀ s : State} (x : List PendingCue) (h : Keeps s₀ s) :
    Keeps s₀ { s with csc := x } :=
  h.trans ⟨⟨rfl, rfl, rfl, rfl, rfl, id, id, id, id⟩, rfl⟩
theorem State.cfg_keeps {s₀ s : State} (x : Option Config) (h : Keeps s₀ s) :
    Keeps s₀ { s with cfg := x } :=
  h.trans ⟨⟨rfl, rfl, rfl, rfl, rfl, id, id, id, id⟩, rfl⟩
theorem State.lteLgv_keeps {s₀ s : State} (x : Lte) (y : Lgv) (h : Keeps s₀ s) :
    Keeps s₀ { s with lte := x, lgv := y } :=
  h.trans ⟨⟨rfl, rfl, rfl, rfl, rfl, id, id, id, id⟩, rfl⟩
theorem State.agenda_keeps {s₀ s : State} (x : List Signal) (h : Keeps s₀ s) :
    Keeps s₀ { s with agenda := x } :=
  h.trans ⟨⟨rfl, rfl, rfl, rfl, rfl, id, id, id, id⟩, rfl⟩

theorem State.flt_keeps {s₀ s : State} (x : FaultList) (hf : s.flt.Sound → x.Sound) (h : Keeps s₀ s) :
    Keeps s₀ { s with flt := x } :=
  h.trans ⟨⟨rfl, rfl, rfl, rfl, rfl, id, hf, id, id⟩, rfl⟩

/-- The station state, written to any state but RESET, or not at all. -/
theorem State.onSul_keeps {s₀ s : State} (f : Sul → Sul) (hn : ∀ u : Sul, (f u).number = u.number)
    (hr : ∀ u : Sul, (f u).station = .reset → u.station = .reset) (h : Keeps s₀ s) :
    Keeps s₀ (s.onSul f) := by
  refine h.trans ⟨⟨rfl, rfl, rfl, rfl, hn _, hr _, id, id, ?_⟩, rfl⟩
  rintro ⟨ha, ho, he⟩
  exact ⟨ha, fun e h => by rw [State.onSul_sul, hn]; exact ho e h, fun h => he (hr _ h)⟩

/-- The Narration Engine, its rings kept sound. -/
theorem State.onNre_keeps {s₀ s : State} (f : Nre → Nre)
    (hr : ∀ n : Nre, ringWf n.a.ring = true → ringWf n.b.ring = true →
      ringWf (f n).a.ring = true ∧ ringWf (f n).b.ring = true) (h : Keeps s₀ s) :
    Keeps s₀ (s.onNre f) :=
  h.trans ⟨⟨rfl, rfl, rfl, rfl, rfl, id, id, fun hs => hr _ hs.1 hs.2, id⟩, rfl⟩

/-- A voice, its ring kept sound. -/
theorem State.setVoice_keeps {s₀ s : State} (v : Voice) (x : VoiceRec)
    (hr : ringWf (s.voice v).ring = true → ringWf x.ring = true) (h : Keeps s₀ s) :
    Keeps s₀ (s.setVoice v x) := by
  refine h.trans ?_
  cases v
  · exact ⟨⟨rfl, rfl, rfl, rfl, rfl, id, id, fun hs => ⟨hr hs.1, hs.2⟩, id⟩, rfl⟩
  · exact ⟨⟨rfl, rfl, rfl, rfl, rfl, id, id, fun hs => ⟨hs.1, hr hs.2⟩, id⟩, rfl⟩

theorem State.onVoice_keeps {s₀ s : State} (v : Voice) (f : VoiceRec → VoiceRec)
    (hr : ∀ x, ringWf x.ring = true → ringWf (f x).ring = true) (h : Keeps s₀ s) :
    Keeps s₀ (s.onVoice v f) :=
  State.setVoice_keeps _ _ (hr _) h

/-- A table made of entries of the stations that had one, in their order, is as sound as it was. -/
theorem State.ptb_keeps {s₀ s : State} (x : List Peer)
    (hx : (x.map (·.station)).Sublist (s.ptb.map (·.station))) (h : Keeps s₀ s) :
    Keeps s₀ { s with ptb := x } := by
  refine h.trans ⟨⟨rfl, rfl, rfl, rfl, rfl, id, id, id, ?_⟩, rfl⟩
  rintro ⟨ha, ho, he⟩
  refine ⟨List.pairwise_map.1 ((List.pairwise_map.2 ha).sublist hx), ?_, ?_⟩
  · intro e he
    obtain ⟨p, hp, hps⟩ := List.mem_map.1 (hx.subset (List.mem_map_of_mem (f := (·.station)) he))
    rw [← hps]
    exact ho p hp
  · intro hr
    have : s.ptb = [] := he hr
    simpa [this] using hx

/-! ### Rings through what a voice does -/

@[simp] theorem VoiceRec.prime_ring (x : VoiceRec) (m : AirMark) : (x.prime m).ring = x.ring := rfl
@[simp] theorem VoiceRec.dropNext_ring (x : VoiceRec) : x.dropNext.ring = x.ring := by
  unfold VoiceRec.dropNext; split <;> rfl
@[simp] theorem VoiceRec.tailStop_ring (x : VoiceRec) : x.tailStop.ring = x.ring := by
  unfold VoiceRec.tailStop; split <;> rfl
@[simp] theorem VoiceRec.sampleStep_ring (x : VoiceRec) : x.sampleStep.ring = x.ring := by
  unfold VoiceRec.sampleStep; split
  · split <;> rfl
  · split <;> rfl
  · rfl
@[simp] theorem VoiceRec.gateBeat_ring (x : VoiceRec) (hold : Bool) : (x.gateBeat hold).ring = x.ring := rfl
@[simp] theorem VoiceRec.empty_ring (x : VoiceRec) : x.empty.ring = [] := rfl
@[simp] theorem VoiceRec.silenced_ring (x : VoiceRec) : x.silenced.ring = [] := rfl
@[simp] theorem ringWf_empty : ringWf [] = true := rfl

/-! ### Requests of one block to another -/

theorem State.earlyRequest_keeps {s₀ s : State} (h : Keeps s₀ s) : Keeps s₀ s.earlyRequest :=
  State.onBus_keeps _ h
theorem State.regularRequest_keeps {s₀ s : State} (h : Keeps s₀ s) : Keeps s₀ s.regularRequest :=
  State.onBus_keeps _ h

theorem State.report_keeps {s₀ s : State} (k : FaultKind) (n : Nat) (d : DropSort) (h : Keeps s₀ s) :
    Keeps s₀ (s.report k n d) := by
  unfold State.report
  dsimp only
  split
  · exact State.earlyRequest_keeps (State.flt_keeps _ (FaultList.report_sound _ _) h)
  · exact State.flt_keeps _ (FaultList.report_sound _ _) h

/-! ### The functions of the blocks -/

/-! #### Requests.lean -/

theorem State.enqueue_keeps {s₀ s : State} (msg : OutMsg) (origin : Origin) (h : Keeps s₀ s) :
    Keeps s₀ (State.enqueue s msg origin) := by
  unfold State.enqueue
  try dsimp only
  repeat' (first
    | with_reducible exact h
    | with_reducible exact Keeps.refl _
    | with_reducible apply State.onBus_keeps
    | with_reducible apply State.report_keeps
    | split)

theorem State.arbitrate_keeps {s₀ s : State} (h : Keeps s₀ s) : Keeps s₀ (State.arbitrate s) := by
  unfold State.arbitrate
  try dsimp only
  repeat' (first
    | with_reducible exact h
    | with_reducible exact Keeps.refl _
    | with_reducible apply State.onSmp_keeps
    | split)

theorem State.askPort_keeps {s₀ s : State} (who : Requester) (address count : Nat) (h : Keeps s₀ s) :
    Keeps s₀ (State.askPort s who address count) := by
  unfold State.askPort
  try dsimp only
  repeat' (first
    | with_reducible exact h
    | with_reducible exact Keeps.refl _
    | with_reducible apply State.post_keeps
    | with_reducible apply State.onSmp_keeps
    | with_reducible apply State.arbitrate_keeps
    | split)

theorem State.portReady_keeps {s₀ s : State} (h : Keeps s₀ s) : Keeps s₀ (State.portReady s) := by
  unfold State.portReady
  try dsimp only
  repeat' (first
    | with_reducible exact h
    | with_reducible exact Keeps.refl _
    | with_reducible apply State.onSmp_keeps)

/-! #### Flags.lean -/

theorem State.setFlag_keeps {s₀ s : State} (f : Fin 4) (v : Bool) (h : Keeps s₀ s) :
    Keeps s₀ (State.setFlag s f v) := by
  unfold State.setFlag
  try dsimp only
  repeat' (first
    | with_reducible exact h
    | with_reducible exact Keeps.refl _
    | with_reducible apply State.onSce_keeps
    | with_reducible apply State.earlyRequest_keeps
    | split)

theorem State.clearFlags_keeps {s₀ s : State} (h : Keeps s₀ s) : Keeps s₀ (State.clearFlags s) := by
  unfold State.clearFlags
  try dsimp only
  repeat' (first
    | with_reducible exact h
    | with_reducible exact Keeps.refl _
    | with_reducible (refine forEach_keeps ?_ (fun x s => ?_))
    | with_reducible apply State.setFlag_keeps)

/-! #### Clock.lean -/

theorem State.takePendingCues_keeps {s₀ s : State} (h : Keeps s₀ s) :
    Keeps s₀ (State.takePendingCues s) := by
  unfold State.takePendingCues
  try dsimp only
  repeat' (first
    | with_reducible exact h
    | with_reducible exact Keeps.refl _
    | with_reducible apply State.post_keeps
    | with_reducible apply State.csc_keeps)

/-! #### Governor.lean -/

theorem State.recompute_keeps {s₀ s : State} (h : Keeps s₀ s) : Keeps s₀ (State.recompute s) := by
  unfold State.recompute
  try dsimp only
  repeat' (first
    | with_reducible exact h
    | with_reducible exact Keeps.refl _
    | with_reducible apply State.onLgv_keeps
    | with_reducible apply State.post_keeps
    | split)

/-! #### Lighting.lean -/

theorem State.lightingFrame_keeps {s₀ s : State} (h : Keeps s₀ s) : Keeps s₀ s.lightingFrame := by
  unfold State.lightingFrame
  split
  · exact h
  · exact State.post_keeps _ (State.lteLgv_keeps _ _ h)

theorem State.lightsHoldBegins_keeps {s₀ s : State} (h : Keeps s₀ s) :
    Keeps s₀ (State.lightsHoldBegins s) := by
  unfold State.lightsHoldBegins
  try dsimp only
  repeat' (first
    | with_reducible exact h
    | with_reducible exact Keeps.refl _
    | with_reducible apply State.onLte_keeps)

theorem State.lightsHoldEnds_keeps {s₀ s : State} (h : Keeps s₀ s) :
    Keeps s₀ (State.lightsHoldEnds s) := by
  unfold State.lightsHoldEnds
  try dsimp only
  repeat' (first
    | with_reducible exact h
    | with_reducible exact Keeps.refl _
    | with_reducible apply State.onLte_keeps)

theorem State.lightsAccept_keeps {s₀ s : State} (old : Option Config) (cfg : Config) (h : Keeps s₀ s) :
    Keeps s₀ (State.lightsAccept s old cfg) := by
  unfold State.lightsAccept
  try dsimp only
  repeat' (first
    | with_reducible exact h
    | with_reducible exact Keeps.refl _
    | with_reducible apply State.onLte_keeps
    | split)

theorem State.lightsDark_keeps {s₀ s : State} (h : Keeps s₀ s) : Keeps s₀ (State.lightsDark s) := by
  unfold State.lightsDark
  try dsimp only
  repeat' (first
    | with_reducible exact h
    | with_reducible exact Keeps.refl _
    | with_reducible apply State.onLte_keeps)

/-! #### Narration.lean -/

theorem State.primeTest_keeps {s₀ s : State} (v : Voice) (h : Keeps s₀ s) :
    Keeps s₀ (State.primeTest s v) := by
  unfold State.primeTest
  try dsimp only
  repeat' (first
    | with_reducible exact h
    | with_reducible exact Keeps.refl _
    | with_reducible apply State.setVoice_keeps (hr := fun h => by exact h)
    | split)

theorem State.refill_keeps {s₀ s : State} (v : Voice) (h : Keeps s₀ s) :
    Keeps s₀ (State.refill s v) := by
  unfold State.refill
  try dsimp only
  repeat' (first
    | with_reducible exact h
    | with_reducible exact Keeps.refl _
    | with_reducible apply State.askPort_keeps
    | with_reducible apply State.setVoice_keeps (hr := fun h => by exact h)
    | split)

theorem State.chain_keeps {s₀ s : State} (v : Voice) (h : Keeps s₀ s) : Keeps s₀ (State.chain s v) := by
  unfold State.chain
  try dsimp only
  repeat' (first
    | with_reducible exact h
    | with_reducible exact Keeps.refl _
    | with_reducible apply State.refill_keeps
    | with_reducible apply State.setVoice_keeps (hr := fun h => by exact h)
    | split)

theorem State.enterPriming_keeps {s₀ s : State} (v : Voice) (air : AirMark) (h : Keeps s₀ s) :
    Keeps s₀ (State.enterPriming s v air) := by
  unfold State.enterPriming
  try dsimp only
  repeat' (first
    | with_reducible exact h
    | with_reducible exact Keeps.refl _
    | with_reducible apply State.refill_keeps
    | with_reducible apply State.primeTest_keeps
    | with_reducible apply State.onVoice_keeps (hr := fun _ h => by first | exact h | simpa using h))

theorem State.shareAir_keeps {s₀ s : State} (v : Voice) (h : Keeps s₀ s) :
    Keeps s₀ (State.shareAir s v) := by
  unfold State.shareAir
  try dsimp only
  repeat' (first
    | with_reducible exact h
    | with_reducible exact Keeps.refl _
    | with_reducible apply State.enterPriming_keeps
    | split)

theorem State.syncTalking_keeps {s₀ s : State} (h : Keeps s₀ s) : Keeps s₀ (State.syncTalking s) := by
  unfold State.syncTalking
  try dsimp only
  repeat' (first
    | with_reducible exact h
    | with_reducible exact Keeps.refl _
    | with_reducible apply State.earlyRequest_keeps
    | with_reducible apply State.shareAir_keeps
    | with_reducible apply State.onNre_keeps (hr := fun _ ha hb => ⟨by exact ha, by exact hb⟩)
    | split)

theorem State.judgeAir_keeps {s₀ s : State} (v : Voice) (h : Keeps s₀ s) :
    Keeps s₀ (State.judgeAir s v) := by
  unfold State.judgeAir
  try dsimp only
  repeat' (first
    | with_reducible exact h
    | with_reducible exact Keeps.refl _
    | with_reducible apply State.enqueue_keeps
    | with_reducible apply State.setVoice_keeps (hr := fun h => by exact h)
    | split)

theorem State.backOff_keeps {s₀ s : State} (v : Voice) (h : Keeps s₀ s) :
    Keeps s₀ (State.backOff s v) := by
  unfold State.backOff
  try dsimp only
  repeat' (first
    | with_reducible exact h
    | with_reducible exact Keeps.refl _
    | with_reducible apply State.setVoice_keeps (hr := fun h => by exact h)
    | split)

theorem State.airPresented_keeps {s₀ s : State} (v : Voice) (talking : Bool) (h : Keeps s₀ s) :
    Keeps s₀ (State.airPresented s v talking) := by
  unfold State.airPresented
  try dsimp only
  repeat' (first
    | with_reducible exact h
    | with_reducible exact Keeps.refl _
    | with_reducible apply State.backOff_keeps
    | with_reducible apply State.judgeAir_keeps
    | split)

theorem State.startHead_keeps {s₀ s : State} (v : Voice) (h : Keeps s₀ s) :
    Keeps s₀ (State.startHead s v) := by
  unfold State.startHead
  try dsimp only
  repeat' (first
    | with_reducible exact h
    | with_reducible exact Keeps.refl _
    | with_reducible apply State.post_keeps
    | with_reducible apply State.enterPriming_keeps
    | with_reducible apply State.judgeAir_keeps
    | with_reducible apply State.setVoice_keeps (hr := fun h => by exact h)
    | split)

theorem State.stopCurrent_keeps {s₀ s : State} (v : Voice) (h : Keeps s₀ s) :
    Keeps s₀ (State.stopCurrent s v) := by
  unfold State.stopCurrent
  try dsimp only
  repeat' (first
    | with_reducible exact h
    | with_reducible exact Keeps.refl _
    | with_reducible apply State.startHead_keeps
    | with_reducible apply State.post_keeps
    | with_reducible apply State.setVoice_keeps (hr := fun h => by first | exact h | simpa using h)
    | split)

theorem State.stopNext_keeps {s₀ s : State} (v : Voice) (h : Keeps s₀ s) :
    Keeps s₀ (State.stopNext s v) := by
  unfold State.stopNext
  try dsimp only
  repeat' (first
    | with_reducible exact h
    | with_reducible exact Keeps.refl _
    | with_reducible apply State.post_keeps
    | with_reducible apply State.onVoice_keeps (hr := fun _ h => by first | exact h | simpa using h)
    | split)

theorem State.stopForRun_keeps {s₀ s : State} (v : Voice) (i : Fin 4) (h : Keeps s₀ s) :
    Keeps s₀ (State.stopForRun s v i) := by
  unfold State.stopForRun
  try dsimp only
  repeat' (first
    | with_reducible exact h
    | with_reducible exact Keeps.refl _
    | with_reducible apply State.stopNext_keeps
    | with_reducible apply State.stopCurrent_keeps
    | with_reducible apply State.syncTalking_keeps
    | with_reducible apply State.onVoice_keeps (hr := fun _ h => by exact h)
    | split)

theorem State.takeClip_keeps {s₀ s : State} (v : Voice) (q : Queued) (h : Keeps s₀ s) :
    Keeps s₀ (State.takeClip s v q) := by
  unfold State.takeClip
  try dsimp only
  repeat' (first
    | with_reducible exact h
    | with_reducible exact Keeps.refl _
    | with_reducible apply State.stopNext_keeps
    | with_reducible apply State.startHead_keeps
    | with_reducible apply State.stopCurrent_keeps
    | with_reducible apply State.syncTalking_keeps
    | with_reducible apply State.chain_keeps
    | with_reducible apply State.report_keeps
    | with_reducible apply State.onVoice_keeps (hr := fun _ h => by exact h)
    | split)

theorem State.abandonBurst_keeps {s₀ s : State} (v : Voice) (h : Keeps s₀ s) :
    Keeps s₀ (State.abandonBurst s v) := by
  unfold State.abandonBurst
  try dsimp only
  repeat' (first
    | with_reducible exact h
    | with_reducible exact Keeps.refl _
    | with_reducible apply State.stopNext_keeps
    | with_reducible apply State.chain_keeps
    | with_reducible apply State.syncTalking_keeps
    | with_reducible apply State.refill_keeps
    | with_reducible apply State.setVoice_keeps (hr := fun h => by exact h)
    | with_reducible apply State.onVoice_keeps (hr := fun _ h => by first | exact h | simpa using h)
    | split)

theorem State.burstDone_keeps {s₀ s : State} (v : Voice) (data : List Byte) (h : Keeps s₀ s) :
    Keeps s₀ (s.burstDone v data) := by
  unfold State.burstDone
  dsimp only
  have ht : Keeps s₀ (s.setVoice v ((s.voice v).takeBurst (samplesOf data))) :=
    State.setVoice_keeps _ _ (fun hr => ringWrite_wf _ _ hr) h
  split
  · split
    · exact State.syncTalking_keeps (State.refill_keeps _ (State.primeTest_keeps _ ht))
    · exact State.syncTalking_keeps
        (State.refill_keeps _ (State.primeTest_keeps _ (State.chain_keeps _ ht)))
  · exact State.refill_keeps _ (State.setVoice_keeps _ _ (fun hr => hr) h)
  · exact h

theorem State.voiceSample_keeps {s₀ s : State} (v : Voice) (h : Keeps s₀ s) :
    Keeps s₀ (State.voiceSample s v) := by
  unfold State.voiceSample
  try dsimp only
  repeat' (first
    | with_reducible exact h
    | with_reducible exact Keeps.refl _
    | with_reducible apply State.report_keeps
    | with_reducible apply State.setVoice_keeps (hr := fun h => by first | exact h | simpa using h)
    | split)

theorem State.nre_keeps {s₀ s : State} (x : Nre) (ha : x.a.ring = s.nre.a.ring)
    (hb : x.b.ring = s.nre.b.ring) (h : Keeps s₀ s) : Keeps s₀ { s with nre := x } :=
  h.trans ⟨⟨rfl, rfl, rfl, rfl, rfl, id, id, fun hs => ⟨by rw [ha]; exact hs.1, by rw [hb]; exact hs.2⟩,
    id⟩, rfl⟩

theorem State.narrationSample_keeps {s₀ s : State} (h : Keeps s₀ s) : Keeps s₀ s.narrationSample := by
  unfold State.narrationSample
  exact State.refill_keeps _ (State.refill_keeps _ (State.nre_keeps _ rfl rfl
    (State.onNre_keeps _ (fun _ ha hb => ⟨ha, hb⟩)
      (State.voiceSample_keeps _ (State.voiceSample_keeps _ h)))))

theorem State.endClip_keeps {s₀ s : State} (v : Voice) (h : Keeps s₀ s) :
    Keeps s₀ (State.endClip s v) := by
  unfold State.endClip
  try dsimp only
  repeat' (first
    | with_reducible exact h
    | with_reducible exact Keeps.refl _
    | with_reducible apply State.refill_keeps
    | with_reducible apply State.post_keeps
    | with_reducible apply State.syncTalking_keeps
    | with_reducible apply State.startHead_keeps
    | with_reducible apply State.setVoice_keeps (hr := fun h => by exact h)
    | split)

theorem State.endTail_keeps {s₀ s : State} (v : Voice) (h : Keeps s₀ s) :
    Keeps s₀ (State.endTail s v) := by
  unfold State.endTail
  try dsimp only
  repeat' (first
    | with_reducible exact h
    | with_reducible exact Keeps.refl _
    | with_reducible apply State.startHead_keeps
    | with_reducible apply State.post_keeps
    | with_reducible apply State.syncTalking_keeps
    | with_reducible apply State.setVoice_keeps (hr := fun h => by first | exact h | simp)
    | split)

theorem State.endRetry_keeps {s₀ s : State} (v : Voice) (h : Keeps s₀ s) :
    Keeps s₀ (State.endRetry s v) := by
  unfold State.endRetry
  try dsimp only
  repeat' (first
    | with_reducible exact h
    | with_reducible exact Keeps.refl _
    | with_reducible apply State.judgeAir_keeps
    | with_reducible apply State.onVoice_keeps (hr := fun _ h => by exact h))

theorem State.grant_keeps {s₀ s : State} (v : Voice) (h : Keeps s₀ s) : Keeps s₀ (State.grant s v) := by
  unfold State.grant
  try dsimp only
  repeat' (first
    | with_reducible exact h
    | with_reducible exact Keeps.refl _
    | with_reducible apply State.enterPriming_keeps
    | with_reducible apply State.syncTalking_keeps)

theorem State.passQuietLimit_keeps {s₀ s : State} (v : Voice) (h : Keeps s₀ s) :
    Keeps s₀ (State.passQuietLimit s v) := by
  unfold State.passQuietLimit
  try dsimp only
  repeat' (first
    | with_reducible exact h
    | with_reducible exact Keeps.refl _
    | with_reducible apply State.enterPriming_keeps
    | with_reducible apply State.syncTalking_keeps
    | with_reducible apply State.report_keeps
    | with_reducible apply State.startHead_keeps
    | with_reducible apply State.post_keeps
    | with_reducible apply State.onVoice_keeps (hr := fun _ h => by exact h)
    | split)

theorem State.talkSent_keeps {s₀ s : State} (v : Voice) (id : Nat) (h : Keeps s₀ s) :
    Keeps s₀ (State.talkSent s v id) := by
  unfold State.talkSent
  try dsimp only
  repeat' (first
    | with_reducible exact h
    | with_reducible exact Keeps.refl _
    | with_reducible apply State.setVoice_keeps (hr := fun h => by exact h)
    | split)

theorem State.talkLost_keeps {s₀ s : State} (v : Voice) (id : Nat) (h : Keeps s₀ s) :
    Keeps s₀ (State.talkLost s v id) := by
  unfold State.talkLost
  try dsimp only
  repeat' (first
    | with_reducible exact h
    | with_reducible exact Keeps.refl _
    | with_reducible apply State.backOff_keeps
    | split)

theorem State.voiceHoldBegins_keeps {s₀ s : State} (v : Voice) (h : Keeps s₀ s) :
    Keeps s₀ (State.voiceHoldBegins s v) := by
  unfold State.voiceHoldBegins
  try dsimp only
  repeat' (first
    | with_reducible exact h
    | with_reducible exact Keeps.refl _
    | with_reducible apply State.setVoice_keeps (hr := fun h => by exact h)
    | split)

theorem State.voiceHoldEnds_keeps {s₀ s : State} (v : Voice) (h : Keeps s₀ s) :
    Keeps s₀ (State.voiceHoldEnds s v) := by
  unfold State.voiceHoldEnds
  try dsimp only
  repeat' (first
    | with_reducible exact h
    | with_reducible exact Keeps.refl _
    | with_reducible apply State.refill_keeps
    | with_reducible apply State.primeTest_keeps
    | with_reducible apply State.judgeAir_keeps
    | with_reducible apply State.setVoice_keeps (hr := fun h => by exact h)
    | split)

/-! #### Motion.lean -/

theorem State.reportAxis_keeps {s₀ s : State} (a : Fin 4) (h : Keeps s₀ s) :
    Keeps s₀ (State.reportAxis s a) := by
  unfold State.reportAxis
  try dsimp only
  repeat' (first
    | with_reducible exact h
    | with_reducible exact Keeps.refl _
    | with_reducible apply State.post_keeps)

theorem State.releaseReservation_keeps {s₀ s : State} (a : Fin 4) (h : Keeps s₀ s) :
    Keeps s₀ (State.releaseReservation s a) := by
  unfold State.releaseReservation
  try dsimp only
  repeat' (first
    | with_reducible exact h
    | with_reducible exact Keeps.refl _
    | with_reducible apply State.onLgv_keeps
    | with_reducible apply State.post_keeps
    | split)

theorem State.leaveLine_keeps {s₀ s : State} (a : Fin 4) (h : Keeps s₀ s) :
    Keeps s₀ (State.leaveLine s a) := by
  unfold State.leaveLine
  try dsimp only
  repeat' (first
    | with_reducible exact h
    | with_reducible exact Keeps.refl _
    | with_reducible apply State.onLgv_keeps
    | with_reducible apply State.post_keeps
    | split)

theorem State.reportIfChanged_keeps {s₀ s : State} (a : Fin 4) (before : AxisState) (h : Keeps s₀ s) :
    Keeps s₀ (State.reportIfChanged s a before) := by
  unfold State.reportIfChanged
  try dsimp only
  repeat' (first
    | with_reducible exact h
    | with_reducible exact Keeps.refl _
    | with_reducible apply State.reportAxis_keeps
    | split)

theorem State.putAxis_keeps {s₀ s : State} (a : Fin 4) (x : Axis) (h : Keeps s₀ s) :
    Keeps s₀ (State.putAxis s a x) := by
  unfold State.putAxis
  try dsimp only
  repeat' (first
    | with_reducible exact h
    | with_reducible exact Keeps.refl _
    | with_reducible apply State.setAxis_keeps
    | with_reducible apply State.reportIfChanged_keeps)

theorem State.guardFalls_keeps {s₀ s : State} (a : Fin 4) (h : Keeps s₀ s) :
    Keeps s₀ (State.guardFalls s a) := by
  unfold State.guardFalls
  try dsimp only
  repeat' (first
    | with_reducible exact h
    | with_reducible exact Keeps.refl _
    | with_reducible apply State.putAxis_keeps)

theorem State.joinLine_keeps {s₀ s : State} (a : Fin 4) (m : Move) (h : Keeps s₀ s) :
    Keeps s₀ (State.joinLine s a m) := by
  unfold State.joinLine
  try dsimp only
  repeat' (first
    | with_reducible exact h
    | with_reducible exact Keeps.refl _
    | with_reducible apply State.putAxis_keeps
    | with_reducible apply State.onLgv_keeps
    | with_reducible apply State.post_keeps)

theorem State.resume_keeps {s₀ s : State} (a : Fin 4) (h : Keeps s₀ s) :
    Keeps s₀ (State.resume s a) := by
  unfold State.resume
  try dsimp only
  repeat' (first
    | with_reducible exact h
    | with_reducible exact Keeps.refl _
    | with_reducible apply State.joinLine_keeps
    | split)

theorem State.admitAxis_keeps {s₀ s : State} (a : Fin 4) (c : AxisCfg) (h : Keeps s₀ s) :
    Keeps s₀ (State.admitAxis s a c) := by
  unfold State.admitAxis
  try dsimp only
  repeat' (first
    | with_reducible exact h
    | with_reducible exact Keeps.refl _
    | with_reducible apply State.onLgv_keeps
    | with_reducible apply State.putAxis_keeps
    | with_reducible apply State.releaseReservation_keeps
    | split)

theorem State.examineLine_keeps {s₀ s : State} (h : Keeps s₀ s) : Keeps s₀ (State.examineLine s) := by
  unfold State.examineLine
  try dsimp only
  repeat' (first
    | with_reducible exact h
    | with_reducible exact Keeps.refl _
    | with_reducible apply State.admitAxis_keeps
    | with_reducible apply State.post_keeps
    | split)

theorem State.notReady_keeps {s₀ s : State} (a : Fin 4) (h : Keeps s₀ s) :
    Keeps s₀ (State.notReady s a) := by
  unfold State.notReady
  try dsimp only
  repeat' (first
    | with_reducible exact h
    | with_reducible exact Keeps.refl _
    | with_reducible apply State.report_keeps)

theorem State.moveAxis_keeps {s₀ s : State} (a : Fin 4) (target : Int) (profile : Fin 4) (h : Keeps s₀ s) :
    Keeps s₀ (State.moveAxis s a target profile) := by
  unfold State.moveAxis
  try dsimp only
  repeat' (first
    | with_reducible exact h
    | with_reducible exact Keeps.refl _
    | with_reducible apply State.setAxis_keeps
    | with_reducible apply State.reportAxis_keeps
    | with_reducible apply State.joinLine_keeps
    | with_reducible apply State.putAxis_keeps
    | with_reducible apply State.resume_keeps
    | with_reducible apply State.notReady_keeps
    | split)

theorem State.homeAxis_keeps {s₀ s : State} (a : Fin 4) (h : Keeps s₀ s) :
    Keeps s₀ (State.homeAxis s a) := by
  unfold State.homeAxis
  try dsimp only
  repeat' (first
    | with_reducible exact h
    | with_reducible exact Keeps.refl _
    | with_reducible apply State.joinLine_keeps
    | with_reducible apply State.setAxis_keeps
    | with_reducible apply State.notReady_keeps
    | split)

theorem State.abortAxis_keeps {s₀ s : State} (a : Fin 4) (h : Keeps s₀ s) :
    Keeps s₀ (State.abortAxis s a) := by
  unfold State.abortAxis
  try dsimp only
  repeat' (first
    | with_reducible exact h
    | with_reducible exact Keeps.refl _
    | with_reducible apply State.putAxis_keeps
    | with_reducible apply State.setAxis_keeps
    | with_reducible apply State.leaveLine_keeps
    | split)

theorem State.starve_keeps {s₀ s : State} (a : Fin 4) (h : Keeps s₀ s) :
    Keeps s₀ (State.starve s a) := by
  unfold State.starve
  try dsimp only
  repeat' (first
    | with_reducible exact h
    | with_reducible exact Keeps.refl _
    | with_reducible apply State.report_keeps
    | with_reducible apply State.putAxis_keeps
    | with_reducible apply State.leaveLine_keeps)

theorem State.clearGuard_keeps {s₀ s : State} (a : Fin 4) (h : Keeps s₀ s) :
    Keeps s₀ (State.clearGuard s a) := by
  unfold State.clearGuard
  try dsimp only
  repeat' (first
    | with_reducible exact h
    | with_reducible exact Keeps.refl _
    | with_reducible apply State.onAxis_keeps
    | with_reducible apply State.resume_keeps)

theorem State.axisHoldBegins_keeps {s₀ s : State} (a : Fin 4) (h : Keeps s₀ s) :
    Keeps s₀ (State.axisHoldBegins s a) := by
  unfold State.axisHoldBegins
  try dsimp only
  repeat' (first
    | with_reducible exact h
    | with_reducible exact Keeps.refl _
    | with_reducible apply State.putAxis_keeps)

theorem State.syncLocalHold_keeps {s₀ s : State} (h : Keeps s₀ s) :
    Keeps s₀ (State.syncLocalHold s) := by
  unfold State.syncLocalHold
  try dsimp only
  repeat' (first
    | with_reducible exact h
    | with_reducible exact Keeps.refl _
    | with_reducible apply State.onHld_keeps
    | with_reducible apply State.earlyRequest_keeps
    | split)

theorem State.axisPeriod_keeps (a : Fin 4) {s₀ s : State} (h : Keeps s₀ s) :
    Keeps s₀ (State.axisPeriod a s) := by
  unfold State.axisPeriod
  try dsimp only
  repeat' (first
    | with_reducible exact h
    | with_reducible exact Keeps.refl _
    | with_reducible apply State.putAxis_keeps
    | with_reducible apply State.releaseReservation_keeps
    | with_reducible apply State.resume_keeps
    | with_reducible apply State.report_keeps
    | with_reducible apply State.syncLocalHold_keeps
    | with_reducible apply State.setAxis_keeps
    | split)

theorem State.axisAccept_keeps (first : Bool) (c : Config) (a : Fin 4) {s₀ s : State}
    (h : Keeps s₀ s) :
    Keeps s₀ (State.axisAccept first c a s) := by
  unfold State.axisAccept
  try dsimp only
  repeat' (first
    | with_reducible exact h
    | with_reducible exact Keeps.refl _
    | with_reducible apply State.onAxis_keeps
    | with_reducible apply State.putAxis_keeps
    | with_reducible apply State.leaveLine_keeps
    | with_reducible apply State.releaseReservation_keeps
    | with_reducible apply State.resume_keeps
    | split)

/-! #### Hold.lean -/

theorem State.holdBeat_keeps {s₀ s : State} (holdOther : Bool) (h : Keeps s₀ s) :
    Keeps s₀ (State.holdBeat s holdOther) := by
  unfold State.holdBeat
  try dsimp only
  repeat' (first
    | with_reducible exact h
    | with_reducible exact Keeps.refl _
    | with_reducible apply State.onHld_keeps
    | split)

theorem State.holdReported_keeps {s₀ s : State} (h : Keeps s₀ s) : Keeps s₀ (State.holdReported s) := by
  unfold State.holdReported
  try dsimp only
  repeat' (first
    | with_reducible exact h
    | with_reducible exact Keeps.refl _
    | with_reducible apply State.onHld_keeps)

theorem State.reportStuck_keeps {s₀ s : State} (h : Keeps s₀ s) : Keeps s₀ (State.reportStuck s) := by
  unfold State.reportStuck
  try dsimp only
  repeat' (first
    | with_reducible exact h
    | with_reducible exact Keeps.refl _
    | with_reducible apply State.onHld_keeps
    | with_reducible apply State.report_keeps)

theorem State.beginHold_keeps {s₀ s : State} (h : Keeps s₀ s) : Keeps s₀ (State.beginHold s) := by
  unfold State.beginHold
  try dsimp only
  repeat' (first
    | with_reducible exact h
    | with_reducible exact Keeps.refl _
    | with_reducible (refine forEach_keeps ?_ (fun x s => ?_))
    | with_reducible apply State.onHld_keeps
    | with_reducible apply State.lightsHoldBegins_keeps
    | with_reducible apply State.voiceHoldBegins_keeps
    | with_reducible apply State.axisHoldBegins_keeps)

theorem State.endHold_keeps {s₀ s : State} (h : Keeps s₀ s) : Keeps s₀ (State.endHold s) := by
  unfold State.endHold
  try dsimp only
  repeat' (first
    | with_reducible exact h
    | with_reducible exact Keeps.refl _
    | with_reducible (refine forEach_keeps ?_ (fun x s => ?_))
    | with_reducible apply State.onHld_keeps
    | with_reducible apply State.lightsHoldEnds_keeps
    | with_reducible apply State.post_keeps
    | with_reducible apply State.runCues_keeps
    | with_reducible apply State.serve_keeps
    | with_reducible apply State.resume_keeps
    | with_reducible apply State.voiceHoldEnds_keeps
    | with_reducible apply State.syncTalking_keeps)

/-! #### Inputs.lean -/

theorem State.markStuck_keeps {s₀ s : State} (i : Fin 8) (h : Keeps s₀ s) :
    Keeps s₀ (State.markStuck s i) := by
  unfold State.markStuck
  try dsimp only
  repeat' (first
    | with_reducible exact h
    | with_reducible exact Keeps.refl _
    | with_reducible apply State.onInput_keeps
    | with_reducible apply State.report_keeps)

theorem State.groupEnters_keeps {s₀ s : State} (g : Fin 4) (state : GroupState) (timer : Nat)
    (h : Keeps s₀ s) :
    Keeps s₀ (State.groupEnters s g state timer) := by
  unfold State.groupEnters
  try dsimp only
  repeat' (first
    | with_reducible exact h
    | with_reducible exact Keeps.refl _
    | with_reducible apply State.onGroup_keeps
    | with_reducible apply State.post_keeps)

theorem State.groupArrives_keeps {s₀ s : State} (g : Fin 4) (h : Keeps s₀ s) :
    Keeps s₀ (State.groupArrives s g) := by
  unfold State.groupArrives
  try dsimp only
  repeat' (first
    | with_reducible exact h
    | with_reducible exact Keeps.refl _
    | with_reducible apply State.post_keeps
    | with_reducible apply State.groupEnters_keeps
    | split)

theorem State.memberChanged_keeps {s₀ s : State} (g : Fin 4) (activation : Bool) (h : Keeps s₀ s) :
    Keeps s₀ (State.memberChanged s g activation) := by
  unfold State.memberChanged
  try dsimp only
  repeat' (first
    | with_reducible exact h
    | with_reducible exact Keeps.refl _
    | with_reducible apply State.groupArrives_keeps
    | with_reducible apply State.groupEnters_keeps
    | split)

theorem State.judgeGroups_keeps {s₀ s : State} (h : Keeps s₀ s) : Keeps s₀ (State.judgeGroups s) := by
  unfold State.judgeGroups
  try dsimp only
  repeat' (first
    | with_reducible exact h
    | with_reducible exact Keeps.refl _
    | with_reducible (refine forEach_keeps ?_ (fun x s => ?_))
    | with_reducible apply State.onViu_keeps
    | with_reducible apply State.groupArrives_keeps
    | split)

theorem State.press_keeps {s₀ s : State} (i : Fin 8) (c : InputCfg) (h : Keeps s₀ s) :
    Keeps s₀ (State.press s i c) := by
  unfold State.press
  try dsimp only
  repeat' (first
    | with_reducible exact h
    | with_reducible exact Keeps.refl _
    | with_reducible apply State.onInput_keeps
    | with_reducible apply State.post_keeps
    | with_reducible apply State.enqueue_keeps
    | split)

theorem State.buttonChanged_keeps {s₀ s : State} (i : Fin 8) (c : InputCfg) (activation : Bool)
    (h : Keeps s₀ s) :
    Keeps s₀ (State.buttonChanged s i c activation) := by
  unfold State.buttonChanged
  try dsimp only
  repeat' (first
    | with_reducible exact h
    | with_reducible exact Keeps.refl _
    | with_reducible apply State.onInput_keeps
    | with_reducible apply State.press_keeps
    | split)

theorem State.guardPresented_keeps {s₀ s : State} (i : Fin 8) (activation : Bool) (h : Keeps s₀ s) :
    Keeps s₀ (State.guardPresented s i activation) := by
  unfold State.guardPresented
  try dsimp only
  repeat' (first
    | with_reducible exact h
    | with_reducible exact Keeps.refl _
    | with_reducible (refine forEach_keeps ?_ (fun x s => ?_))
    | with_reducible apply State.guardFalls_keeps
    | with_reducible apply State.clearGuard_keeps
    | split)

theorem State.changeInput_keeps {s₀ s : State} (i : Fin 8) (h : Keeps s₀ s) :
    Keeps s₀ (State.changeInput s i) := by
  unfold State.changeInput
  try dsimp only
  repeat' (first
    | with_reducible exact h
    | with_reducible exact Keeps.refl _
    | with_reducible apply State.onInput_keeps
    | with_reducible apply State.buttonChanged_keeps
    | with_reducible apply State.memberChanged_keeps
    | with_reducible apply State.guardPresented_keeps
    | with_reducible apply State.syncLocalHold_keeps
    | split)

theorem State.inputsBeat_keeps {s₀ s : State} (pins : Pins) (h : Keeps s₀ s) :
    Keeps s₀ (State.inputsBeat s pins) := by
  unfold State.inputsBeat
  try dsimp only
  repeat' (first
    | with_reducible exact h
    | with_reducible exact Keeps.refl _
    | with_reducible (refine forEach_keeps ?_ (fun x s => ?_))
    | with_reducible apply State.onInput_keeps
    | with_reducible apply State.onViu_keeps
    | with_reducible apply State.judgeGroups_keeps
    | split)

theorem State.clearLatch_keeps {s₀ s : State} (i : Fin 8) (h : Keeps s₀ s) :
    Keeps s₀ (State.clearLatch s i) := by
  unfold State.clearLatch
  try dsimp only
  repeat' (first
    | with_reducible exact h
    | with_reducible exact Keeps.refl _
    | with_reducible apply State.onInput_keeps)

theorem State.idleGroups_keeps {s₀ s : State} (h : Keeps s₀ s) : Keeps s₀ (State.idleGroups s) := by
  unfold State.idleGroups
  try dsimp only
  repeat' (first
    | with_reducible exact h
    | with_reducible exact Keeps.refl _
    | with_reducible (refine forEach_keeps ?_ (fun x s => ?_))
    | with_reducible apply State.groupEnters_keeps
    | split)

theorem State.inputsRestart_keeps {s₀ s : State} (h : Keeps s₀ s) :
    Keeps s₀ (State.inputsRestart s) := by
  unfold State.inputsRestart
  try dsimp only
  repeat' (first
    | with_reducible exact h
    | with_reducible exact Keeps.refl _
    | with_reducible apply State.onViu_keeps
    | with_reducible apply State.judgeGroups_keeps
    | with_reducible apply State.idleGroups_keeps)

/-! #### Scenes.lean -/

theorem State.answer_keeps {s₀ s : State} (target : Fin 32) (kind outcome reason : Byte) (data : List Byte)
    (h : Keeps s₀ s) :
    Keeps s₀ (State.answer s target kind outcome reason data) := by
  unfold State.answer
  try dsimp only
  repeat' (first
    | with_reducible exact h
    | with_reducible exact Keeps.refl _
    | with_reducible apply State.enqueue_keeps)

theorem State.complete_keeps {s₀ s : State} (outcome reason : Byte) (data : List Byte) (h : Keeps s₀ s) :
    Keeps s₀ (State.complete s outcome reason data) := by
  unfold State.complete
  try dsimp only
  repeat' (first
    | with_reducible exact h
    | with_reducible exact Keeps.refl _
    | with_reducible apply State.onSce_keeps
    | with_reducible apply State.answer_keeps
    | split)

theorem State.told_keeps {s₀ s : State} (scene : Fin 64) (origin : ReqOrigin) (d : Disposition)
    (h : Keeps s₀ s) :
    Keeps s₀ (State.told s scene origin d) := by
  unfold State.told
  try dsimp only
  repeat' (first
    | with_reducible exact h
    | with_reducible exact Keeps.refl _
    | with_reducible apply State.clearLatch_keeps
    | with_reducible apply State.order_keeps
    | with_reducible apply State.complete_keeps
    | with_reducible apply State.answer_keeps
    | split)

theorem State.toldIf_keeps {s₀ s : State} (tell : Bool) (scene : Fin 64) (origin : ReqOrigin) (d : Disposition)
    (h : Keeps s₀ s) :
    Keeps s₀ (State.toldIf s tell scene origin d) := by
  unfold State.toldIf
  try dsimp only
  repeat' (first
    | with_reducible exact h
    | with_reducible exact Keeps.refl _
    | with_reducible apply State.told_keeps
    | split)

theorem State.releaseClaim_keeps {s₀ s : State} (i : Fin 4) (r : Fin 6) (h : Keeps s₀ s) :
    Keeps s₀ (State.releaseClaim s i r) := by
  unfold State.releaseClaim
  try dsimp only
  repeat' (first
    | with_reducible exact h
    | with_reducible exact Keeps.refl _
    | with_reducible apply State.setClaim_keeps
    | with_reducible apply State.post_keeps
    | with_reducible apply State.serve_keeps
    | split)

theorem State.mapFree_keeps {s₀ s : State} (i : Fin 4) (free : Fin 6 → Bool) (h : Keeps s₀ s) :
    Keeps s₀ (State.mapFree s i free) := by
  unfold State.mapFree
  try dsimp only
  repeat' (first
    | with_reducible exact h
    | with_reducible exact Keeps.refl _
    | with_reducible (refine forEach_keeps ?_ (fun x s => ?_))
    | with_reducible apply State.setClaim_keeps
    | split)

theorem State.askRead_keeps {s₀ s : State} (i : Fin 4) (kind : ReadKind) (address count : Nat)
    (h : Keeps s₀ s) :
    Keeps s₀ (State.askRead s i kind address count) := by
  unfold State.askRead
  try dsimp only
  repeat' (first
    | with_reducible exact h
    | with_reducible exact Keeps.refl _
    | with_reducible apply State.setSlot_keeps
    | with_reducible apply State.askPort_keeps)

theorem State.askInitial_keeps {s₀ s : State} (i : Fin 4) (h : Keeps s₀ s) :
    Keeps s₀ (State.askInitial s i) := by
  unfold State.askInitial
  try dsimp only
  repeat' (first
    | with_reducible exact h
    | with_reducible exact Keeps.refl _
    | with_reducible apply State.askRead_keeps
    | split)

theorem State.askReload_keeps {s₀ s : State} (i : Fin 4) (h : Keeps s₀ s) :
    Keeps s₀ (State.askReload s i) := by
  unfold State.askReload
  try dsimp only
  repeat' (first
    | with_reducible exact h
    | with_reducible exact Keeps.refl _
    | with_reducible apply State.askRead_keeps
    | with_reducible apply State.reload_keeps
    | split)

theorem State.refillCues_keeps {s₀ s : State} (i : Fin 4) (h : Keeps s₀ s) :
    Keeps s₀ (State.refillCues s i) := by
  unfold State.refillCues
  try dsimp only
  repeat' (first
    | with_reducible exact h
    | with_reducible exact Keeps.refl _
    | with_reducible apply State.askRead_keeps
    | with_reducible apply State.refill_keeps
    | split)

theorem State.rewind_keeps {s₀ s : State} (i : Fin 4) (h : Keeps s₀ s) :
    Keeps s₀ (State.rewind s i) := by
  unfold State.rewind
  try dsimp only
  repeat' (first
    | with_reducible exact h
    | with_reducible exact Keeps.refl _
    | with_reducible apply State.setSlot_keeps
    | with_reducible apply State.askReload_keeps
    | split)

theorem State.stopResources_keeps {s₀ s : State} (i : Fin 4) (h : Keeps s₀ s) :
    Keeps s₀ (State.stopResources s i) := by
  unfold State.stopResources
  try dsimp only
  repeat' (first
    | with_reducible exact h
    | with_reducible exact Keeps.refl _
    | with_reducible (refine forEach_keeps ?_ (fun x s => ?_))
    | with_reducible apply State.stopForRun_keeps
    | with_reducible apply State.abortAxis_keeps
    | split)

theorem State.releaseIdle_keeps {s₀ s : State} (i : Fin 4) (h : Keeps s₀ s) :
    Keeps s₀ (State.releaseIdle s i) := by
  unfold State.releaseIdle
  try dsimp only
  repeat' (first
    | with_reducible exact h
    | with_reducible exact Keeps.refl _
    | with_reducible (refine forEach_keeps ?_ (fun x s => ?_))
    | with_reducible apply State.releaseClaim_keeps
    | split)

theorem State.stopRun_keeps {s₀ s : State} (i : Fin 4) (reason : StopReason) (h : Keeps s₀ s) :
    Keeps s₀ (State.stopRun s i reason) := by
  unfold State.stopRun
  try dsimp only
  repeat' (first
    | with_reducible exact h
    | with_reducible exact Keeps.refl _
    | with_reducible apply State.onSlot_keeps
    | with_reducible apply State.post_keeps
    | with_reducible apply State.stopResources_keeps
    | with_reducible apply State.releaseIdle_keeps
    | split)

theorem State.dropSuccessor_keeps {s₀ s : State} (i : Fin 4) (h : Keeps s₀ s) :
    Keeps s₀ (State.dropSuccessor s i) := by
  unfold State.dropSuccessor
  try dsimp only
  repeat' (first
    | with_reducible exact h
    | with_reducible exact Keeps.refl _
    | with_reducible apply State.onSlot_keeps
    | with_reducible apply State.toldIf_keeps
    | with_reducible apply State.post_keeps
    | with_reducible apply State.latchTest_keeps
    | split)

theorem State.serveFreed_keeps {s₀ s : State} (dropped : Claims) (h : Keeps s₀ s) :
    Keeps s₀ (State.serveFreed s dropped) := by
  unfold State.serveFreed
  try dsimp only
  repeat' (first
    | with_reducible exact h
    | with_reducible exact Keeps.refl _
    | with_reducible apply State.post_keeps
    | with_reducible apply State.serve_keeps
    | split)

theorem State.enterRun_keeps {s₀ s : State} (i : Fin 4) (x : Slot) (h : Keeps s₀ s) :
    Keeps s₀ (State.enterRun s i x) := by
  unfold State.enterRun
  try dsimp only
  repeat' (first
    | with_reducible exact h
    | with_reducible exact Keeps.refl _
    | with_reducible apply State.setSlot_keeps
    | with_reducible apply State.onSce_keeps)

theorem State.startClaiming_keeps {s₀ s : State} (i : Fin 4) (scene : Fin 64) (priority : Fin 4) (claims : Claims) (origin : ReqOrigin) (tell : Bool)
    (h : Keeps s₀ s) :
    Keeps s₀ (State.startClaiming s i scene priority claims origin tell) := by
  unfold State.startClaiming
  try dsimp only
  repeat' (first
    | with_reducible exact h
    | with_reducible exact Keeps.refl _
    | with_reducible apply State.enterRun_keeps
    | with_reducible apply State.mapFree_keeps
    | with_reducible apply State.askInitial_keeps
    | with_reducible apply State.post_keeps)

theorem State.startLoading_keeps {s₀ s : State} (i : Fin 4) (scene : Fin 64) (priority : Fin 4) (claims : Claims) (origin : ReqOrigin) (tell : Bool)
    (h : Keeps s₀ s) :
    Keeps s₀ (State.startLoading s i scene priority claims origin tell) := by
  unfold State.startLoading
  try dsimp only
  repeat' (first
    | with_reducible exact h
    | with_reducible exact Keeps.refl _
    | with_reducible apply State.enterRun_keeps
    | with_reducible apply State.mapFree_keeps
    | with_reducible apply State.askInitial_keeps)

theorem State.goFree_keeps {s₀ s : State} (i : Fin 4) (h : Keeps s₀ s) :
    Keeps s₀ (State.goFree s i) := by
  unfold State.goFree
  try dsimp only
  repeat' (first
    | with_reducible exact h
    | with_reducible exact Keeps.refl _
    | with_reducible (refine forEach_keeps ?_ (fun x s => ?_))
    | with_reducible apply State.post_keeps
    | with_reducible apply State.latchTest_keeps
    | with_reducible apply State.serve_keeps
    | with_reducible apply State.setSlot_keeps
    | with_reducible apply State.releaseClaim_keeps
    | with_reducible apply State.toldIf_keeps
    | with_reducible apply State.startClaiming_keeps
    | split)

theorem State.enterRunning_keeps {s₀ s : State} (i : Fin 4) (h : Keeps s₀ s) :
    Keeps s₀ (State.enterRunning s i) := by
  unfold State.enterRunning
  try dsimp only
  repeat' (first
    | with_reducible exact h
    | with_reducible exact Keeps.refl _
    | with_reducible apply State.setSlot_keeps
    | with_reducible apply State.toldIf_keeps
    | with_reducible apply State.post_keeps)

theorem State.endRun_keeps {s₀ s : State} (i : Fin 4) (h : Keeps s₀ s) :
    Keeps s₀ (State.endRun s i) := by
  unfold State.endRun
  try dsimp only
  repeat' (first
    | with_reducible exact h
    | with_reducible exact Keeps.refl _
    | with_reducible apply State.rewind_keeps
    | with_reducible apply State.goFree_keeps
    | split)

theorem State.testSlot_keeps {s₀ s : State} (i : Fin 4) (h : Keeps s₀ s) :
    Keeps s₀ (State.testSlot s i) := by
  unfold State.testSlot
  try dsimp only
  repeat' (first
    | with_reducible exact h
    | with_reducible exact Keeps.refl _
    | with_reducible apply State.enterRunning_keeps
    | with_reducible apply State.endRun_keeps
    | with_reducible apply State.goFree_keeps
    | split)

theorem State.discardRead_keeps {s₀ s : State} (i : Fin 4) (thenReload : Bool) (h : Keeps s₀ s) :
    Keeps s₀ (State.discardRead s i thenReload) := by
  unfold State.discardRead
  try dsimp only
  repeat' (first
    | with_reducible exact h
    | with_reducible exact Keeps.refl _
    | with_reducible apply State.onSlot_keeps
    | with_reducible apply State.askReload_keeps
    | with_reducible apply State.post_keeps
    | split)

theorem State.takeInitial_keeps {s₀ s : State} (i : Fin 4) (data : List Byte) (h : Keeps s₀ s) :
    Keeps s₀ (State.takeInitial s i data) := by
  unfold State.takeInitial
  try dsimp only
  repeat' (first
    | with_reducible exact h
    | with_reducible exact Keeps.refl _
    | with_reducible apply State.setSlot_keeps
    | with_reducible apply State.post_keeps
    | with_reducible apply State.report_keeps
    | with_reducible apply State.goFree_keeps
    | split)

theorem State.takeCues_keeps {s₀ s : State} (i : Fin 4) (data : List Byte) (h : Keeps s₀ s) :
    Keeps s₀ (State.takeCues s i data) := by
  unfold State.takeCues
  try dsimp only
  repeat' (first
    | with_reducible exact h
    | with_reducible exact Keeps.refl _
    | with_reducible apply State.setSlot_keeps
    | with_reducible apply State.post_keeps)

theorem State.readDone_keeps {s₀ s : State} (i : Fin 4) (run : Nat) (kind : ReadKind) (data : List Byte)
    (h : Keeps s₀ s) :
    Keeps s₀ (State.readDone s i run kind data) := by
  unfold State.readDone
  try dsimp only
  repeat' (first
    | with_reducible exact h
    | with_reducible exact Keeps.refl _
    | with_reducible apply State.discardRead_keeps
    | with_reducible apply State.takeInitial_keeps
    | with_reducible apply State.takeCues_keeps
    | split)

theorem State.readFailed_keeps {s₀ s : State} (i : Fin 4) (run : Nat) (kind : ReadKind) (h : Keeps s₀ s) :
    Keeps s₀ (State.readFailed s i run kind) := by
  unfold State.readFailed
  try dsimp only
  repeat' (first
    | with_reducible exact h
    | with_reducible exact Keeps.refl _
    | with_reducible apply State.discardRead_keeps
    | with_reducible apply State.setSlot_keeps
    | with_reducible apply State.goFree_keeps
    | with_reducible apply State.stopRun_keeps
    | split)

theorem State.preempt_keeps {s₀ s : State} (place : Fin 4) (scene : Fin 64) (e : SceneEntry) (origin : ReqOrigin) (tell : Bool)
    (h : Keeps s₀ s) :
    Keeps s₀ (State.preempt s place scene e origin tell) := by
  unfold State.preempt
  try dsimp only
  repeat' (first
    | with_reducible exact h
    | with_reducible exact Keeps.refl _
    | with_reducible (refine forEach_keeps ?_ (fun x s => ?_))
    | with_reducible apply State.dropSuccessor_keeps
    | with_reducible apply State.onSlot_keeps
    | with_reducible apply State.startClaiming_keeps
    | with_reducible apply State.post_keeps
    | with_reducible apply State.stopResources_keeps
    | with_reducible apply State.releaseIdle_keeps
    | with_reducible apply State.serveFreed_keeps
    | split)

theorem State.join_keeps {s₀ s : State} (scene : Fin 64) (e : SceneEntry) (origin : ReqOrigin)
    (h : Keeps s₀ s) :
    Keeps s₀ (State.join s scene e origin) := by
  unfold State.join
  try dsimp only
  repeat' (first
    | with_reducible exact h
    | with_reducible exact Keeps.refl _
    | with_reducible apply State.onSce_keeps
    | with_reducible apply State.told_keeps
    | with_reducible apply State.report_keeps
    | split)

theorem State.restartInPlace_keeps {s₀ s : State} (i : Fin 4) (h : Keeps s₀ s) :
    Keeps s₀ (State.restartInPlace s i) := by
  unfold State.restartInPlace
  try dsimp only
  repeat' (first
    | with_reducible exact h
    | with_reducible exact Keeps.refl _
    | with_reducible apply State.rewind_keeps
    | with_reducible apply State.stopForRun_keeps
    | split)

theorem State.disposeInSlot_keeps {s₀ s : State} (i : Fin 4) (scene : Fin 64) (lockout : Nat) (origin : ReqOrigin)
    (h : Keeps s₀ s) :
    Keeps s₀ (State.disposeInSlot s i scene lockout origin) := by
  unfold State.disposeInSlot
  try dsimp only
  repeat' (first
    | with_reducible exact h
    | with_reducible exact Keeps.refl _
    | with_reducible apply State.told_keeps
    | with_reducible apply State.restartInPlace_keeps
    | split)

theorem State.disposeNew_keeps {s₀ s : State} (scene : Fin 64) (e : SceneEntry) (origin : ReqOrigin)
    (h : Keeps s₀ s) :
    Keeps s₀ (State.disposeNew s scene e origin) := by
  unfold State.disposeNew
  try dsimp only
  repeat' (first
    | with_reducible exact h
    | with_reducible exact Keeps.refl _
    | with_reducible apply State.join_keeps
    | with_reducible apply State.startLoading_keeps
    | with_reducible apply State.preempt_keeps
    | split)

theorem State.dispose_keeps {s₀ s : State} (scene : Fin 64) (origin : ReqOrigin) (h : Keeps s₀ s) :
    Keeps s₀ (State.dispose s scene origin) := by
  unfold State.dispose
  try dsimp only
  repeat' (first
    | with_reducible exact h
    | with_reducible exact Keeps.refl _
    | with_reducible apply State.told_keeps
    | with_reducible apply State.report_keeps
    | with_reducible apply State.disposeInSlot_keeps
    | with_reducible apply State.onSce_keeps
    | with_reducible apply State.disposeNew_keeps
    | split)

theorem State.unqueue_keeps {s₀ s : State} (scene : Fin 64) (h : Keeps s₀ s) :
    Keeps s₀ (State.unqueue s scene) := by
  unfold State.unqueue
  try dsimp only
  repeat' (first
    | with_reducible exact h
    | with_reducible exact Keeps.refl _
    | with_reducible apply State.onSce_keeps)

theorem State.serveFrom_keeps {s₀ : State} : ∀ (qs : List Request) (waited : Claims) {s : State},
    Keeps s₀ s → Keeps s₀ (State.serveFrom qs waited s)
  | [], _, _, h => h
  | q :: rest, waited, s, h => by
    unfold State.serveFrom
    split
    · exact serveFrom_keeps rest _ h
    · split
      · exact serveFrom_keeps rest _ (State.startLoading_keeps _ _ _ _ _ _ (State.unqueue_keeps _ h))
      · split
        · exact serveFrom_keeps rest _ (State.preempt_keeps _ _ _ _ _ (State.unqueue_keeps _ h))
        · exact serveFrom_keeps rest _ h

theorem State.serve_keeps {s₀ s : State} (h : Keeps s₀ s) : Keeps s₀ s.serve := by
  unfold State.serve
  split
  · exact State.serveFrom_keeps _ _ h
  · exact h

theorem State.patienceBeat_keeps {s₀ s : State} (h : Keeps s₀ s) : Keeps s₀ (State.patienceBeat s) := by
  unfold State.patienceBeat
  try dsimp only
  repeat' (first
    | with_reducible exact h
    | with_reducible exact Keeps.refl _
    | with_reducible apply State.onSce_keeps)

theorem State.expireRequest_keeps {s₀ s : State} (n : Fin 64) (h : Keeps s₀ s) :
    Keeps s₀ (State.expireRequest s n) := by
  unfold State.expireRequest
  try dsimp only
  repeat' (first
    | with_reducible exact h
    | with_reducible exact Keeps.refl _
    | with_reducible apply State.unqueue_keeps
    | with_reducible apply State.report_keeps
    | with_reducible apply State.post_keeps)

theorem State.stopScene_keeps {s₀ s : State} (n : Fin 64) (reason : StopReason) (h : Keeps s₀ s) :
    Keeps s₀ (State.stopScene s n reason) := by
  unfold State.stopScene
  try dsimp only
  repeat' (first
    | with_reducible exact h
    | with_reducible exact Keeps.refl _
    | with_reducible (refine forEach_keeps ?_ (fun x s => ?_))
    | with_reducible apply State.unqueue_keeps
    | with_reducible apply State.post_keeps
    | with_reducible apply State.serve_keeps
    | with_reducible apply State.dropSuccessor_keeps
    | with_reducible apply State.serveFreed_keeps
    | with_reducible apply State.stopRun_keeps
    | split)

theorem State.stopEverything_keeps {s₀ s : State} (reason : StopReason) (h : Keeps s₀ s) :
    Keeps s₀ (State.stopEverything s reason) := by
  unfold State.stopEverything
  try dsimp only
  repeat' (first
    | with_reducible exact h
    | with_reducible exact Keeps.refl _
    | with_reducible (refine forEach_keeps ?_ (fun x s => ?_))
    | with_reducible apply State.onSce_keeps
    | with_reducible apply State.dropSuccessor_keeps
    | with_reducible apply State.stopRun_keeps)

theorem State.latchTest_keeps {s₀ s : State} (h : Keeps s₀ s) : Keeps s₀ (State.latchTest s) := by
  unfold State.latchTest
  try dsimp only
  repeat' (first
    | with_reducible exact h
    | with_reducible exact Keeps.refl _
    | with_reducible apply State.complete_keeps
    | split)

/-! #### Cues.lean -/

theorem State.awaitMet_keeps {s₀ s : State} (i : Fin 4) (h : Keeps s₀ s) :
    Keeps s₀ (State.awaitMet s i) := by
  unfold State.awaitMet
  try dsimp only
  repeat' (first
    | with_reducible exact h
    | with_reducible exact Keeps.refl _
    | with_reducible apply State.onSlot_keeps
    | with_reducible apply State.post_keeps)

theorem State.judgeSlot_keeps {s₀ s : State} (met : Await → Bool) (i : Fin 4) (h : Keeps s₀ s) :
    Keeps s₀ (State.judgeSlot s met i) := by
  unfold State.judgeSlot
  try dsimp only
  repeat' (first
    | with_reducible exact h
    | with_reducible exact Keeps.refl _
    | with_reducible apply State.awaitMet_keeps
    | split)

theorem State.meetAwaits_keeps {s₀ s : State} (met : Await → Bool) (h : Keeps s₀ s) :
    Keeps s₀ (State.meetAwaits s met) := by
  unfold State.meetAwaits
  exact forEach_keeps h fun _ _ => State.judgeSlot_keeps _ _ (Keeps.refl _)

theorem State.judgeAwaits_keeps {s₀ s : State} (pick : AwaitKind → Bool) (h : Keeps s₀ s) :
    Keeps s₀ (State.judgeAwaits s pick) :=
  State.meetAwaits_keeps _ h

theorem State.timeoutAwait_keeps {s₀ s : State} (i : Fin 4) (h : Keeps s₀ s) :
    Keeps s₀ (State.timeoutAwait s i) := by
  unfold State.timeoutAwait
  try dsimp only
  repeat' (first
    | with_reducible exact h
    | with_reducible exact Keeps.refl _
    | with_reducible apply State.onSlot_keeps
    | with_reducible apply State.post_keeps
    | with_reducible apply State.awaitMet_keeps
    | split)

theorem State.resourceReport_keeps {s₀ s : State} (r : Fin 6) (h : Keeps s₀ s) :
    Keeps s₀ (State.resourceReport s r) := by
  unfold State.resourceReport
  try dsimp only
  repeat' (first
    | with_reducible exact h
    | with_reducible exact Keeps.refl _
    | with_reducible apply State.releaseClaim_keeps
    | with_reducible apply State.post_keeps
    | split)

theorem State.voiceReport_keeps {s₀ s : State} (v : Voice) (h : Keeps s₀ s) :
    Keeps s₀ (State.voiceReport s v) := by
  unfold State.voiceReport
  try dsimp only
  repeat' (first
    | with_reducible exact h
    | with_reducible exact Keeps.refl _
    | with_reducible apply State.judgeAwaits_keeps
    | with_reducible apply State.resourceReport_keeps)

theorem State.voiceIdleReport_keeps {s₀ s : State} (v : Voice) (before : Nat) (h : Keeps s₀ s) :
    Keeps s₀ (State.voiceIdleReport s v before) :=
  State.resourceReport_keeps _ (State.meetAwaits_keeps _ h)

theorem State.axisReport_keeps {s₀ s : State} (a : Fin 4) (idle : Bool) (before : Nat) (h : Keeps s₀ s) :
    Keeps s₀ (State.axisReport s a idle before) :=
  State.resourceReport_keeps _ (State.meetAwaits_keeps _ h)

theorem State.clipCue_keeps {s₀ s : State} (i : Fin 4) (v : Voice) (n : Fin 256) (cut : Bool)
    (h : Keeps s₀ s) :
    Keeps s₀ (State.clipCue s i v n cut) := by
  unfold State.clipCue
  try dsimp only
  repeat' (first
    | with_reducible exact h
    | with_reducible exact Keeps.refl _
    | with_reducible apply State.takeClip_keeps
    | with_reducible apply State.report_keeps
    | split)

theorem State.moveCue_keeps {s₀ s : State} (a : Fin 4) (target : Int) (k : Fin 4) (h : Keeps s₀ s) :
    Keeps s₀ (State.moveCue s a target k) := by
  unfold State.moveCue
  try dsimp only
  repeat' (first
    | with_reducible exact h
    | with_reducible exact Keeps.refl _
    | with_reducible apply State.moveAxis_keeps
    | split)

theorem State.beginAwait_keeps {s₀ s : State} (i : Fin 4) (k : AwaitKind) (timeout : Nat)
    (onEnd : Bool) (h : Keeps s₀ s) :
    Keeps s₀ (State.beginAwait s i k timeout onEnd) :=
  State.onSce_keeps _ (State.onSlot_keeps _ _ h)

theorem State.awaitCue_keeps {s₀ s : State} (i : Fin 4) (k : AwaitKind) (timeout : Nat) (onEnd : Bool)
    (h : Keeps s₀ s) :
    Keeps s₀ (State.awaitCue s i k timeout onEnd) := by
  unfold State.awaitCue
  split
  · exact h
  · exact State.beginAwait_keeps _ _ _ _ h

theorem State.perform_keeps {s₀ s : State} (i : Fin 4) (a : Act) (h : Keeps s₀ s) :
    Keeps s₀ (s.perform i a) := by
  cases a with
  | fade c t d => exact State.onChannel_keeps c (·.startFade t d) h
  | cycle c t b => exact State.onChannel_keeps c (·.startCycle t b) h
  | clip v n cut => exact State.clipCue_keeps _ _ _ _ h
  | silence v => exact State.stopForRun_keeps _ _ h
  | move a t k => exact State.moveCue_keeps _ _ _ h
  | home a => exact State.homeAxis_keeps _ h
  | flag f v => exact State.setFlag_keeps _ _ h
  | announce cue delay => exact State.enqueue_keeps _ _ h
  | direct st n delay => exact State.enqueue_keeps _ _ h
  | start n => exact State.post_keeps _ h
  | await k t e => exact State.awaitCue_keeps _ _ _ _ h

theorem State.performCue_keeps {s₀ s : State} (i : Fin 4) (c : Cue) (h : Keeps s₀ s) :
    Keeps s₀ (s.performCue i c) := by
  unfold State.performCue
  split
  · split
    · exact State.perform_keeps _ _ h
    · exact State.report_keeps _ _ _ h
  · exact State.report_keeps _ _ _ h

theorem State.executeHead_keeps {s₀ s : State} (i : Fin 4) (h : Keeps s₀ s) :
    Keeps s₀ (State.executeHead s i) := by
  unfold State.executeHead
  try dsimp only
  repeat' (first
    | with_reducible exact h
    | with_reducible exact Keeps.refl _
    | with_reducible apply State.onSlot_keeps
    | with_reducible apply State.post_keeps
    | with_reducible apply State.refillCues_keeps
    | with_reducible apply State.runCues_keeps
    | with_reducible apply State.performCue_keeps
    | split)

theorem State.runCues_keeps {s₀ s : State} (i : Fin 4) (h : Keeps s₀ s) :
    Keeps s₀ (State.runCues s i) := by
  unfold State.runCues
  try dsimp only
  repeat' (first
    | with_reducible exact h
    | with_reducible exact Keeps.refl _
    | with_reducible apply State.onSlot_keeps
    | with_reducible apply State.post_keeps
    | with_reducible apply State.executeHead_keeps
    | split)

theorem State.cueCommand_keeps {s₀ s : State} (i : Fin 4) (c : Cue) (h : Keeps s₀ s) :
    Keeps s₀ (State.cueCommand s i c) := by
  unfold State.cueCommand
  try dsimp only
  repeat' (first
    | with_reducible exact h
    | with_reducible exact Keeps.refl _
    | with_reducible apply State.executeHead_keeps
    | with_reducible apply State.performCue_keeps
    | split)

theorem State.joinPending_keeps {s₀ s : State} (q : PendingCue) (h : Keeps s₀ s) :
    Keeps s₀ (s.joinPending q) := by
  unfold State.joinPending
  dsimp only
  split
  · exact State.csc_keeps _ h
  · split
    · exact h
    · split
      · exact State.report_keeps _ _ _ (State.csc_keeps _ h)
      · exact State.report_keeps _ _ _ h

theorem State.hearCue_keeps {s₀ s : State} (q : PendingCue) (h : Keeps s₀ s) :
    Keeps s₀ (State.hearCue s q) := by
  unfold State.hearCue
  try dsimp only
  repeat' (first
    | with_reducible exact h
    | with_reducible exact Keeps.refl _
    | with_reducible apply State.post_keeps
    | with_reducible apply State.report_keeps
    | with_reducible apply State.joinPending_keeps
    | split)

theorem State.hearLong_keeps {s₀ s : State} (station : Fin 32) (cue : Byte) (startAt : ShowTime)
    (h : Keeps s₀ s) :
    Keeps s₀ (State.hearLong s station cue startAt) := by
  unfold State.hearLong
  try dsimp only
  repeat' (first
    | with_reducible exact h
    | with_reducible exact Keeps.refl _
    | with_reducible apply State.hearCue_keeps
    | split)

theorem State.hearShort_keeps {s₀ s : State} (station : Fin 32) (scene : Fin 64) (startAt : ShowTime)
    (h : Keeps s₀ s) :
    Keeps s₀ (State.hearShort s station scene startAt) := by
  unfold State.hearShort
  try dsimp only
  repeat' (first
    | with_reducible exact h
    | with_reducible exact Keeps.refl _
    | with_reducible apply State.hearCue_keeps)

/-! #### Peers.lean -/

theorem State.presentAir_keeps {s₀ s : State} (st : Fin 32) (talk : Bool) (h : Keeps s₀ s) :
    Keeps s₀ (State.presentAir s st talk) := by
  unfold State.presentAir
  try dsimp only
  repeat' (first
    | with_reducible exact h
    | with_reducible exact Keeps.refl _
    | with_reducible apply State.airPresented_keeps
    | split)

theorem State.presentGone_keeps {s₀ s : State} (st : Fin 32) (h : Keeps s₀ s) :
    Keeps s₀ (State.presentGone s st) := by
  unfold State.presentGone
  try dsimp only
  repeat' (first
    | with_reducible exact h
    | with_reducible exact Keeps.refl _
    | with_reducible apply State.presentAir_keeps
    | with_reducible apply State.post_keeps)

theorem State.expirePeer_keeps {s₀ s : State} (st : Fin 32) (h : Keeps s₀ s) :
    Keeps s₀ (s.expirePeer st) := by
  unfold State.expirePeer
  refine State.presentGone_keeps _ ?_
  split
  · refine State.ptb_keeps _ ?_ h
    rw [List.map_map, List.map_congr_left (g := (·.station))]
    intro e _
    simp only [Function.comp]
    split <;> rfl
  · exact State.ptb_keeps _ (List.filter_sublist.map _) h

theorem State.dropStale_keeps {s₀ s : State} (h : Keeps s₀ s) : Keeps s₀ s.dropStale := by
  unfold State.dropStale
  exact forEach_keeps (State.ptb_keeps _ (List.filter_sublist.map _) h) fun _ _ =>
    State.presentGone_keeps _ (Keeps.refl _)

/-! #### Bus.lean -/

theorem State.regularBoundary_keeps {s₀ s : State} (h : Keeps s₀ s) :
    Keeps s₀ (State.regularBoundary s) := by
  unfold State.regularBoundary
  try dsimp only
  repeat' (first
    | with_reducible exact h
    | with_reducible exact Keeps.refl _
    | with_reducible apply State.onBus_keeps
    | with_reducible apply State.recompute_keeps
    | with_reducible apply State.regularRequest_keeps)

theorem State.enterJoining_keeps {s₀ s : State} (h : Keeps s₀ s) : Keeps s₀ (State.enterJoining s) := by
  unfold State.enterJoining
  try dsimp only
  repeat' (first
    | with_reducible exact h
    | with_reducible exact Keeps.refl _
    | with_reducible apply State.regularBoundary_keeps
    | with_reducible apply State.onSul_keeps (hn := by intro _; rfl) (hr := by intro _ h; first | exact h | cases h))

theorem State.adoptRate_keeps {s₀ s : State} (r : Rate) (h : Keeps s₀ s) :
    Keeps s₀ (State.adoptRate s r) := by
  unfold State.adoptRate
  try dsimp only
  repeat' (first
    | with_reducible exact h
    | with_reducible exact Keeps.refl _
    | with_reducible apply State.onBus_keeps
    | with_reducible apply State.enterJoining_keeps
    | split)

theorem State.frameValid_keeps {s₀ s : State} (h : Keeps s₀ s) : Keeps s₀ (State.frameValid s) := by
  unfold State.frameValid
  try dsimp only
  repeat' (first
    | with_reducible exact h
    | with_reducible exact Keeps.refl _
    | with_reducible apply State.onBus_keeps
    | with_reducible apply State.adoptRate_keeps
    | split)

theorem State.duplicate_keeps {s₀ s : State} (h : Keeps s₀ s) : Keeps s₀ (State.duplicate s) := by
  unfold State.duplicate
  try dsimp only
  repeat' (first
    | with_reducible exact h
    | with_reducible exact Keeps.refl _
    | with_reducible apply State.report_keeps)

theorem State.doubt_keeps {s₀ s : State} (h : Keeps s₀ s) : Keeps s₀ (State.doubt s) := by
  unfold State.doubt
  try dsimp only
  repeat' (first
    | with_reducible exact h
    | with_reducible exact Keeps.refl _
    | with_reducible apply State.onBus_keeps
    | with_reducible apply State.report_keeps
    | split)

theorem State.frameBad_keeps {s₀ s : State} (h : Keeps s₀ s) : Keeps s₀ (State.frameBad s) := by
  unfold State.frameBad
  try dsimp only
  repeat' (first
    | with_reducible exact h
    | with_reducible exact Keeps.refl _
    | with_reducible apply State.onBus_keeps
    | with_reducible apply State.doubt_keeps
    | split)

theorem State.lineFallsIdle_keeps {s₀ s : State} (h : Keeps s₀ s) :
    Keeps s₀ (State.lineFallsIdle s) := by
  unfold State.lineFallsIdle
  try dsimp only
  repeat' (first
    | with_reducible exact h
    | with_reducible exact Keeps.refl _
    | with_reducible apply State.frameBad_keeps
    | with_reducible apply State.onBus_keeps
    | split)

theorem State.syncTx_keeps {s₀ s : State} (h : Keeps s₀ s) : Keeps s₀ (State.syncTx s) := by
  unfold State.syncTx
  try dsimp only
  repeat' (first
    | with_reducible exact h
    | with_reducible exact Keeps.refl _
    | with_reducible apply State.onBus_keeps
    | split)

theorem State.gaveUp_keeps {s₀ s : State} (m : OutMsg) (h : Keeps s₀ s) :
    Keeps s₀ (State.gaveUp s m) := by
  unfold State.gaveUp
  try dsimp only
  repeat' (first
    | with_reducible exact h
    | with_reducible exact Keeps.refl _
    | with_reducible apply State.talkLost_keeps
    | with_reducible apply State.answer_keeps
    | with_reducible apply State.post_keeps
    | split)

theorem State.giveUpEntry_keeps {s₀ s : State} (e : OutEntry) (h : Keeps s₀ s) :
    Keeps s₀ (State.giveUpEntry s e) := by
  unfold State.giveUpEntry
  try dsimp only
  repeat' (first
    | with_reducible exact h
    | with_reducible exact Keeps.refl _
    | with_reducible apply State.onBus_keeps
    | with_reducible apply State.report_keeps
    | with_reducible apply State.gaveUp_keeps)

theorem State.giveUpBeacon_keeps {s₀ s : State} (h : Keeps s₀ s) : Keeps s₀ (State.giveUpBeacon s) := by
  unfold State.giveUpBeacon
  try dsimp only
  repeat' (first
    | with_reducible exact h
    | with_reducible exact Keeps.refl _
    | with_reducible apply State.onBus_keeps
    | with_reducible apply State.report_keeps
    | split)

theorem State.giveUp_keeps {s₀ s : State} (h : Keeps s₀ s) : Keeps s₀ (State.giveUp s) := by
  unfold State.giveUp
  try dsimp only
  repeat' (first
    | with_reducible exact h
    | with_reducible exact Keeps.refl _
    | with_reducible apply State.giveUpEntry_keeps
    | with_reducible apply State.giveUpBeacon_keeps
    | split)

theorem State.jam_keeps {s₀ s : State} (h : Keeps s₀ s) : Keeps s₀ (State.jam s) := by
  unfold State.jam
  try dsimp only
  repeat' (first
    | with_reducible exact h
    | with_reducible exact Keeps.refl _
    | with_reducible apply State.attempt_keeps
    | with_reducible apply State.onBus_keeps
    | with_reducible apply State.giveUp_keeps
    | split)

theorem State.endJam_keeps {s₀ s : State} (h : Keeps s₀ s) : Keeps s₀ (State.endJam s) := by
  unfold State.endJam
  try dsimp only
  repeat' (first
    | with_reducible exact h
    | with_reducible exact Keeps.refl _
    | with_reducible apply State.onBus_keeps)

theorem State.reportSent_keeps {s₀ s : State} (m : OutMsg) (h : Keeps s₀ s) :
    Keeps s₀ (State.reportSent s m) := by
  unfold State.reportSent
  try dsimp only
  repeat' (first
    | with_reducible exact h
    | with_reducible exact Keeps.refl _
    | with_reducible apply State.talkSent_keeps
    | with_reducible apply State.post_keeps
    | with_reducible apply State.answer_keeps
    | split)

theorem State.beaconSent_keeps {s₀ s : State} (h : Keeps s₀ s) : Keeps s₀ (State.beaconSent s) := by
  unfold State.beaconSent
  try dsimp only
  repeat' (first
    | with_reducible exact h
    | with_reducible exact Keeps.refl _
    | with_reducible apply State.onBus_keeps)

theorem State.entrySent_keeps {s₀ s : State} (id : Nat) (h : Keeps s₀ s) :
    Keeps s₀ (State.entrySent s id) := by
  unfold State.entrySent
  try dsimp only
  repeat' (first
    | with_reducible exact h
    | with_reducible exact Keeps.refl _
    | with_reducible apply State.onBus_keeps
    | with_reducible apply State.reportSent_keeps
    | split)

theorem State.sent_keeps {s₀ s : State} (h : Keeps s₀ s) : Keeps s₀ (State.sent s) := by
  unfold State.sent
  try dsimp only
  repeat' (first
    | with_reducible exact h
    | with_reducible exact Keeps.refl _
    | with_reducible apply State.attempt_keeps
    | with_reducible apply State.onBus_keeps
    | with_reducible apply State.beaconSent_keeps
    | with_reducible apply State.entrySent_keeps
    | split)

theorem State.endSpacing_keeps {s₀ s : State} (h : Keeps s₀ s) : Keeps s₀ (State.endSpacing s) := by
  unfold State.endSpacing
  try dsimp only
  repeat' (first
    | with_reducible exact h
    | with_reducible exact Keeps.refl _
    | with_reducible apply State.onBus_keeps
    | split)

theorem State.nextTrial_keeps {s₀ s : State} (h : Keeps s₀ s) : Keeps s₀ (State.nextTrial s) := by
  unfold State.nextTrial
  try dsimp only
  repeat' (first
    | with_reducible exact h
    | with_reducible exact Keeps.refl _
    | with_reducible apply State.onBus_keeps)

theorem State.fallBack_keeps {s₀ s : State} (h : Keeps s₀ s) : Keeps s₀ (State.fallBack s) := by
  unfold State.fallBack
  try dsimp only
  repeat' (first
    | with_reducible exact h
    | with_reducible exact Keeps.refl _
    | with_reducible apply State.adoptRate_keeps
    | split)

/-! #### Loader.lean -/

theorem State.loadAsk_keeps {s₀ s : State} (phase : LoadPhase) (address count : Nat) (h : Keeps s₀ s) :
    Keeps s₀ (State.loadAsk s phase address count) := by
  unfold State.loadAsk
  try dsimp only
  repeat' (first
    | with_reducible exact h
    | with_reducible exact Keeps.refl _
    | with_reducible apply State.askPort_keeps
    | with_reducible apply State.onSul_keeps (hn := by intro _; rfl) (hr := by intro _ h; exact h))

theorem State.askHeader_keeps {s₀ s : State} (h : Keeps s₀ s) : Keeps s₀ (State.askHeader s) := by
  unfold State.askHeader
  try dsimp only
  repeat' (first
    | with_reducible exact h
    | with_reducible exact Keeps.refl _
    | with_reducible apply State.loadAsk_keeps)

theorem State.faultStation_keeps {s₀ s : State} (h : Keeps s₀ s) : Keeps s₀ s.faultStation := by
  unfold State.faultStation
  refine State.onSce_keeps _ (State.onSul_keeps _ (fun _ => rfl) (fun _ hr => by cases hr) ?_)
  exact State.csc_keeps [] (State.cfg_keeps none h)

theorem State.faultShow_keeps {s₀ s : State} (h : Keeps s₀ s) : Keeps s₀ s.faultShow := by
  unfold State.faultShow
  exact State.onMte_keeps _ (State.onLgv_keeps _ (State.lightsDark_keeps (State.syncTalking_keeps
    (State.onNre_keeps _ (fun _ _ _ => ⟨rfl, rfl⟩) h))))

theorem State.faultInputs_keeps {s₀ s : State} (h : Keeps s₀ s) : Keeps s₀ (State.faultInputs s) := by
  unfold State.faultInputs
  try dsimp only
  repeat' (first
    | with_reducible exact h
    | with_reducible exact Keeps.refl _
    | with_reducible apply State.onViu_keeps
    | with_reducible apply State.judgeGroups_keeps
    | with_reducible apply State.idleGroups_keeps
    | with_reducible apply State.onHld_keeps
    | with_reducible apply State.syncLocalHold_keeps)

theorem State.faultBus_keeps {s₀ s : State} (h : Keeps s₀ s) : Keeps s₀ (State.faultBus s) := by
  unfold State.faultBus
  try dsimp only
  repeat' (first
    | with_reducible exact h
    | with_reducible exact Keeps.refl _
    | with_reducible apply State.onBus_keeps
    | with_reducible apply State.dropStale_keeps
    | with_reducible apply State.regularBoundary_keeps)

theorem State.enterFault_keeps {s₀ s : State} (h : Keeps s₀ s) : Keeps s₀ (State.enterFault s) := by
  unfold State.enterFault
  try dsimp only
  repeat' (first
    | with_reducible exact h
    | with_reducible exact Keeps.refl _
    | with_reducible apply State.faultStation_keeps
    | with_reducible apply State.clearFlags_keeps
    | with_reducible apply State.faultShow_keeps
    | with_reducible apply State.faultInputs_keeps
    | with_reducible apply State.faultBus_keeps)

theorem State.loadRefused_keeps {s₀ s : State} (kind : FaultKind) (h : Keeps s₀ s) :
    Keeps s₀ (State.loadRefused s kind) := by
  unfold State.loadRefused
  try dsimp only
  repeat' (first
    | with_reducible exact h
    | with_reducible exact Keeps.refl _
    | with_reducible apply State.report_keeps
    | with_reducible apply State.enterFault_keeps)

theorem State.inputsAccept_keeps {s₀ s : State} (old : Option Config) (c : Config) (h : Keeps s₀ s) :
    Keeps s₀ (s.inputsAccept old c) := by
  unfold State.inputsAccept
  exact forEach_keeps h fun _ _ => State.onInput_keeps _ _ (Keeps.refl _)

theorem State.afterAccept_keeps {s₀ s : State} (restarting : Bool) (c : Config) (h : Keeps s₀ s) :
    Keeps s₀ (State.afterAccept s restarting c) := by
  unfold State.afterAccept
  try dsimp only
  repeat' (first
    | with_reducible exact h
    | with_reducible exact Keeps.refl _
    | with_reducible apply State.enterJoining_keeps
    | with_reducible apply State.onBus_keeps
    | with_reducible apply State.onSul_keeps (hn := by intro _; rfl) (hr := by intro _ h; first | exact h | cases h)
    | split)

theorem State.accept_keeps {s₀ s : State} (c : Config) (h : Keeps s₀ s) : Keeps s₀ (s.accept c) := by
  unfold State.accept
  dsimp only
  refine State.afterAccept_keeps _ _ (State.onSul_keeps _ (fun _ => rfl) (fun _ hr => hr)
    (State.syncLocalHold_keeps (State.post_keeps _ (forEach_keeps ?_ fun a s =>
      State.axisAccept_keeps _ c a (Keeps.refl _)))))
  exact State.onLgv_keeps _ (State.lightsAccept_keeps _ _ (State.inputsAccept_keeps _ _
    (State.dropStale_keeps (State.cfg_keeps _ h))))

theorem State.loadScenes_keeps {s₀ s : State} (c : Config) (h : Keeps s₀ s) :
    Keeps s₀ (State.loadScenes s c) := by
  unfold State.loadScenes
  try dsimp only
  repeat' (first
    | with_reducible exact h
    | with_reducible exact Keeps.refl _
    | with_reducible apply State.accept_keeps
    | with_reducible apply State.loadAsk_keeps
    | split)

theorem State.loadClips_keeps {s₀ s : State} (c : Config) (h : Keeps s₀ s) :
    Keeps s₀ (State.loadClips s c) := by
  unfold State.loadClips
  try dsimp only
  repeat' (first
    | with_reducible exact h
    | with_reducible exact Keeps.refl _
    | with_reducible apply State.loadScenes_keeps
    | with_reducible apply State.loadAsk_keeps
    | split)

theorem State.takeHeader_keeps {s₀ s : State} (head : List Byte) (h : Keeps s₀ s) :
    Keeps s₀ (s.takeHeader head) := by
  unfold State.takeHeader
  split
  · exact State.loadRefused_keeps _ h
  · split
    · exact State.loadRefused_keeps _ h
    · exact State.loadAsk_keeps _ _ _ h

theorem State.takeBody_keeps {s₀ s : State} (crc : BitVec 16) (body : List Byte) (h : Keeps s₀ s) :
    Keeps s₀ (State.takeBody s crc body) := by
  unfold State.takeBody
  try dsimp only
  repeat' (first
    | with_reducible exact h
    | with_reducible exact Keeps.refl _
    | with_reducible apply State.loadRefused_keeps
    | with_reducible apply State.loadClips_keeps
    | split)

theorem State.takeClips_keeps {s₀ s : State} (c : Config) (data : List Byte) (h : Keeps s₀ s) :
    Keeps s₀ (State.takeClips s c data) := by
  unfold State.takeClips
  try dsimp only
  repeat' (first
    | with_reducible exact h
    | with_reducible exact Keeps.refl _
    | with_reducible apply State.loadScenes_keeps
    | with_reducible apply State.loadRefused_keeps
    | split)

theorem State.takeScenes_keeps {s₀ s : State} (c : Config) (data : List Byte) (h : Keeps s₀ s) :
    Keeps s₀ (State.takeScenes s c data) := by
  unfold State.takeScenes
  try dsimp only
  repeat' (first
    | with_reducible exact h
    | with_reducible exact Keeps.refl _
    | with_reducible apply State.accept_keeps
    | with_reducible apply State.loadRefused_keeps
    | split)

theorem State.loadStep_keeps {s₀ s : State} (data : List Byte) (h : Keeps s₀ s) :
    Keeps s₀ (State.loadStep s data) := by
  unfold State.loadStep
  try dsimp only
  repeat' (first
    | with_reducible exact h
    | with_reducible exact Keeps.refl _
    | with_reducible apply State.takeHeader_keeps
    | with_reducible apply State.takeBody_keeps
    | with_reducible apply State.takeClips_keeps
    | with_reducible apply State.takeScenes_keeps
    | split)

theorem State.autoHome_keeps {s₀ s : State} (a : Fin 4) (h : Keeps s₀ s) :
    Keeps s₀ (State.autoHome s a) := by
  unfold State.autoHome
  try dsimp only
  repeat' (first
    | with_reducible exact h
    | with_reducible exact Keeps.refl _
    | with_reducible apply State.homeAxis_keeps
    | split)

theorem State.enterActive_keeps {s₀ s : State} (h : Keeps s₀ s) : Keeps s₀ (State.enterActive s) := by
  unfold State.enterActive
  try dsimp only
  repeat' (first
    | with_reducible exact h
    | with_reducible exact Keeps.refl _
    | with_reducible (refine forEach_keeps ?_ (fun x s => ?_))
    | with_reducible apply State.onViu_keeps
    | with_reducible apply State.judgeGroups_keeps
    | with_reducible apply State.autoHome_keeps
    | with_reducible apply State.post_keeps
    | with_reducible apply State.serve_keeps
    | with_reducible apply State.onSul_keeps (hn := by intro _; rfl) (hr := by intro _ h; first | exact h | cases h)
    | split)

theorem State.beginRestart_keeps {s₀ s : State} (h : Keeps s₀ s) : Keeps s₀ s.beginRestart := by
  unfold State.beginRestart
  dsimp only
  refine State.inputsRestart_keeps (forEach_keeps ?_ fun a s => State.abortAxis_keeps a (Keeps.refl _))
  exact State.stopEverything_keeps _ (State.post_keeps _ (State.csc_keeps _ (State.clearFlags_keeps
    (State.onSce_keeps _ (State.onSul_keeps _ (fun _ => rfl) (fun _ hr => by cases hr)
      (State.onBus_keeps _ h))))))

theorem State.reload_keeps {s₀ s : State} (h : Keeps s₀ s) : Keeps s₀ (State.reload s) := by
  unfold State.reload
  try dsimp only
  repeat' (first
    | with_reducible exact h
    | with_reducible exact Keeps.refl _
    | with_reducible apply State.portReady_keeps
    | with_reducible apply State.askHeader_keeps
    | split)

/-! #### Orders.lean -/

theorem State.clearFaultList_keeps {s₀ s : State} (h : Keeps s₀ s) : Keeps s₀ s.clearFaultList := by
  unfold State.clearFaultList
  dsimp only
  have hc : Keeps s₀ { s with flt := { entries := [], overflow := false } } :=
    State.flt_keeps _ (fun _ => by simp [FaultList.Sound]) h
  split
  · exact State.earlyRequest_keeps (State.syncLocalHold_keeps (State.onMte_keeps _ hc))
  · exact State.syncLocalHold_keeps (State.onMte_keeps _ hc)

theorem State.orderHold_keeps {s₀ s : State} (on : Bool) (h : Keeps s₀ s) :
    Keeps s₀ (State.orderHold s on) := by
  unfold State.orderHold
  try dsimp only
  repeat' (first
    | with_reducible exact h
    | with_reducible exact Keeps.refl _
    | with_reducible apply State.onHld_keeps
    | with_reducible apply State.syncLocalHold_keeps)

theorem State.answerRestart_keeps {s₀ s : State} (target : Fin 32) (h : Keeps s₀ s) :
    Keeps s₀ (State.answerRestart s target) := by
  unfold State.answerRestart
  try dsimp only
  repeat' (first
    | with_reducible exact h
    | with_reducible exact Keeps.refl _
    | with_reducible apply State.enqueue_keeps
    | with_reducible apply State.answer_keeps
    | with_reducible apply State.post_keeps
    | split)

theorem State.doneNow_keeps {s₀ s : State} (data : List Byte) (h : Keeps s₀ s) :
    Keeps s₀ (State.doneNow s data) := by
  unfold State.doneNow
  try dsimp only
  repeat' (first
    | with_reducible exact h
    | with_reducible exact Keeps.refl _
    | with_reducible apply State.complete_keeps)

theorem State.composePage_keeps {s₀ s : State} (n : Nat) (h : Keeps s₀ s) :
    Keeps s₀ (State.composePage s n) := by
  unfold State.composePage
  split
  · exact State.onLgv_keeps _ h
  · exact h

theorem State.carryOut_keeps {s₀ s : State} (sender : Fin 32) (o : Order) (h : Keeps s₀ s) :
    Keeps s₀ (s.carryOut sender o) := by
  cases o with
  | start n => exact State.post_keeps _ h
  | stop n => exact State.stopScene_keeps _ _ (State.post_keeps _ h)
  | stopAll => exact State.stopEverything_keeps _ (State.post_keeps _ h)
  | setFlag f v => exact State.doneNow_keeps _ (State.setFlag_keeps _ _ h)
  | hold on => exact State.doneNow_keeps _ (State.orderHold_keeps _ h)
  | query page part => exact State.doneNow_keeps _ (State.composePage_keeps _ h)
  | clearFaults => exact State.doneNow_keeps _ (State.clearFaultList_keeps h)
  | restart => exact State.answerRestart_keeps _ h

theorem State.takeOrder_keeps {s₀ s : State} (sender : Fin 32) (kind : OrderKind) (ops : List Byte)
    (o : Order) (h : Keeps s₀ s) : Keeps s₀ (s.takeOrder sender kind ops o) := by
  unfold State.takeOrder
  exact State.carryOut_keeps _ _ (State.onSce_keeps _ h)

theorem State.testOrder_keeps {s₀ s : State} (sender : Fin 32) (kind : OrderKind) (ops : List Byte)
    (h : Keeps s₀ s) :
    Keeps s₀ (State.testOrder s sender kind ops) := by
  unfold State.testOrder
  try dsimp only
  repeat' (first
    | with_reducible exact h
    | with_reducible exact Keeps.refl _
    | with_reducible apply State.answer_keeps
    | with_reducible apply State.takeOrder_keeps
    | split)

theorem State.order_keeps (kind : OrderKind) (target : Byte) (ops : List Byte) (sender : Fin 32) {s₀ s : State}
    (h : Keeps s₀ s) :
    Keeps s₀ (State.order kind target ops sender s) := by
  unfold State.order
  try dsimp only
  repeat' (first
    | with_reducible exact h
    | with_reducible exact Keeps.refl _
    | with_reducible apply State.testOrder_keeps
    | with_reducible apply State.answer_keeps
    | split)

theorem State.orderUnknown_keeps (code target : Byte) (sender : Fin 32) {s₀ s : State} (h : Keeps s₀ s) :
    Keeps s₀ (State.orderUnknown code target sender s) := by
  unfold State.orderUnknown
  try dsimp only
  repeat' (first
    | with_reducible exact h
    | with_reducible exact Keeps.refl _
    | with_reducible apply State.answer_keeps
    | split)

/-! ### The end of an instant -/


/-- Whatever a signal does, it keeps. -/
theorem State.handle_keeps {s₀ s : State} (x : Signal) (h : Keeps s₀ s) : Keeps s₀ (s.handle x) := by
  cases x with
  | serve => exact State.serve_keeps h
  | examine => exact State.examineLine_keeps h
  | runCues i => exact State.runCues_keeps _ h
  | refillCues i => exact State.refillCues_keeps _ h
  | slotTest i => exact State.testSlot_keeps _ h
  | voiceIdle v before => exact State.voiceIdleReport_keeps _ _ h
  | drained v => exact State.voiceReport_keeps _ h
  | axisReport a idle before => exact State.axisReport_keeps _ _ _ h
  | request n o => exact State.dispose_keeps _ _ h
  | peerSeen st => exact State.judgeAwaits_keeps _ h
  | groupChanged g => exact State.judgeAwaits_keeps _ h
  | readFailed i run kind => exact State.readFailed_keeps _ _ _ h
  | burstFailed v => exact State.abandonBurst_keeps _ h
  | loadFailed => exact State.enterFault_keeps h
  | latchTest => exact State.latchTest_keeps h
  | restartTest =>
    show Keeps s₀ (if s.reloadDue then s.reload else s)
    split
    · exact State.reload_keeps h
    · exact h
  | restartBegin => exact State.beginRestart_keeps h
  | ownCue cue at_ => exact State.hearLong_keeps _ _ _ h

theorem State.settle_keeps {s₀ s : State} (n : Nat) (h : Keeps s₀ s) : Keeps s₀ (State.settle n s) :=
  State.settle_induct (P := Keeps s₀) (fun _ _ h => State.agenda_keeps _ h)
    (fun _ _ h => State.handle_keeps _ h) n s h

theorem State.finish_keeps {s₀ s : State} (h : Keeps s₀ s) : Keeps s₀ s.finish :=
  State.syncTx_keeps (State.arbitrate_keeps (State.settle_keeps _ h))

/-! ### What comes due -/

theorem State.ifDue_keeps {s₀ s : State} (due : Bool) (f : State → State)
    (hf : ∀ s, Keeps s (f s)) (h : Keeps s₀ s) : Keeps s₀ (s.ifDue due f) := by
  unfold State.ifDue
  split
  · exact State.settle_keeps _ (h.trans (hf s))
  · exact h

theorem State.eventsOutside_keeps {s₀ s : State} (h : Keeps s₀ s) : Keeps s₀ s.eventsOutside := by
  unfold State.eventsOutside
  refine forEach_keeps (forEach_keeps (State.ifDue_keeps _ _ ?_ (forEach_keeps h ?_)) ?_) ?_
  · exact fun s => State.takePendingCues_keeps (Keeps.refl s)
  · exact fun st s => State.ifDue_keeps _ _ (fun s => State.expirePeer_keeps _ (Keeps.refl s)) (Keeps.refl s)
  · exact fun i s => State.ifDue_keeps _ _ (fun s => State.changeInput_keeps _ (Keeps.refl s)) (Keeps.refl s)
  · exact fun i s => State.ifDue_keeps _ _ (fun s => State.markStuck_keeps _ (Keeps.refl s)) (Keeps.refl s)

theorem State.eventsHall_keeps {s₀ s : State} (h : Keeps s₀ s) : Keeps s₀ s.eventsHall := by
  unfold State.eventsHall
  refine State.ifDue_keeps _ _ (fun s => State.reportStuck_keeps (Keeps.refl s))
    (State.ifDue_keeps _ _ (fun s => State.beginHold_keeps (Keeps.refl s)) (forEach_keeps h ?_))
  exact fun g s => State.ifDue_keeps _ _ (fun s => State.groupEnters_keeps _ _ _ (Keeps.refl s)) (Keeps.refl s)

theorem State.eventsBus_keeps {s₀ s : State} (h : Keeps s₀ s) : Keeps s₀ s.eventsBus := by
  unfold State.eventsBus
  exact State.ifDue_keeps _ _ (fun s => State.fallBack_keeps (Keeps.refl s))
    (State.ifDue_keeps _ _ (fun s => State.nextTrial_keeps (Keeps.refl s))
      (State.ifDue_keeps _ _ (fun s => State.endSpacing_keeps (Keeps.refl s))
        (State.ifDue_keeps _ _ (fun s => State.regularBoundary_keeps (Keeps.refl s))
          (State.ifDue_keeps _ _ (fun s => State.enterActive_keeps (Keeps.refl s)) h))))

theorem State.eventsScenes_keeps {s₀ s : State} (h : Keeps s₀ s) : Keeps s₀ s.eventsScenes := by
  unfold State.eventsScenes
  refine forEach_keeps (forEach_keeps (forEach_keeps h ?_) ?_) ?_
  · exact fun n s => State.ifDue_keeps _ _ (fun s => State.expireRequest_keeps _ (Keeps.refl s)) (Keeps.refl s)
  · exact fun i s => State.ifDue_keeps _ _ (fun s => State.timeoutAwait_keeps _ (Keeps.refl s)) (Keeps.refl s)
  · exact fun i s => State.ifDue_keeps _ _ (fun s => State.runCues_keeps _ (Keeps.refl s)) (Keeps.refl s)

theorem State.eventsGate_keeps {s₀ s : State} (v : Voice) (h : Keeps s₀ s) :
    Keeps s₀ (State.eventsGate v s) := by
  unfold State.eventsGate
  exact State.ifDue_keeps _ _ (fun s => State.passQuietLimit_keeps _ (Keeps.refl s))
    (State.ifDue_keeps _ _ (fun s => State.grant_keeps _ (Keeps.refl s))
      (State.ifDue_keeps _ _ (fun s => State.endRetry_keeps _ (Keeps.refl s)) h))

theorem State.eventsAxis_keeps {s₀ s : State} (a : Fin 4) (h : Keeps s₀ s) :
    Keeps s₀ (State.eventsAxis a s) := by
  unfold State.eventsAxis
  exact State.ifDue_keeps _ _ (fun s => State.starve_keeps _ (Keeps.refl s))
    (State.ifDue_keeps _ _ (fun s => State.clearGuard_keeps _ (Keeps.refl s)) h)

theorem State.takeDue_keeps {s₀ s : State} (h : Keeps s₀ s) : Keeps s₀ s.takeDue := by
  unfold State.takeDue
  refine forEach_keeps (forEach_keeps ?_ fun v s => State.eventsGate_keeps v (Keeps.refl s))
    fun a s => State.eventsAxis_keeps a (Keeps.refl s)
  exact State.eventsScenes_keeps (State.eventsBus_keeps (State.eventsHall_keeps (State.eventsOutside_keeps
    (State.ifDue_keeps _ _ (fun s => State.endHold_keeps (Keeps.refl s)) h))))

theorem State.takeEnds_keeps {s₀ s : State} (h : Keeps s₀ s) : Keeps s₀ s.takeEnds := by
  unfold State.takeEnds
  refine forEach_keeps (forEach_keeps h ?_) ?_
  · exact fun v s => State.ifDue_keeps _ _ (fun s => State.endClip_keeps _ (Keeps.refl s)) (Keeps.refl s)
  · exact fun v s => State.ifDue_keeps _ _ (fun s => State.endTail_keeps _ (Keeps.refl s)) (Keeps.refl s)

/-! ### The parts of a beat and of a sample period -/

theorem State.beatShow_keeps {s₀ s : State} (h : Keeps s₀ s) : Keeps s₀ s.beatShow :=
  forEach_keeps (State.lightingFrame_keeps h) fun a s => State.axisPeriod_keeps a (Keeps.refl s)

theorem State.beatCounts_keeps {s₀ s : State} (h : Keeps s₀ s) : Keeps s₀ s.beatCounts := by
  unfold State.beatCounts
  dsimp only
  refine State.onSul_keeps _ (fun u => by split <;> rfl)
    (fun u hr => by split at hr <;> exact hr) ?_
  refine forEach_keeps (State.onNre_keeps _ (fun _ ha hb => ⟨ha, hb⟩) (State.onSce_keeps _
    (State.patienceBeat_keeps (State.onSmp_keeps _ (State.onBus_keeps _ h))))) fun a s => ?_
  split
  · exact State.onAxis_keeps _ _ (Keeps.refl _)
  · exact Keeps.refl _

/-- The beat's work after the clock's own is kept by all that follows it. -/
theorem State.beatWork_keeps (s : State) (pins : Pins) :
    Keeps { ((s.beatStart pins).onClk Clock.beat) with ptb := s.ptb.map (Peer.beat s.staleLimit) }
      (s.beatWork pins) := by
  unfold State.beatWork
  refine State.settle_keeps _ (State.beatShow_keeps (State.beatCounts_keeps ?_))
  unfold State.beatOutside
  exact State.holdBeat_keeps _ (State.inputsBeat_keeps _ (Keeps.refl _))

/-! ### The functions that write the Show Clock -/

theorem Holds.of_clk (s : State) (f : Clock → Clock) : Holds s (s.onClk f) :=
  ⟨rfl, rfl, rfl, rfl, rfl, id, id, id, id⟩

theorem State.discipline_holds (s : State) (st : Fin 32) (stamp : ShowTime) :
    Holds s (s.discipline st stamp) := by
  unfold State.discipline
  dsimp only
  split
  · split
    · split
      · exact Holds.refl s
      · split
        · exact Holds.of_clk s _
        · exact (Holds.of_clk s _).trans
            (State.takePendingCues_keeps (State.report_keeps _ _ _ (Keeps.refl _))).toHolds
    · exact Holds.refl s
  · exact Holds.refl s

theorem putPeer_station (e : Peer) : ∀ {l : List Peer} {p : Peer}, p ∈ putPeer e l → p = e ∨ p ∈ l
  | [], p, h => by simpa [putPeer] using h
  | q :: rest, p, h => by
    unfold putPeer at h
    split at h
    · simpa using h
    · split at h
      · rcases List.mem_cons.1 h with h | h
        · exact .inl h
        · exact .inr (List.mem_cons_of_mem _ h)
      · rcases List.mem_cons.1 h with h | h
        · exact .inr (by simp [h])
        · exact (putPeer_station e h).imp id (List.mem_cons_of_mem _)

/-- An entry put into a table in order leaves it in order. -/
theorem putPeer_ascend (e : Peer) : ∀ {l : List Peer}, PeersAscend l → PeersAscend (putPeer e l)
  | [], _ => by simp [putPeer]
  | q :: rest, h => by
    obtain ⟨hq, hr⟩ := List.pairwise_cons.1 h
    unfold putPeer
    split
    · rename_i hlt
      refine List.pairwise_cons.2 ⟨?_, h⟩
      intro p hp
      rcases List.mem_cons.1 hp with hp | hp
      · rw [hp]; exact hlt
      · exact lt_trans hlt (hq p hp)
    · split
      · rename_i heq
        exact List.pairwise_cons.2 ⟨fun p hp => by rw [heq]; exact hq p hp, hr⟩
      · rename_i hnlt hne
        refine List.pairwise_cons.2 ⟨?_, putPeer_ascend e hr⟩
        intro p hp
        rcases putPeer_station e hp with hp | hp
        · rw [hp]; exact lt_of_le_of_ne (not_lt.1 hnlt) (Ne.symm hne)
        · exact hq p hp

/-- A beacon of another station, accepted out of RESET, keeps what the other functions keep, the clock
apart. -/
theorem State.acceptBeacon_holds (s : State) (st : Fin 32) (stamp : ShowTime) (e : Peer)
    (he : e.station = st) (hn : st ≠ s.sul.number) (hr : s.sul.station ≠ .reset) :
    Holds s (s.acceptBeacon st stamp e) := by
  unfold State.acceptBeacon
  dsimp only
  have hp : Holds s { s with ptb := putPeer e s.ptb } := by
    refine ⟨rfl, rfl, rfl, rfl, rfl, id, id, id, ?_⟩
    rintro ⟨ha, ho, _⟩
    refine ⟨putPeer_ascend e ha, ?_, fun h => absurd h hr⟩
    intro p hp
    rcases putPeer_station e hp with h | h
    · rw [h, he]; exact hn
    · exact ho p h
  have hd := hp.trans (State.discipline_holds { s with ptb := putPeer e s.ptb } st stamp)
  split
  · exact hd.trans (State.holdReported_keeps (State.syncTalking_keeps (State.post_keeps _
      (State.presentAir_keeps _ _ (Keeps.refl _))))).toHolds
  · exact hd.trans (State.syncTalking_keeps (State.post_keeps _
      (State.presentAir_keeps _ _ (Keeps.refl _)))).toHolds

/-- A valid frame keeps what its dispatch keeps. -/
theorem State.frame_holds (s : State) (sender : Byte) (dispatch : Fin 32 → State → State)
    (hd : ∀ st t, st ≠ t.sul.number → t.sul.number = s.sul.number →
      (t.sul.station = .reset → s.sul.station = .reset) → Holds t (dispatch st t)) :
    Holds s (s.frame sender dispatch) := by
  have hv := State.frameValid_keeps (Keeps.refl s)
  unfold State.frame
  dsimp only
  split
  · exact hv.toHolds
  · split
    · exact (State.duplicate_keeps hv).toHolds
    · rename_i h
      exact hv.toHolds.trans (hd _ _ h hv.number hv.reset)

theorem State.receptionStarts_holds (s : State) : Holds s s.receptionStarts :=
  ⟨rfl, rfl, rfl, rfl, rfl, id, id, id, id⟩

theorem State.attempt_holds (s : State) : Holds s s.attempt := by
  unfold State.attempt
  split
  · unfold State.begin
    dsimp only
    split <;> exact ⟨rfl, rfl, rfl, rfl, rfl, id, id, id, id⟩
  · exact Holds.refl s

/-- A transfer that completes keeps. -/
theorem State.completeTransfer_keeps {s₀ s : State} (data : List Byte) (h : Keeps s₀ s) :
    Keeps s₀ (s.completeTransfer data) := by
  unfold State.completeTransfer
  split
  · exact h
  · dsimp only
    split
    · exact State.loadStep_keeps _ (State.portReady_keeps h)
    · exact State.burstDone_keeps _ _ (State.portReady_keeps h)
    · exact State.readDone_keeps _ _ _ _ (State.portReady_keeps h)

theorem State.timeOut_keeps {s₀ s : State} (h : Keeps s₀ s) : Keeps s₀ s.timeOut := by
  unfold State.timeOut
  split
  · exact State.report_keeps _ _ _ (State.onSmp_keeps _ h)
  · exact h

theorem State.failPort_keeps {s₀ s : State} (h : Keeps s₀ s) : Keeps s₀ s.failPort := by
  unfold State.failPort
  split
  · exact State.post_keeps _ (State.report_keeps _ _ _ (State.onSmp_keeps _ h))
  · exact h

theorem State.shortFrame_keeps {s₀ s : State} (st : Fin 32) (target scene : Byte) (startAt : BitVec 32)
    (h : Keeps s₀ s) : Keeps s₀ (s.shortFrame st target scene startAt) := by
  unfold State.shortFrame
  split
  · split
    · exact State.hearShort_keeps _ _ _ h
    · exact h
  · exact h

theorem State.talkFrame_keeps {s₀ s : State} (st : Fin 32) (voice : Byte) (h : Keeps s₀ s) :
    Keeps s₀ (s.talkFrame st voice) := by
  unfold State.talkFrame State.hearTalk
  dsimp only
  repeat' (first
    | with_reducible exact h
    | with_reducible apply State.earlyRequest_keeps
    | with_reducible apply State.backOff_keeps
    | split)

end Sys2Proof.Machine
end

