-- ==== Sys2Proof/WellFormed.lean ====
section
/-! DEFINITION. Which commands are well formed: what chapter 13 lets a frame carry. -/

namespace Sys2Proof

/-- An ORDER carries at most 6 operand bytes, an ANSWER at most 20 data bytes, a frame at most 24
payload bytes, and a kind is unknown only when it is none of the five (or of the eight order codes)
of chapter 13. -/
def Instr.wf : Instr → Bool
  | .answer _ _ _ _ _ data => data.length ≤ 20
  | .start _ _ ops | .stop _ _ ops | .stopAll _ _ ops | .setFlag _ _ ops | .hold _ _ ops
  | .query _ _ ops | .clearFaults _ _ ops | .restart _ _ ops => ops.length ≤ 6
  | .orderUnknownKind _ _ kind ops => ops.length ≤ 6 && (kind = 0#8 || 8 < kind.toNat)
  | .frameOfUnknownKind kind _ payload => payload.length ≤ 24 && (kind = 0#8 || 5 < kind.toNat)
  | _ => true

/-- A well-formed command. -/
abbrev Instr.WellFormed (i : Instr) : Prop := i.wf = true

end Sys2Proof
end

