-- ==== Sys2Proof/Tests/Slice0.lean ====
section
/-! SUPPORT. The model's own tests: refused ill-formed commands, the spec's worked examples, frames
written out from chapter 13, and, for every statement with hypotheses, a state and operands that meet
them (theorems named `witness_<statement>_<clause>`). -/

namespace Sys2Proof.Tests

open Sys2Proof.Machine

set_option Elab.async false

/-! ### WellFormed refuses what chapter 13 does not allow -/

theorem test_wf_refuses_long_answer :
    (Instr.answer 1#8 2#8 3#8 0#8 0#8 (List.replicate 21 0#8)).wf = false ∧
      (Instr.answer 1#8 2#8 3#8 0#8 0#8 (List.replicate 20 0#8)).wf = true := by decide +kernel

theorem test_wf_refuses_long_orders :
    ∀ make ∈ [Instr.start, Instr.stop, Instr.stopAll, Instr.setFlag, Instr.hold, Instr.query,
        Instr.clearFaults, Instr.restart],
      (make 1#8 2#8 (List.replicate 7 0#8)).wf = false ∧
        (make 1#8 2#8 (List.replicate 6 0#8)).wf = true := by decide +kernel

theorem test_wf_refuses_known_kind_as_unknown :
    (Instr.orderUnknownKind 1#8 2#8 8#8 []).wf = false ∧
      (Instr.orderUnknownKind 1#8 2#8 9#8 (List.replicate 7 0#8)).wf = false ∧
      (Instr.orderUnknownKind 1#8 2#8 9#8 []).wf = true ∧
      (Instr.frameOfUnknownKind 5#8 1#8 []).wf = false ∧
      (Instr.frameOfUnknownKind 6#8 1#8 (List.replicate 25 0#8)).wf = false ∧
      (Instr.frameOfUnknownKind 6#8 1#8 []).wf = true := by decide +kernel

/-! ### Frames of chapter 13 -/

/-- The published check value of CRC-16 with polynomial 1021h, start FFFFh and no inversion. -/
theorem test_crc16_check_value :
    crc16 [0x31#8, 0x32#8, 0x33#8, 0x34#8, 0x35#8, 0x36#8, 0x37#8, 0x38#8, 0x39#8] = 0x29B1#16 := by
  decide +kernel

/-- A TALK of station 7 for voice B and clip 9, its CRC computed apart from the model (13.1, R174). -/
theorem test_frame_talk :
    frameCommand [3#8, 7#8, 2#8, 1#8, 9#8, 0x62#8, 0x8B#8] = .talk 7#8 1#8 9#8 := by decide +kernel

/-- A STOP of station 9 for station 5 and scene 20 (13.1). -/
theorem test_frame_stop :
    frameCommand [4#8, 9#8, 3#8, 5#8, 2#8, 20#8, 0xE4#8, 0x36#8] = .stop 9#8 5#8 [20#8] := by decide +kernel

/-- A frame of a known kind with a length that chapter 13 does not allow, one with a wrong CRC, one too
long, one that stops short (R17). -/
theorem test_frames_bad :
    frameCommand [3#8, 7#8, 3#8, 1#8, 9#8, 0#8, 0xB1#8, 0x50#8] = .badFrame .badLength ∧
      frameCommand [3#8, 7#8, 2#8, 1#8, 9#8, 0#8, 0#8] = .badFrame .badCrc ∧
      frameCommand [3#8, 7#8, 25#8, 1#8] = .badFrame .tooLong ∧
      frameCommand [3#8, 7#8] = .badFrame .fragment := by decide +kernel

/-! ### The spec's worked examples -/

/-- TABLE VIII: a debt of 5 over 16 beats. -/
theorem test_table_viii :
    let c : Clock := { Clock.clear with showTime := 1000001#32, debt := 5 }
    Clock.beat^[7] c = { c with showTime := 1000008#32, spacing := 7 } ∧
      Clock.beat^[8] c = { c with showTime := 1000010#32, debt := 4 } ∧
      Clock.beat^[16] c = { c with showTime := 1000019#32, debt := 3 } := by decide +kernel

/-- 2.10.1: the waits of stations 3, 7 and 12 before and after the first failure. -/
theorem test_waits_2_10_1 :
    let e := fun n => Candidate.entry { id := 0, msg := .cueLong 0#8 0#32, origin := .sce, failed := n }
    (e 0).wait 3 = 7 ∧ (e 0).wait 7 = 7 ∧ (Candidate.beacon 0).wait 12 = 8 ∧ (e 1).wait 3 = 47 ∧
      (e 1).wait 7 = 31 := by decide +kernel

/-- 1.10.3: the phase of channel 4 before and after the step. -/
theorem test_phase_1_10_3 :
    phaseOf 5000001#32 600000 = 21845 ∧ phaseOf 5001201#32 600000 = 21976 := by decide +kernel

/-! ### A station in ACTIVE -/

def chan : ChannelCfg :=
  { load := 100, square := false, exempt := false, goTo := true, initialTable := none
    holdLevel := 20000, group := some 0, walkLevel := 3000, walkRate := 10, powerUp := 0 }

def cycleTable : CycleTable := { period := 600000, points := [⟨0, 2000⟩, ⟨16384, 60000⟩] }

def axisCfg : AxisCfg :=
  { softMin := -10000, softMax := 10000, homePlus := false, homeOffset := 0, homeProfile := 0
    travelLimit := 20000, profiles := Vector.replicate 4 { vmax := 512, accel := 128 }
    reservation := 100, guardMask := 0x80#8, guardDelay := 500, powerWait := 1000, autoHome := false
    faultHolds := true }

def input (kind : InputKind) (scene : Option (Fin 64)) (cue : Option Byte) : InputCfg :=
  { kind := kind, activeLow := true, debounce := 3, localScene := scene, cue := cue, stuckLimit := 2
    group := 1 }

def scene (priority : Fin 4) (claims : Claims) (loop : Bool) : SceneEntry :=
  { present := true, loop := loop, address := 16384, priority := priority, claims := claims
    lockout := 500, patience := 100, cueCount := 1 }

def clip (earshot mustPlay : Bool) : ClipEntry :=
  { present := true, earshot := earshot, mustPlay := mustPlay, address := 12288, length := 1000
    gain := 256, quietLimit := 1000 }

/-- Settings in force: station 4 in the clock group and the order set, 3 and 9 in the earshot set, 4 in
the feeder group; scene 0 absent, scene 3 looping; clip 0 must play, clip 1 must not, clip 2 is not for
the earshot gate. -/
def cfg0 : Config :=
  { crc := 0#16, rate := some .r500, fallback := .r250, beaconPeriod := 250, staleLimit := 1000
    earlySpacing := 20, clockGroup := 0x10#32, stepLimit := 250, earshot := 0x208#32
    claimWindow := 40, gainA := 256, gainB := 256, duckLevel := 128, clipAddress := 0, clipCount := 3
    feeder := 0x10#32, capacity := 6000, floor := 400, ceiling := 3000, gain := 8
    orderSet := 0x10#32, lateLimit := 2000
    windows := Vector.replicate 8 { enabled := true, origin := none, low := 60, high := 69, offset := -40 }
    releaseDelay := 500, holdFade := 400, restartFade := 1000, opening := some 1, sceneAddress := 0
    sceneCount := 5, channels := Vector.replicate 16 chan, tables := Vector.replicate 4 cycleTable
    axes := Vector.replicate 4 axisCfg
    inputs := #v[input .button (some 1) none, input .button none (some 9#8), input .presence none none,
      input .holdKey none none, input .button none none, input .unused none none,
      input .presence none none, input .guard none none]
    groups := #v[{ linger := 0, arrival := none }, { linger := 2000, arrival := some 2 },
      { linger := 2000, arrival := none }, { linger := 2000, arrival := none }]
    clips := [clip true true, clip true false, clip false false]
    scenes := [{ scene 0 0#6 false with present := false }, scene 1 0x11#6 false, scene 2 0#6 false,
      scene 0 0#6 true, scene 3 0#6 false] }

/-- Station 5 in ACTIVE under `cfg0` with nothing going on. -/
def live : State :=
  { State.reset with
    cfg := some cfg0
    clk := { Clock.clear with running := true, showTime := 5000#32, capture := some 4990#32 }
    bus := { Bus.clear with rateState := .rateSet, rate := some .r500, tx := .defer, period := some 250 }
    sul := { State.reset.sul with station := .active, number := 5 }
    lgv := { Lgv.clear with allowance := 400 } }

def bus (f : Bus → Bus) : State := live.onBus f

/-- A part of the state that a command leaves. -/
def after {α : Type} (c : Instr) (s : State) (part : State → α) : Option α :=
  match exec c s with
  | .next t => some (part t)
  | _ => none

/-- `live` with a reception open. -/
def hearing : State := bus fun b => { b with receiving := true }

/-- `live` with a beat, or a sample period, at hand. -/
def atSample (n : Nat) : State := live.onClk fun c => { c with samples := n }
def voice (f : VoiceRec → VoiceRec) : State := live.onVoice .a f
def axis (f : Axis → Axis) : State := live.onAxis 1 f
def slot (f : Slot → Slot) : State := live.onSlot 2 f

/-- A run of scene 1 in slot 2 in a state. -/
def run (state : RunState) : Slot := { Slot.clear with state := state, scene := 1, run := 7, loaded := true }

def msgTalk : OutMsg := .talk .a 0 3
def msgCue : OutMsg := .cueShort 9 1 0#32
def msgAnswer : OutMsg := .answer 4 1#8 0#8 0#8 [] false
def entry (m : OutMsg) (failed : Nat) : OutEntry := { id := 6, msg := m, origin := .sce, failed := failed }
def held (n : Fin 256) : Held :=
  { clip := n, owner := 2, air := .none, fetch := 0, toFetch := 0, toPlay := 0 }

/-! ### Witnesses: the machine, show time -/

theorem witness_CommandsKeepQueueAndNumber :
    exec (.inputStuck 0) live = .next live ∧ (∀ straps, Instr.inputStuck 0 ≠ .resetRelease straps) :=
  ⟨rfl, fun _ => nofun⟩

theorem witness_ResetsAndRelease :
    State.reset.sul.station = .reset ∧ State.reset.smp.state = .ready ∧ State.reset.smp.waiting = [] := by
  decide +kernel

theorem witness_ShowTimeReached :
    reached 0#32 0x80000000#32 = false ∧ reached 0x7FFFFFFF#32 0#32 = true ∧
      reached 0#32 1#32 = false ∧ 2147483647 < 2147483648 := by decide +kernel

theorem witness_BeatMovesShowClock :
    (atSample 23).clk.samples < 24 ∧ (atSample 24).clk.running = true ∧
      24 ≤ (atSample 24).clk.samples ∧ (atSample 24).clk.debt = 0 ∧
      ((atSample 24).onClk fun c => { c with debt := 1, spacing := 6 }).clk.spacing + 1 < 8 ∧
      8 ≤ ((atSample 24).onClk fun c => { c with debt := 1, spacing := 7 }).clk.spacing + 1 ∧
      { live.clk with debt := 5 }.spacing = 0 := by decide +kernel

/-- A beat takes its 24 sample periods, no fewer (R1). -/
theorem test_beat_after_24_samples :
    (exec (.beat Pins.rest false) (atSample 23)) = .next (atSample 23) ∧
      (exec (.samplePeriod false) (atSample 24)) = .next (atSample 24) := ⟨rfl, rfl⟩

theorem witness_BeaconDisciplinesClock :
    State.reset.cfg = none ∧ State.reset.clk.capture = none ∧ live.cfg = some cfg0 ∧
      live.clk.capture = some 4990#32 ∧ cfg0.clockGroup.getLsbD 5 = false ∧
      cfg0.clockGroup.getLsbD 4 = true ∧ (4990#32 - 4990#32).toInt ≤ 0 ∧
      0 < (5240#32 - 4990#32).toInt ∧ (5240#32 - 4990#32).toInt ≤ cfg0.stepLimit ∧
      (cfg0.stepLimit : Int) < (5241#32 - 4990#32).toInt ∧ hearing.Receiving ∧
      (4 : Fin 32) ≠ hearing.sul.number ∧ (7 : Fin 32) ≠ hearing.sul.number ∧
      hearing.clockGroup.getLsbD 7 = false ∧ hearing.cfg = some cfg0 ∧
      hearing.clk.capture = some 4990#32 := by decide +kernel

/-- A BEACON of the clock group moves the clock, one of another station does not (R8, R9). -/
theorem test_beacon_disciplines :
    let heard := fun st stamp => after (.beacon st stamp 0#16 0#16 0#8) hearing State.clk
    heard 4#8 5000#32 = some { live.clk with debt := 10 } ∧
      heard 4#8 5241#32 = some { live.clk with showTime := 5251#32 } ∧
      heard 7#8 5241#32 = some live.clk := by decide +kernel

/-! ### Witnesses: the bay bus -/

theorem witness_LineIdleAndReceptionStart :
    live.Listening ∧ live.bus.lineIdle = false ∧ live.bus.receiving = false ∧
      (bus fun b => { b with receiving := true, badRun := 30 }).Listening ∧
      (bus fun b => { b with receiving := true, badRun := 31 }).Listening ∧
      (bus fun b => { b with lineIdle := true }).Listening ∧ live.cfg = some cfg0 ∧
      cfg0.rate = some .r500 := by decide +kernel

theorem witness_BadFramesRaiseRateDoubt :
    let s := fun n => hearing.onBus fun b => { b with badRun := n }
    (∀ n ∈ [30, 31], (s n).Listening ∧ (s n).bus.receiving = true) ∧ hearing.cfg = some cfg0 ∧
      cfg0.rate = some .r500 ∧ ({ s 31 with cfg := none } : State).Listening ∧
      ({ s 31 with cfg := some { cfg0 with rate := none } } : State).bus.rateState = .rateSet ∧
      32 ≤ (s 32).bus.badRun := by decide +kernel

theorem witness_FramesTurnedAway :
    hearing.Receiving ∧ (4#8).toNat ≠ live.sul.number.val ∧ (6#8).toNat ≠ live.sul.number.val ∧
      64 ≤ (64#8).toNat ∧ 32 ≤ (32#8).toNat ∧ (5#8).toNat = live.sul.number.val := by decide +kernel

def learning (n t : Nat) : State :=
  bus fun b => { b with rateState := .learning, rate := none, learnTimer := n, trialTimer := t }

theorem witness_LearningARate :
    (learning 0 200).bus.rateState = .learning ∧ (learning 0 200).sul.station ≠ .learning ∧
      ((learning 10000 0).onSul fun u => { u with station := .learning }).sul.station = .learning ∧
      200 ≤ (learning 0 200).bus.trialTimer ∧ 10000 ≤ (learning 10000 0).bus.learnTimer ∧
      (learning 10000 0).cfg = some cfg0 := by decide +kernel

def queued (es : List OutEntry) : State := bus fun b => { b with queue := es, nextId := 9, request := some 2 }

theorem witness_OutboundQueueAndCandidate :
    (queued (List.replicate 7 (entry msgCue 0))).bus.queue.length < 8 ∧
      8 ≤ (queued (List.replicate 8 (entry msgCue 0))).bus.queue.length ∧
      (queued [entry msgAnswer 0, entry msgTalk 1]).candidate = some (.entry (entry msgTalk 1)) ∧
      (queued []).bus.queue = [] := by decide +kernel

theorem witness_AttemptBegins :
    let waiting := fun es => (queued es).onBus fun b => { b with tx := .wait, lineIdle := true }
    (waiting [entry msgCue 0]).bus.tx = .wait ∧
      (waiting [entry msgCue 0]).candidate = some (.entry (entry msgCue 0)) ∧
      (Candidate.entry (entry msgCue 0)).wait 5 ≤ 5 ∧ (waiting []).candidate = some (.beacon 2) ∧
      (Candidate.beacon 2).wait 5 ≤ 61 := by decide +kernel

/-- The flags byte of a beacon: talking, local hold, and bay flag 3 of the four. -/
theorem witness_AttemptBegins_beacon :
    let s := fun st => ((live.onSul fun u => { u with station := st }).onNre fun n =>
      { n with talking := true }).onSce fun e => { e with flags := 8#4 }
    (s .configFault).sul.station = .configFault ∧ (s .active).sul.station ≠ .configFault ∧
      (s .active).cfg = some cfg0 ∧ (s .active).flt.entries = [] ∧
      (∀ i : Fin 8, (0x81#8).getLsbD i.val =
        if i = 0 then (s .active).nre.talking
        else if i = 1 then (s .active).hld.localHold
        else if i = 2 then false
        else if i = 3 then false
        else (s .active).sce.flags.getLsbD (i.val - 4)) ∧
      (∀ i : Fin 8, (0x85#8).getLsbD i.val =
        if i = 0 then (s .configFault).nre.talking
        else if i = 1 then (s .configFault).hld.localHold
        else if i = 2 then true
        else if i = 3 then false
        else (s .configFault).sce.flags.getLsbD (i.val - 4)) := by decide +kernel

/-- A beacon of station 5 at show time 5000 in ACTIVE and in CONFIG_FAULT (R18, 13.1). -/
theorem test_beacon_payload :
    let s := fun st => live.onSul fun u => { u with station := st }
    ((s .active).composeBeacon).take 12 =
        [1#8, 5#8, 9#8, 0#8, 0#8, 0x13#8, 0x88#8, 0#8, 0#8, 0x0B#8, 0xB8#8, 0#8] ∧
      ((s .configFault).composeBeacon).take 12 =
        [1#8, 5#8, 9#8, 0#8, 0#8, 0x13#8, 0x88#8, 0#8, 0#8, 0#8, 0#8, 4#8] := by decide +kernel

def sending (what : Carried) (silent : Bool) (es : List OutEntry) : State :=
  (queued es).onBus fun b => { b with tx := .send, attempt := some ⟨what, [], silent⟩ }

theorem witness_FailedAttemptsAreCounted :
    (sending (.entry 6) false [entry msgCue 14]).bus.tx = .send ∧
      (sending (.entry 6) false [entry msgCue 14]).bus.attempt = some ⟨.entry 6, [], false⟩ ∧
      (∀ e ∈ (sending (.entry 6) false [entry msgCue 14]).bus.queue, e.failed < 15) ∧
      (sending (.beacon 14) false [entry msgCue 15]).bus.attempt = some ⟨.beacon 14, [], false⟩ ∧
      (∀ e ∈ (sending (.beacon 14) false [entry msgCue 15]).bus.queue, e.failed < 16) ∧
      (sending (.beacon 0) true []).bus.attempt = some ⟨.beacon 0, [], true⟩ ∧
      (bus fun b => { b with tx := .jam }).bus.tx = .jam := by decide +kernel

theorem witness_FailedAttemptsAreCounted_given_up :
    (∀ m ∈ [msgCue, msgAnswer, .cueLong 3#8 0#32],
      ∀ f ∈ (queued [entry m 16]).bus.queue, 16 ≤ f.failed → f = entry m 16) ∧
      (queued [entry msgCue 16]).bus.request = some 2 ∧ msgCue = .cueShort 9 1 0#32 ∧
      msgAnswer = .answer 4 1#8 0#8 0#8 [] false ∧
      ((bus fun b => { b with request := some 16 }).report .busGiveUp 5).flt.entries ≠ [] ∧
      ((bus fun b => { b with request := some 16 }).report .busGiveUp 5).bus.request = some 16 := by
  decide +kernel

theorem witness_FailedAttemptsAreCounted_sixteenth :
    (∀ m ∈ [msgCue, .cueLong 3#8 0#32, msgAnswer, msgTalk, .answer 4 8#8 0#8 0#8 [] true],
      let s := sending (.entry 6) false [entry m 15]
      s.bus.tx = .send ∧ entry m 15 ∈ s.bus.queue ∧ s.bus.attempt = some ⟨.entry 6, [], false⟩ ∧
        (∀ f ∈ s.bus.queue, f.failed < 16) ∧ s.bus.request = some 2) ∧
      (sending (.beacon 15) false []).bus.attempt = some ⟨.beacon 15, [], false⟩ ∧
      ((sending (.beacon 15) false []).report .busGiveUp 5).flt.entries ≠ [] := by decide +kernel

theorem witness_SentMessagesAreReported :
    (sending (.beacon 0) false []).bus.attempt = some ⟨.beacon 0, [], false⟩ ∧
      (sending (.entry 6) false [entry msgAnswer 0]).bus.queue.find? (fun x => x.id = 6) =
        some (entry msgAnswer 0) ∧
      (sending (.entry 6) false [entry msgTalk 0]).bus.queue.find? (fun x => x.id = 6) =
        some (entry msgTalk 0) ∧
      msgTalk = .talk .a 0 3 ∧
      ((voice fun x => { x with state := .claiming, claimId := 3 }).voice .a).claimId = 3 := by
  decide +kernel

theorem witness_SentMessagesAreReported_restart :
    let done := entry (.answer 4 8#8 0#8 0#8 [] true) 0
    (sending (.entry 6) false [done]).bus.queue.find? (fun x => x.id = done.id) = some done ∧
      (sending (.entry 6) false [done]).bus.attempt = some ⟨.entry done.id, [], false⟩ ∧
      (∀ silent, (sending (.beacon 0) silent []).bus.attempt = some ⟨.beacon 0, [], silent⟩) ∧
      (sending (.entry 6) true []).bus.attempt = some ⟨.entry 6, [], true⟩ ∧
      (sending (.entry 6) true []).bus.tx = .send := by decide +kernel

theorem witness_BoundariesRaiseBeacons :
    live.bus.period = some 250 ∧ cfg0.beaconPeriod ≤ 250 ∧ live.lgv.line = [] ∧
      ({ live with cfg := none } : State).cfg = none ∧
      (bus fun b => { b with spacing := some 0 }).bus.spacing = some 0 ∧
      (sending (.beacon 0) false []).bus.beaconInFlight = true ∧
      (bus fun b => { b with spacing := some 3 }).bus.beaconInFlight = false ∧
      live.bus.beaconInFlight = false ∧ live.bus.spacing = none := by decide +kernel

theorem witness_FramesReadBack :
    (List.replicate 20 0#8).length ≤ 20 ∧ (List.replicate 6 0#8).length ≤ 6 ∧
      (List.replicate 24 0#8).length ≤ 24 ∧ 5 < (6#8).toNat := by decide +kernel

/-! ### Witnesses: the Peer Table -/

def peer (st : Fin 32) (age : Nat) : Peer :=
  { station := st, fresh := true, g := 100, x := 3000, talking := false, localHold := false
    flags := 0#4, faultPresent := false, age := age, expired := decide (1000 < age) }

theorem witness_BeaconEntersPeerTable :
    hearing.Receiving ∧ (7 : Fin 32) ≠ live.sul.number ∧ live.clockGroup.getLsbD 7 = false ∧
      live.earshot.getLsbD 7 = false ∧ (∀ i, (live.slot i).state ≠ .waiting) ∧
      live.nre.talking = (live.nre.a.talks || live.nre.b.talks) ∧
      PeersAscend [peer 4 0, peer 7 0] := by decide +kernel

theorem witness_BeaconEntersPeerTable_gate :
    let at_ := fun st air => (hearing.onVoice .a fun x =>
      { x with state := st, current := some { clip := 0, owner := 2, air := air, fetch := 0
                                              toFetch := 0, toPlay := 0 } })
    let s := at_ .claiming .none
    let t := at_ .waitQuiet .none
    let p9 := { peer 9 0 with talking := true }
    (∀ u ∈ [s, t, { t with ptb := [peer 3 0, p9] }, { t with ptb := [peer 3 0, peer 9 0] }],
      u.Receiving ∧ (3 : Fin 32) ≠ u.sul.number ∧ u.clockGroup.getLsbD 3 = false ∧
        u.nre.talking = (u.nre.a.talks || u.nre.b.talks) ∧ u.earshot.getLsbD 3 = true ∧
        (∀ i, (u.slot i).state ≠ .waiting) ∧ PeersAscend u.ptb) ∧
      (1#8 : Byte).getLsbD 0 = true ∧ (s.voice .a).state = .claiming ∧ (t.voice .a).state = .waitQuiet ∧
      (t.voice .a).retry = none ∧ (t.voice .a).current = some (held 0) ∧ (held 0).owner = 2 ∧
      (t.voice (otherVoice .a)).state ≠ .waitQuiet ∧ t.held = false ∧ t.bus.queue.length < 8 ∧
      p9 ∈ ({ t with ptb := [peer 3 0, p9] } : State).ptb ∧ p9.station ≠ 3 ∧
      t.earshot.getLsbD p9.station.val = true ∧ p9.fresh = true ∧ p9.talking = true := by
  decide +kernel

theorem witness_BeaconEntersPeerTable_await :
    let w : Await := ⟨.peerFlag 4 1 true, 0, 0, false, 0⟩
    let s : State := { (slot fun _ => { run .waiting with await := some w }) with
      ptb := [{ peer 4 0 with flags := 2#4 }] }
    (s.slot 2).state = .waiting ∧ (s.slot 2).await = some w ∧ w.kind = .peerFlag 4 1 true ∧
      s.peer 4 = some { peer 4 0 with flags := 2#4 } ∧ (2#4).getLsbD 1 = true ∧
      (peer 4 0).flags.getLsbD 1 ≠ true ∧ (peer 4 0).fresh = true ∧
      { peer 4 0 with fresh := false }.fresh = false := by decide +kernel

theorem witness_PeerExpires :
    let s : State := { live with ptb := [peer 4 1001, peer 7 1001] }
    peer 4 1001 ∈ s.ptb ∧ peer 7 1001 ∈ s.ptb ∧ (peer 4 1001).fresh = true ∧
      (peer 4 1001).expired = true ∧ (peer 4 1000).expired = false ∧
      s.earshot.getLsbD 4 = false ∧ s.earshot.getLsbD 7 = false ∧
      (∀ i, (s.slot i).state ≠ .waiting) ∧ s.feeder.getLsbD 4 = true ∧ s.feeder.getLsbD 7 = false := by
  decide +kernel

/-- An entry expires at the beat that takes its age past the limit, not at its limit (R39). -/
theorem test_expiry_limit :
    (Peer.beat 1000 (peer 4 999)).expired = false ∧ (Peer.beat 1000 (peer 4 1000)).expired = true := by
  decide +kernel

/-! ### Witnesses: inputs and presence -/

/-- Input `i` with a debounced level, its stability count at the debounce time. -/
def pressed (i : Fin 8) (level latch : Bool) : State :=
  live.onInput i fun x => { x with level := level, stability := 3, latch := latch }

theorem witness_InputChangesByKind :
    cfg0.inputs[(0 : Fin 8)].kind ≠ .unused ∧
      (∀ i ∈ [(0 : Fin 8), 1, 2, 3, 4], live.inputCfg i = some cfg0.inputs[i] ∧
        cfg0.inputs[i].debounce ≤ ((pressed i false false).viu.inputs[i]).stability) ∧
      (pressed 0 false true).viu.inputs[(0 : Fin 8)].latch = true ∧
      (pressed 0 false false).viu.inputs[(0 : Fin 8)].latch = false ∧
      cfg0.inputs[(4 : Fin 8)].localScene = none ∧ cfg0.inputs[(4 : Fin 8)].cue = none ∧
      cfg0.inputs[(1 : Fin 8)].cue = some 9#8 ∧ cfg0.inputs[(0 : Fin 8)].localScene = some 1 ∧
      (pressed 0 true false).viu.inputs[(0 : Fin 8)].level = true ∧
      cfg0.inputs[(2 : Fin 8)].kind = .presence ∧ cfg0.inputs[(3 : Fin 8)].kind = .holdKey ∧
      (live.onSul fun u => { u with station := .joining }).sul.station ≠ .active := by decide +kernel

def request (n : Fin 64) (p : Fin 4) : Request :=
  { scene := n, priority := p, origin := .opening, joined := 0, patience := 0 }
def grouped (state : GroupState) : State := live.onGroup 1 fun _ => { state := state, timer := 0 }
def waitingFor (qs : List Request) : State := live.onSce fun e => { e with queue := qs }

theorem witness_HallTimersAndGroups :
    let s := live.onInput 0 fun x => { x with level := true, held := 2001 }
    s.inputCfg 0 = some cfg0.inputs[(0 : Fin 8)] ∧ cfg0.inputs[(0 : Fin 8)].kind = .button ∧
      cfg0.inputs[(0 : Fin 8)].stuckLimit * 1000 < (s.viu.inputs[(0 : Fin 8)]).held ∧
      ((grouped .linger).viu.groups[(1 : Fin 4)]).timer = 0 ∧
      (∀ i, ((grouped .linger).slot i).state ≠ .waiting) ∧
      request 1 0 ∈ (waitingFor [request 1 0]).sce.queue ∧
      live.sceneEntry 1 = some (scene 1 0x11#6 false) ∧ 0 < (scene 1 0x11#6 false).patience ∧
      (live.groupCfg 0).arrival = none ∧ (live.groupCfg 1).arrival = some 2 ∧
      (grouped .occupied).memberActive 1 = false ∧ (live.groupCfg 0).linger = 0 ∧
      0 < (live.groupCfg 1).linger ∧
      ((grouped .occupied).onInput 2 fun x => { x with level := true }).memberActive 1 = true := by
  decide +kernel

theorem witness_HallTimersAndGroups_change :
    let s := fun level old => (pressed 2 level false).onGroup 1 fun _ => { state := old, timer := 7 }
    let none_ : State := { s false .idle with cfg := some { cfg0 with
      groups := Vector.replicate 4 { linger := 0, arrival := none } } }
    (∀ u ∈ [s false .linger, s false .idle, s true .occupied, none_],
      u.inputCfg 2 = some cfg0.inputs[(2 : Fin 8)] ∧
        cfg0.inputs[(2 : Fin 8)].debounce ≤ (u.viu.inputs[(2 : Fin 8)]).stability ∧
        u.sul.station = .active ∧ ∀ j, (u.slot j).state ≠ .waiting) ∧
      cfg0.inputs[(2 : Fin 8)].kind = .presence ∧ 0 < cfg0.inputs[(2 : Fin 8)].debounce ∧
      ((s false .linger).viu.inputs[(2 : Fin 8)]).level = false ∧
      ((s true .occupied).viu.inputs[(2 : Fin 8)]).level = true ∧
      ((s true .occupied).tick.onInput 2 fun x => { x with level := false, stability := 0 }).memberActive
        cfg0.inputs[(2 : Fin 8)].group = false ∧
      ((s false .linger).viu.groups[cfg0.inputs[(2 : Fin 8)].group]).state = .linger ∧
      (none_.viu.groups[cfg0.inputs[(2 : Fin 8)].group]).state = .idle ∧
      ((s true .occupied).viu.groups[cfg0.inputs[(2 : Fin 8)].group]).state = .occupied ∧
      (none_.groupCfg cfg0.inputs[(2 : Fin 8)].group).arrival = none ∧
      0 < ((s true .occupied).groupCfg cfg0.inputs[(2 : Fin 8)].group).linger := by decide +kernel

/-- A PRESENCE input leaves as the only member: the group lingers (R54, R55). -/
theorem test_presence_lingers :
    let s := (pressed 2 true false).onGroup 1 fun _ => { state := .occupied, timer := 0 }
    after (.inputChange 2) s (fun t => t.viu.groups[(1 : Fin 4)]) =
      some { state := .linger, timer := 2000 } := by decide +kernel

/-! ### Witnesses: scenes -/

theorem witness_RequestDispositions :
    State.reset.sul.station = .reset ∧ live.sul.station.runsShow = true ∧ live.sceneEntry 0 = none ∧
      live.sceneEntry 1 = some (scene 1 0x11#6 false) ∧
      (slot fun _ => run .stopping).slotOf 1 = some 2 ∧ (slot fun _ => run .running).slotOf 1 = some 2 ∧
      ((slot fun _ => run .running).slot 2).sceneTime.toNat < (scene 1 0x11#6 false).lockout ∧
      (waitingFor [request 1 0]).slotOf 1 = none ∧ (waitingFor [request 1 0]).isSuccessor 1 = false ∧
      live.slotOf 1 = none ∧ (live.onHld fun h => { h with inEffect := true }).held = true := by
  decide +kernel

/-- Four runs of scene 1's claims at a priority, in a state each. -/
def full (p : Fin 4) (state : RunState) : State :=
  live.onSce fun e =>
    { e with
      slots := #v[{ run state with priority := p, claims := 0x11#6 }, { run .stopping with scene := 2 },
        { run .running with scene := 3, priority := 3 }, { run .running with scene := 4, priority := 3 }]
      claims := #v[some 0, none, none, none, some 0, none] }

theorem witness_RequestDispositions_restart :
    let s := slot fun _ => { run .running with sceneTime := 500#32, claims := 0x10#6 }
    let t := slot fun _ => { run .stopping with successor := some ⟨4, 3, 0#6, .opening, true⟩ }
    s.sceneEntry 1 = some (scene 1 0x11#6 false) ∧ s.slotOf 1 = some 2 ∧ (s.slot 2).state = .running ∧
      (scene 1 0x11#6 false).lockout ≤ (s.slot 2).sceneTime.toNat ∧
      (s.slot 2).claims.getLsbD 4 = true ∧ t.slotOf 4 = none ∧ t.isSuccessor 4 = true ∧
      (slot fun _ => run .loading).slotOf 1 = some 2 := by decide +kernel

theorem witness_RequestDispositions_start :
    let s := live.onSmp fun p => { p with state := .busy ⟨.loader, 0, 2, 0⟩ false }
    s.sceneEntry 1 = some (scene 1 0x11#6 false) ∧ s.slotOf 1 = none ∧ s.isSuccessor 1 = false ∧
      s.sce.queue = [] ∧ s.held = false ∧ s.sul.station = .active ∧ (s.slot 0).state = .free ∧
      (∀ r : Fin 6, s.isFree r = true) ∧ s.smp.state = .busy ⟨.loader, 0, 2, 0⟩ false ∧
      (waitingFor [request 1 1]).sceneEntry 1 = some (scene 1 0x11#6 false) ∧
      (scene 1 0x11#6 false).claims &&& (scene 1 0x11#6 false).claims ≠ 0#6 := by decide +kernel

theorem witness_RequestDispositions_preempt :
    let s := (full 0 .running).onSlot 0 fun x => { x with scene := 5 }
    let t := s.onSlot 1 fun _ => Slot.clear
    let blocked := s.onSlot 0 fun x => { x with priority := 1 }
    s.slotOf 1 = none ∧ s.isFree 0 = false ∧ (∀ j, (s.slot j).state ≠ .free) ∧
      s.contenders 0x11#6 = [.run 0, .run 0] ∧ s.contenderPriority (.run 0) < 1 ∧
      s.placeFor 1 = some 1 ∧ (s.slot 1).state ≠ .free ∧ (s.slot 0).state.stoppable = true ∧
      t.placeFor 1 = some 1 ∧ (t.slot 1).state = .free ∧
      1 ≤ blocked.contenderPriority (.run 0) ∧ .run 0 ∈ blocked.contenders 0x11#6 := by decide +kernel

theorem witness_RequestDispositions_places :
    let s := (full 0 .running).onSlot 1 fun x => { x with successor := some ⟨4, 3, 0#6, .opening, true⟩ }
    live.placeFor 0 = some 0 ∧ (full 0 .running).placeFor 0 = some 1 ∧ s.placeFor 1 = some 0 ∧
      s.placeFor 0 = none := by decide +kernel

theorem witness_RequestDispositions_service :
    let s := waitingFor [request 1 1]
    s.sce.queue = [request 1 1] ∧ s.sceneEntry 1 = some (scene 1 0x11#6 false) ∧ s.held = false ∧
      s.sul.station = .active ∧ 0x11#6 &&& 0x01#6 ≠ 0#6 ∧ 0x11#6 &&& 0#6 = 0#6 ∧
      (s.slot 0).state = .free ∧ (∀ r : Fin 6, s.isFree r = true) := by decide +kernel

theorem witness_RequestQueueInServiceOrder :
    InServiceOrder [request 2 2, request 4 1, request 3 1] ∧
      (waitingFor (List.replicate 7 (request 2 1))).sce.queue.length < 8 ∧
      (waitingFor (List.replicate 8 (request 2 1))).sce.queue.length = 8 ∧
      (waitingFor (List.replicate 8 (request 2 1))).sce.queue.getLast? = some (request 2 1) ∧
      (request 2 1).priority < (scene 2 0#6 false).priority ∧
      (scene 1 0x11#6 false).priority ≤ (request 2 1).priority := by decide +kernel

/-- A scene read of slot 2 is in progress. -/
def reading (kind : ReadKind) (count : Nat) : State :=
  (slot fun _ => { run .running with read := .wanted kind }).onSmp fun _ =>
    { state := .busy ⟨.scene 2 7 kind, 16384, count, 0⟩ false, waiting := [], sent := [], timer := 1 }

theorem witness_SceneReadsFillTheWindow :
    (∀ kind ∈ [ReadKind.initial, .refill, .reload],
      (reading kind 12).smp =
          { state := .busy ⟨.scene 2 ((reading kind 12).slot 2).run kind, 16384, 12, 0⟩ false
            waiting := [], sent := [], timer := 1 } ∧
        ((reading kind 12).slot 2).state ≠ .free ∧ ((reading kind 12).slot 2).read = .wanted kind) ∧
      0xA5#8 ∉ [0xFF#8, 0xFF#8] ∧ 12 ≤ (1#8 :: 1#8 :: List.replicate 10 0#8).length ∧
      live.sceneEntry 1 = some (scene 1 0x11#6 false) ∧
      field (1#8 :: 1#8 :: List.replicate 10 0#8) 0 1 = 1 ∧
      field (1#8 :: 1#8 :: List.replicate 10 0#8) 1 1 = (scene 1 0x11#6 false).cueCount ∧
      field (2#8 :: 1#8 :: List.replicate 10 0#8) 0 1 ≠ 1 := by decide +kernel

/-- The bytes before the first data-start mark are passed over; a mark among the data is data (R175). -/
theorem test_data_start_mark :
    afterMark [0xFF#8, 0xA5#8, 1#8, 0xA5#8, 2#8] = [1#8, 0xA5#8, 2#8] ∧ afterMark [1#8, 2#8] = [] ∧
      readCommand 0x123456 = [0x03#8, 0x12#8, 0x34#8, 0x56#8] := by decide +kernel

/-- Slot 2 holds all the claims it has. -/
def claiming (x : Slot) : State :=
  (slot fun _ => x).onSce fun e => { e with claims := #v[some 2, none, none, none, some 2, none] }

theorem witness_RunStatesEnd :
    let s := claiming { run .claiming with claims := 0x11#6 }
    (s.slot 2).tell = false ∧ (s.slot 2).successor = none ∧ (s.slot 2).loaded = true ∧
      (∀ r : Fin 6, (s.slot 2).claims.getLsbD r.val = true → s.holder r = some 2) ∧ s.held = false ∧
      (∀ r : Fin 6, (slot fun _ => run .stopping).holder r ≠ some 2) ∧
      ((slot fun _ => run .stopping).slot 2).read = .none ∧
      ((slot fun _ => run .ending).slot 2).claims = 0#6 ∧
      (slot fun _ => run .ending).loops 1 = false ∧ (slot fun _ => run .ending).loops 3 = true ∧
      (∀ r : Fin 6,
        ((claiming { run .ending with claims := 0x11#6 }).slot 2).claims.getLsbD r.val = true →
          (claiming { run .ending with claims := 0x11#6 }).resourceIdle r = true) := by decide +kernel

theorem witness_RunStatesEnd_told :
    let s := claiming { run .loading with claims := 0x11#6, tell := true }
    let u : Successor := ⟨4, 3, 0x10#6, .opening, true⟩
    let t := slot fun _ => { run .stopping with tell := true, successor := some u }
    let l : Latch := ⟨.start, [1#8], 4⟩
    (s.slot 2).tell = true ∧ (s.slot 2).state = .loading ∧ (s.slot 2).loaded = true ∧
      (∀ r : Fin 6, (s.slot 2).claims.getLsbD r.val = true → s.holder r = some 2) ∧ s.held = false ∧
      (t.slot 2).state = .stopping ∧ (∀ r : Fin 6, t.holder r ≠ some 2) ∧ (t.slot 2).read = .none ∧
      (t.slot 2).tell = true ∧ (t.slot 2).successor = some u ∧ (t.setSlot 2 Slot.clear).isFree 4 = true ∧
      (live.onSce fun e => { e with latch := some l }).sce.latch = some l ∧ l.kind = .start := by
  decide +kernel

/-! ### Witnesses: cues -/

def running : State := claiming { run .running with claims := 0x11#6 }

theorem witness_CuesWithoutClaims :
    (running.slot 2).state = .running ∧ running.held = false ∧ (running.slot 2).window = [] ∧
      running.bus.queue.length < 8 := by decide +kernel

theorem witness_CuesUnderClaims :
    (running.slot 2).state = .running ∧ running.held = false ∧ (running.slot 2).window = [] ∧
      running.holder (voicePlace .a) = some 2 ∧ running.clipValid 2 = true ∧
      running.clipValid 3 = false ∧ running.axisCfg 0 = some axisCfg ∧
      running.holder (axisPlace 0) = some 2 ∧ axisCfg.softMin ≤ axisCfg.softMax := by decide +kernel

/-- Voice A in a state with a current clip of run 2, all of it fetched, and a queue. -/
def speaking (st : VoiceState) (q : List Queued) : State :=
  voice fun x => { x with state := st, current := some (held 0), queue := q }

theorem witness_CuesUnderClaims_voices :
    let q : Queued := { clip := 1, owner := 2, cut := false }
    let talking := (speaking .playing [q]).onNre fun n =>
      { n with a := { n.a with current := some { held 0 with air := .granted } } }
    4 ≤ ((speaking .playing [q, q, q, q]).voice .a).queue.length ∧
      ((speaking .tailing [q, q, q]).voice .a).queue.length < 4 ∧
      (speaking .tailing []).nre.talking =
        ((speaking .tailing []).nre.a.talks || (speaking .tailing []).nre.b.talks) ∧
      { q with cut := true }.cut = true ∧ ((speaking .claiming [q]).voice .a).state = .claiming ∧
      ((speaking .waitQuiet [q]).voice .a).state = .waitQuiet ∧
      ownedBy 2 ((speaking .claiming [q]).voice .a).current = true ∧
      (∀ x ∈ ((speaking .claiming [q]).voice .a).queue, x.owner = 2) ∧
      ownedBy 3 ((speaking .playing [q]).voice .a).current = false ∧
      ((speaking .playing [q]).voice .a).next = none ∧ (held 0).toFetch = 0 ∧
      (live.clipOf 1).earshot = true ∧ (held 0).air ≠ .granted ∧ (live.clipOf 2).earshot = false ∧
      (talking.voice .a).current = some { held 0 with air := .granted } := by decide +kernel

theorem witness_UnfitCuesAreSkipped :
    (running.slot 2).state = .running ∧ running.held = false ∧ (running.slot 2).window = [] ∧
      16 ≤ (16#8).toNat ∧ 4 ≤ (4#8).toNat ∧ 2 ≤ (2#8).toNat ∧ 32 ≤ (32#8).toNat ∧ 64 ≤ (64#8).toNat ∧
      running.holder (voicePlace .b) ≠ some 2 ∧ running.holder (axisPlace 1) ≠ some 2 := by
  decide +kernel

/-- A WAITING run with its timeout run out. -/
def waitingRun (onEnd : Bool) : State :=
  slot fun _ => { run .waiting with await := some ⟨.axisIdle 0, 50, 0, onEnd, 0⟩ }

theorem witness_AwaitsHoldTheRun :
    (running.slot 2).state = .running ∧ running.held = false ∧ (running.slot 2).window = [] ∧
      awaitOf 2#8 0#8 0#8 = some (.axisIdle 0) ∧ running.awaitHolds (.axisIdle 0) = true ∧
      awaitOf 0#8 4#8 0x11#8 = some (.peerFlag 4 1 true) ∧
      running.awaitHolds (.peerFlag 4 1 true) = false ∧
      (∀ e, ((waitingRun e).slot 2).await = some ⟨.axisIdle 0, 50, 0, e, 0⟩) ∧
      ((waitingRun true).slot 2).state = .waiting ∧
      ({ live with ptb := [peer 4 0] } : State).peer 4 = some (peer 4 0) ∧ live.peer 4 = none := by
  decide +kernel

/-- An await and the number of a report: one that began before it, one that began since (R131, R158). -/
theorem witness_AwaitsHoldTheRun_reports :
    let s := fun k => slot fun _ => { run .waiting with await := some ⟨k, 0, 0, false, 3⟩ }
    ∀ k ∈ [AwaitKind.voiceIdle .a, .axisIdle 0],
      ((s k).slot 2).state = .waiting ∧ ((s k).slot 2).await = some ⟨k, 0, 0, false, 3⟩ ∧
        (⟨k, 0, 0, false, 3⟩ : Await).begun < 4 ∧ ¬ (⟨k, 0, 0, false, 3⟩ : Await).begun < 3 := by
  decide +kernel

theorem witness_DueCuesExecute :
    let s := slot fun _ => { run .running with window := [⟨0, 0, .home 1#8⟩] }
    (s.slot 2).window = [⟨0, 0, .home 1#8⟩] ∧ s.held = false ∧ (s.slot 2).nextCue < s.cueCount 2 ∧
      0 ≤ (s.slot 2).sceneTime.toNat ∧
      (slot fun _ => { run .running with nextCue := 1 }).cueCount 2 ≤ 1 := by decide +kernel

def pendingCue (n : Fin 64) (at_ : ShowTime) : PendingCue :=
  { scene := n, startAt := at_, station := 9, long := true }

theorem witness_CuesHeardAgainstShowTime :
    let w : Window := { enabled := true, origin := some 9, low := 60, high := 69, offset := -40 }
    let shut : Window := { w with low := 70, high := 79 }
    (¬ (shut.enabled = true ∧ shut.low ≤ 60 ∧ 60 ≤ shut.high)) ∧ w.low ≤ 60 ∧ 60 ≤ w.high ∧
      (60 : Int) + w.offset = (20 : Fin 64).val ∧ (60 : Int) + { w with offset := -61 }.offset < 0 ∧
      InLeadOrder 5000#32 [pendingCue 1 5001#32, pendingCue 2 6000#32] ∧
      live.sul.station.runsShow = true ∧ reached live.clk.showTime 3000#32 = true ∧
      (live.clk.showTime - 3000#32).toNat ≤ live.lateLimit ∧
      live.lateLimit < (live.clk.showTime - 2999#32).toNat ∧
      reached live.clk.showTime 5001#32 = false ∧
      ({ live with csc := List.replicate 8 (pendingCue 1 5002#32) } : State).csc.getLast? =
        some (pendingCue 1 5002#32) ∧
      lead live.clk.showTime 5001#32 < lead live.clk.showTime 5002#32 ∧
      lead live.clk.showTime 5002#32 ≤ lead live.clk.showTime 5002#32 := by decide +kernel

/-- An entry that a beat has reached and left keeps its place before a cue heard then (R94, R96). -/
theorem test_reached_entry_stays_first :
    insertPending 5000#32 (pendingCue 3 5001#32) [pendingCue 1 4999#32, pendingCue 2 5002#32] =
      [pendingCue 1 4999#32, pendingCue 3 5001#32, pendingCue 2 5002#32] := by decide +kernel

theorem witness_CueFramesAndDueEntries :
    hearing.Receiving ∧ (9 : Fin 32) ≠ live.sul.number ∧ reached live.clk.showTime 5000#32 = true ∧
      reached live.clk.showTime 5001#32 = false ∧
      ({ live with csc := [pendingCue 1 4000#32, pendingCue 2 5000#32, pendingCue 3 5001#32] } :
          State).csc =
        (pendingCue 1 4000#32 :: [pendingCue 2 5000#32]) ++ [pendingCue 3 5001#32] := by
  decide +kernel

/-! ### Witnesses: orders -/

theorem witness_OrdersCompleteAtOnce : hearing.TakesOrder 4 ∧ (0xF4#8).toNat % 32 ≤ 20 := by decide +kernel

theorem witness_OrdersCompleteAtOnce_clear :
    let s := ((hearing.report .busGiveUp 5).onAxis 1 fun x => { x with showHold := true }).onHld fun h =>
      { h with localHold := true }
    s.flt.entries ≠ [] ∧ hearing.flt.entries = [] ∧
      (s.cfg.isSome && (s.keyHold || s.hld.orderHold)) = false ∧ s.hld.localHold ≠ false := by
  decide +kernel

theorem witness_OrdersHeldByTheLatch :
    hearing.TakesOrder 4 ∧ hearing.gone 1 = true ∧
      (∀ i, (hearing.slot i).state = .free ∧ (hearing.slot i).successor = none) ∧
      hearing.sce.queue = [] := by decide +kernel

theorem witness_OrdersHeldByTheLatch_stops :
    let s := full 0 .running
    (s.slot 1).state = .stopping ∧ (s.slot 0).state = .running ∧ s.holder (voicePlace .a) = some 0 ∧
      s.holder (axisPlace 0) = some 0 ∧ s.holder (axisPlace 1) ≠ some 0 ∧ s.slotOf 1 = some 0 ∧
      s.slotOf 1 ≠ some 2 := by decide +kernel

theorem witness_OrdersTurnedAway :
    let busy := hearing.onSce fun e => { e with latch := some ⟨.stop, [1#8], 4⟩ }
    let faulted : State := { (hearing.onSul fun u => { u with station := .configFault }) with cfg := none }
    hearing.Receiving ∧ (4 : Fin 32) ≠ hearing.sul.number ∧ hearing.bus.queue.length < 8 ∧
      hearing.orderSet.getLsbD 9 = false ∧ hearing.orderSet.getLsbD 4 = true ∧
      busy.sce.latch.isSome = true ∧ faulted.Receiving ∧ faulted.orderSet.getLsbD 4 = true ∧
      faulted.sul.station = .configFault ∧ orderOf .start [64#8] = none ∧ orderOf .stopAll [0#8] = none := by
  decide +kernel

theorem witness_QueryPartsMakeThePage :
    live.sce.queue.length ≤ 8 ∧ live.nre.a.queue.length ≤ 4 ∧ live.nre.b.queue.length ≤ 4 ∧
      live.bus.rate = some .r500 ∧ State.reset.bus.rate = none ∧ State.reset.cfg = none ∧
      live.cfg = some cfg0 ∧ live.smp.state = .ready := by decide +kernel

/-! ### Witnesses: lighting and load -/

theorem witness_CoursesOfAChannel :
    0 < 4000 ∧
      ((live.onChannel 3 fun x => { x with course := .blend 1 500 40 40 }).channel 3).course =
        .blend 1 500 40 40 ∧
      ((live.onChannel 3 fun x => { x with dir := .towardLive }).channel 3).dir = .towardLive ∧
      (live.channel 3).q = 0 := by decide +kernel

/-- The boundary phases of a table of two points, 0 and 16384: the first point, the last before the second, the
second, and the last of the period. -/
theorem witness_CoursesOfAChannel_table :
    let t : CycleTable := { period := 65536, points := [⟨0, 2000⟩, ⟨16384, 60000⟩] }
    t.points.Pairwise (fun p q => p.phase < q.phase) ∧
      (∀ n ∈ [0, 16383, 16384, 65535], n = n % 65536 * 65536 / 65536) ∧
      t.points[0]? = some ⟨0, 2000⟩ ∧ t.points[1]? = some ⟨16384, 60000⟩ ∧
      t.points.getLast? = some ⟨16384, 60000⟩ ∧ tableValue t 0#32 = 2000 ∧
      tableValue t 16384#32 = 60000 := by decide +kernel

theorem witness_CoursesOfAChannel_stages :
    let x : Channel := { Channel.clear with course := .blend 1 500 39 40, latched := some 77 }
    let cyc : Channel := { x with course := .cycle 1, latched := none }
    x.course.table = some 1 ∧ x.latched = some 77 ∧ cyc.course = .cycle 1 ∧ cyc.latched = none ∧
      chan.goTo = true ∧ { chan with goTo := false }.goTo = false ∧ 0 < cfg0.holdFade ∧
      { cfg0 with holdFade := 0 }.holdFade = 0 ∧ chan.group = some 0 ∧
      { chan with group := none }.group = none ∧ { x with dir := .towardHold }.dir = .towardHold ∧
      { x with dir := .towardLive, q := 1 }.q ≤ 1 ∧ x.dir = .none := by decide +kernel

/-- TABLE XLVI: the first frame of a hold on a GO_TO channel with base 30,000 (H = 400 and hold level 8000). -/
theorem test_table_xlvi :
    let x : Channel := { Channel.clear with course := .fade 30000 30000 250 250, dir := .towardHold }
    let y := x.frame { chan with holdLevel := 8000, group := none } cfg0 5000#32 true live.viu.groups
    y.v = 30000 ∧ y.q = 1 ∧ y.intent = 29945 ∧ y.level = 1871 := by decide +kernel

/-- Every channel full on: a demand of 1600 W against an allowance. -/
def lit (allowance : Nat) : State :=
  { live with
    lte := { live.lte with channels := Vector.replicate 16 { Channel.clear with course := .fade 0 65535 0 0 } }
    lgv := { Lgv.clear with allowance := allowance } }

theorem witness_ScaleOfAFrame :
    (lit 400).cfg = some cfg0 ∧
      (lit 400).lightingFrame.lgv.lightingAllowance < (lit 400).lightingFrame.lgv.demand ∧
      (lit 1600).lightingFrame.lgv.demand ≤ (lit 1600).lightingFrame.lgv.lightingAllowance ∧
      (lit 0).lightingFrame.lgv.lightingAllowance = 0 ∧ 0 < (lit 0).lightingFrame.lgv.demand ∧
      live.lightingFrame.lgv.demand = 0 := by decide +kernel

theorem witness_GrantedLoadOfAFrame :
    (lit 400).cfg = some cfg0 ∧
      (lit 400).lgv.reserved + (lit 400).lightingFrame.lgv.exempt ≤ (lit 400).lgv.allowance := by
  decide +kernel

theorem witness_BeatDoesTheShow :
    let s := fun st pins => { axis (fun x => { x with state := st, move := some .home }) with pins := pins }
    (atSample 24).clk.running = true ∧ 24 ≤ (atSample 24).clk.samples ∧ live.cfg = some cfg0 ∧
      (live.axis 1).state.inMotion = false ∧ ((s .homing Pins.rest).axis 1).state.inMotion = true ∧
      (((s .homing Pins.rest).axis 1).period 1 axisCfg Pins.rest).2 = .none ∧
      (((s .homing Pins.rest).axis 1).period 1 axisCfg { Pins.rest with home := 0#4 }).2 = .rest ∧
      (((s .homing Pins.rest).axis 1).period 1 axisCfg { Pins.rest with lmn := 0#4 }).2 = .limit ∧
      (((s .homing Pins.rest).axis 1).period 1 { axisCfg with travelLimit := 0 } Pins.rest).2 = .notFound ∧
      axisCfg.faultHolds = true := by decide +kernel

theorem witness_BeatDoesTheShow_port :
    let s := (atSample 24).onSmp fun p => { p with state := .busy ⟨.loader, 0, 2, 0⟩ false, timer := 1 }
    (State.takeDue s.tick).smp.state = .busy ⟨.loader, 0, 2, 0⟩ false ∧ s.clk.running = true ∧
      24 ≤ s.clk.samples ∧ (State.takeDue (atSample 24).tick).smp.state = .ready := by decide +kernel

/-- The second beat after the address was sent is the time of the timeout, and the only one (R168). -/
theorem test_timeout_at_two_beats :
    let s := fun n => live.onSmp fun p => { p with state := .busy ⟨.loader, 0, 2, 0⟩ false, timer := n }
    (s 1).smp.beat.timer = 2 ∧ (s 2).smp.beat.timer = 3 ∧ (s 3).smp.beat.timer = 3 ∧
      (∀ n ∈ [0, 1, 3], after .showMemoryTimeout (s n) (fun t => decide (t = s n)) = some true) ∧
      after .showMemoryTimeout (s 2) (fun t => t.smp.timer) = some 0 := by decide +kernel

theorem witness_BeatDoesTheShow_groups :
    let p := State.takeDue (((atSample 24).onInput 2 fun x => { x with level := true }).onViu fun u =>
      { u with judgeGroups := true }).tick
    p.cfg = some cfg0 ∧ p.viu.judgeGroups = true ∧ p.sul.station = .active ∧ p.memberActive 1 = true ∧
      (p.viu.groups[(1 : Fin 4)]).state = .idle ∧ cfg0.groups[(1 : Fin 4)].arrival = some 2 ∧
      p.memberActive 2 = false ∧ p.held = false := by decide +kernel

theorem witness_AllowanceAndAdmission :
    let s := (axis fun x => { x with guardClear := true }).onLgv fun l => { l with line := [1] }
    cfg0.floor ≤ cfg0.ceiling ∧ cfg0.floor ≤ 400 ∧ 400 ≤ cfg0.ceiling ∧ 5600 + 400 ≤ cfg0.capacity ∧
      cfg0.capacity < 5601 + 400 ∧ s.cfg = some cfg0 ∧ s.lgv.line = 1 :: [] ∧ s.held = false ∧
      s.lgv.reserved + cfg0.axes[(1 : Fin 4)].reservation + s.lgv.exempt ≤ s.lgv.allowance ∧
      (s.onLgv fun l => { l with allowance := 99 }).lgv.allowance <
        s.lgv.reserved + cfg0.axes[(1 : Fin 4)].reservation + s.lgv.exempt ∧
      (s.axis 1).guardClear = true ∧ (s.onHld fun h => { h with inEffect := true }).held = true ∧
      (s.axis 1).move ≠ some .home ∧
      ((s.onAxis 1 fun x => { x with move := some .home }).axis 1).move = some .home := by
  decide +kernel

/-! ### Witnesses: narration -/

theorem witness_BurstsEnterTheRing :
    let s := (voice fun x => { x with burst := .discard }).onSmp fun _ =>
      { state := .busy ⟨.voice .a, 12288, 4, 0⟩ false, waiting := [], sent := [], timer := 1 }
    s.smp =
        { state := .busy ⟨.voice .a, 12288, 4, 0⟩ false, waiting := [], sent := [], timer := 1 } ∧
      0xA5#8 ∉ [0#8, 0xFF#8] ∧ 4 ≤ [0xA5#8, 2#8, 3#8, 4#8].length ∧ (s.voice .a).burst = .discard ∧
      (s.voice .a).state = .idle ∧
      (∀ next, let t := s.onVoice .a fun x =>
          { x with burst := .outstanding, burstNext := next, state := .playing
                   current := some (held 1), next := some (held 2) }
        (t.voice .a).burst = .outstanding ∧ (t.voice .a).burstNext = next ∧
          (t.voice .a).state ≠ .waitQuiet ∧ (t.voice .a).state ≠ .claiming ∧
          (t.voice .a).next ≠ none ∧ t.smp = s.smp) ∧
      ringWf [(0, 1#16), (2047, 5#16)] = true ∧ (List.replicate 2048 7#16).length ≤ 2048 := by
  decide +kernel

theorem witness_SamplePeriods :
    24 ≤ (atSample 24).clk.samples ∧ (atSample 23).clk.samples < 24 ∧ (atSample 23).clk.running = true ∧
      ({ VoiceRec.clear with state := .playing, fill := 1 } : VoiceRec).fill = 1 ∧
      ({ VoiceRec.clear with state := .tailing, tailCount := 63 } : VoiceRec).tailCount < 64 ∧
      64 ≤ ({ VoiceRec.clear with state := .tailing, tailCount := 64 } : VoiceRec).tailCount := by
  decide +kernel

/-- A PWM period begins at every fourth sample period (R104). -/
theorem witness_SamplePeriods_pwm :
    ((atSample 3).clk.samples + 1) % 4 = 0 ∧ ((atSample 4).clk.samples + 1) % 4 ≠ 0 ∧
      (atSample 3).clk.running = true ∧ (atSample 3).clk.samples < 24 := by decide +kernel

theorem witness_SamplePeriods_goesOn :
    let s : State := { atSample 23 with nre := { live.nre with
      a := { VoiceRec.clear with
        state := .playing, current := some { held 1 with toPlay := 2 }, fill := 2, burst := .outstanding
        ring := [(0, 0x100#16), (1, 0x200#16)] }
      b := { VoiceRec.clear with state := .tailing, current := some (held 2), tailCount := 62 } } }
    (∀ v, (s.voice v).GoesOn) ∧ (∀ v, (s.voice v).sampleStep.GoesOn) ∧ s.clk.running = true ∧
      s.clk.samples < 24 ∧ s.smp.state ≠ .failed ∧ (s.voice .a).burst ≠ .none ∧ s.cfg = some cfg0 ∧
      ({ s with cfg := none } : State).cfg = none ∧ s.sul.station ≠ .reset ∧ s.sul.station ≠ .loading ∧
      s.sul.station ≠ .configFault ∧ (live.voice .a).current = none :=
  ⟨fun v => by cases v <;> decide +kernel, fun v => by cases v <;> decide +kernel, by decide +kernel⟩

theorem witness_ClipAndTailEnd :
    let s := fun st pause =>
      voice fun x => { x with state := st, current := some (held 2), tailCount := 64, tailPause := pause }
    ∀ st ∈ [VoiceState.playing, .tailing], ∀ pause,
      ((s st pause).voice .a).current = some (held 2) ∧ ((s st pause).voice .a).queue = [] ∧
        ((s st pause).voice .a).next = none ∧ (held 2).toPlay = 0 ∧
        64 ≤ ((s st pause).voice .a).tailCount ∧ ((s st pause).voice .a).tailPause = pause := by
  decide +kernel

theorem witness_ClipAndTailEnd_next :
    let q : Queued := { clip := 0, owner := 2, cut := false }
    let s := (speaking .playing [q]).onVoice .a fun x => { x with next := some (held 2) }
    let t := (speaking .idle [q]).onVoice .b fun x =>
      { x with state := .playing, current := some { held 0 with air := .granted } }
    let talking : State := { speaking .idle [q] with ptb := [{ peer 3 0 with talking := true }] }
    (s.voice .a).next = some (held 2) ∧ ((speaking .playing [q]).voice .a).next = none ∧
      ((speaking .idle [q]).voice .a).queue = q :: [] ∧ (live.clipOf 2).earshot = false ∧
      (live.clipOf 0).earshot = true ∧ (t.voice (otherVoice .a)).talks = true ∧
      ((speaking .idle [q]).voice .b).talks = false ∧ 1 ≤ (live.clipOf 0).length ∧
      (t.voice .a).fill < 512 ∧ (speaking .idle [q]).airQuiet = true ∧ talking.airQuiet = false ∧
      (speaking .idle [q]).bus.queue.length < 8 := by decide +kernel

theorem witness_EarshotGateTimers :
    let s := fun st n =>
      voice fun x => { x with state := st, current := some (held n), retry := some 0, claim := some 0,
                              quiet := 1001 }
    let talking : State := { s .waitQuiet 0 with ptb := [{ peer 3 0 with talking := true }] }
    (∀ st ∈ [VoiceState.waitQuiet, .claiming], ∀ n ∈ [(0 : Fin 256), 1],
      ((s st n).voice .a).current = some (held n) ∧ ((s st n).voice .a).retry = some 0 ∧
        (s st n).held = false ∧ (s st n).bus.queue.length < 8 ∧ (s st n).airQuiet = true ∧
        ((s st n).voice .a).claim = some 0 ∧ ((s st n).voice .a).queue = [] ∧
        ((s st n).clipOf n).quietLimit < ((s st n).voice .a).quiet) ∧
      talking.airQuiet = false ∧ (live.clipOf 0).mustPlay = true ∧ (live.clipOf 1).mustPlay = false ∧
      8 ≤ (queued (List.replicate 8 (entry msgCue 0))).bus.queue.length := by decide +kernel

theorem witness_TalkAtTheGate :
    let s := hearing.onNre fun n =>
      { n with a := { n.a with state := .claiming }, b := { n.b with state := .claiming }, talking := true }
    s.Receiving ∧ (4 : Fin 32) ≠ s.sul.number ∧ s.earshot.getLsbD 4 = false ∧ 2 ≤ (2#8).toNat ∧
      s.earshot.getLsbD 9 = true ∧ s.sul.number < 9 ∧ s.earshot.getLsbD 3 = true ∧
      3 < s.sul.number ∧ s.nre.talking = true ∧ s.nre.a.state = .claiming ∧
      s.nre.b.state = .claiming := by decide +kernel

/-! ### Witnesses: motion -/

theorem witness_MotionPeriods :
    let x : Axis := { Axis.clear with state := .moving, p := 2560000, v := 512, move := some (.move 9999 0) }
    let pins : Pins := { Pins.rest with lmn := 0#4 }
    WithinLimits axisCfg x.p ∧ WithinLimits axisCfg (9999 * 256) ∧ 9999 * 256 < x.p ∧ x.plus = false ∧
      limitActive pins 1 x.plus = true ∧ 0 < x.v ∧
      limitActive { Pins.rest with home := 0#4 } 1 x.plus = false ∧
      homeActive { Pins.rest with home := 0#4 } 1 = true ∧
      { x with p := 9999 * 256 }.p = 9999 * 256 ∧ { x with p := 0, plus := true }.p < 9999 * 256 := by
  decide +kernel

theorem witness_MotionPeriods_homing :
    let x : Axis := { Axis.clear with state := .homing, move := some .home, p := 5119872, plus := true }
    limitActive Pins.rest 1 x.plus = false ∧ homeActive Pins.rest 1 = false ∧
      (x.p + 128).natAbs ≤ axisCfg.travelLimit * 256 ∧
      axisCfg.travelLimit * 256 < ({ x with p := 5120000 }.p + 128).natAbs ∧
      limitActive { Pins.rest with lmp := 0#4 } 1 x.plus = true := by decide +kernel

/-- Each case of the speed law, a reversal, and each end of the stop of a HOME. -/
theorem witness_MotionPeriods_speed :
    let x : Axis := { Axis.clear with state := .moving, v := 512, move := some (.move 9999 0), plus := true }
    let pr : Profile := { vmax := 512, accel := 128 }
    let r := ((9999 : Int) * 256 - x.p).natAbs
    limitActive Pins.rest 1 x.travelPlus = false ∧ r ≠ 0 ∧ decide (x.p < 9999 * 256) = x.plus ∧
      (¬ 2 * pr.accel * r ≤ x.v * x.v) ∧ (¬ pr.vmax < x.v) ∧ (¬ x.v < pr.vmax) ∧
      pr.vmax < { x with v := 513 }.v ∧ { x with v := 511 }.v < pr.vmax ∧
      2 * pr.accel * ((9999 : Int) * 256 - { x with p := 2559000 }.p).natAbs ≤ x.v * x.v ∧
      decide (x.p < 9999 * 256) ≠ { x with plus := false }.plus ∧ 0 < x.v := by decide +kernel

theorem witness_MotionPeriods_home_stop :
    let x : Axis := { Axis.clear with
      state := .stopping, v := 128, move := some .home, stopKind := some .abort, plus := true }
    limitActive Pins.rest 1 x.plus = false ∧ homeActive Pins.rest 1 = false ∧
      homeActive { Pins.rest with home := 0#4 } 1 = true ∧ x.v - 128 = 0 ∧
      0 < { x with v := 129 }.v - 128 ∧ x.stopKind = some .abort ∧
      { x with stopKind := some .holdGuard }.stopKind ≠ some .abort ∧
      (x.p + 0).natAbs ≤ axisCfg.travelLimit * 256 ∧
      axisCfg.travelLimit * 256 < ({ x with p := 5120000 }.p + 1).natAbs := by decide +kernel

theorem witness_MoveAndHomeByState :
    ((axis fun x => { x with state := .idle, p := 256 }).axis 1).p = 1 * 256 ∧
      ((axis fun x => { x with state := .moving }).axis 1).state = .moving ∧
      (live.axis 1).state = .unhomed ∧ (1 : Fin 4) ∉ live.lgv.line ∧
      ((axis fun x => { x with state := .homing }).axis 1).state = .homing ∧
      ((axis fun x => { x with state := .stopping }).axis 1).state = .stopping ∧
      ((axis fun x => { x with state := .fault }).axis 1).state = .fault ∧
      ((axis fun x => { x with state := .idle, guardClear := true }).axis 1).guardClear = true := by
  decide +kernel

theorem witness_MoveAndHomeByState_rows :
    let s := fun st m => axis fun x => { x with state := st, move := m, stopKind := some .holdGuard }
    ((s .idle none).axis 1).state = .idle ∧ 3 * 256 ≠ ((s .idle none).axis 1).p ∧
      ((s .idle none).axis 1).guardClear = false ∧
      ((s .stopping (some (.move 3 0))).axis 1).stopKind = some .holdGuard ∧
      ((s .stopping (some .home)).axis 1).move = some .home ∧
      ((s .waitPower (some (.move 3 0))).axis 1).move = some (.move 3 0) ∧
      ((s .held (some .home)).axis 1).move = some .home := by decide +kernel

theorem witness_AxisTimersRunOut :
    let s := axis fun x => { x with state := .waitPower, move := some .home, waitTimer := 1000,
                                    guardTimer := 500 }
    s.axisCfg 1 = some axisCfg ∧ (s.axis 1).state = .waitPower ∧
      axisCfg.powerWait ≤ (s.axis 1).waitTimer ∧ (s.axis 1).guardClear = false ∧
      s.guardActive axisCfg.guardMask = false ∧ axisCfg.guardDelay ≤ (s.axis 1).guardTimer ∧
      (s.axis 1).state ≠ .held := by decide +kernel

theorem witness_AxisTimersRunOut_guard :
    let s := axis fun x => { x with state := .held, move := some .home, guardClear := true }
    live.inputCfg 7 = some cfg0.inputs[(7 : Fin 8)] ∧ cfg0.inputs[(7 : Fin 8)].kind = .guard ∧
      cfg0.inputs[(7 : Fin 8)].debounce ≤ ((pressed 7 false false).viu.inputs[(7 : Fin 8)]).stability ∧
      axisCfg.guardMask.getLsbD 7 = true ∧ axisCfg.guardMask.getLsbD 6 = false ∧
      (s.axis 1).state = .held ∧ (s.axis 1).move = some .home ∧ s.held = false ∧
      (s.axis 1).guardClear = true ∧ (live.axis 1).state = .unhomed ∧
      ((axis fun x => { x with state := .homing }).axis 1).state = .homing := by decide +kernel

/-- A GUARD input at its change from active, an axis whose delay has run, HELD and not, and one whose delay
has not. -/
theorem witness_AxisTimersRunOut_release :
    let s := fun st n => axis fun x => { x with state := st, move := some .home, guardTimer := n }
    let input := (live.onInput 7 fun x => { x with level := true, stability := 3 }).viu.inputs[(7 : Fin 8)]
    cfg0.inputs[(7 : Fin 8)].debounce ≤ input.stability ∧ input.level = true ∧
      (s .held 500).axisCfg 1 = some axisCfg ∧ axisCfg.guardMask.getLsbD 7 = true ∧
      (s .held 500).guardActive axisCfg.guardMask = false ∧
      axisCfg.guardDelay ≤ ((s .held 500).axis 1).guardTimer ∧
      ((s .held 499).axis 1).guardTimer < axisCfg.guardDelay ∧
      ((s .held 500).axis 1).guardClear = false ∧ (s .held 500).held = false ∧
      ((s .held 500).axis 1).state = .held ∧ ((s .held 500).axis 1).move = some .home ∧
      ((s .idle 500).axis 1).state ≠ .held ∧ axisCfg.guardMask.getLsbD 6 = false := by decide +kernel

/-! ### Witnesses: hold and faults -/

theorem witness_LocalHoldAndReleaseTimer :
    live.localSources = live.hld.localHold ∧
      (live.onHld fun h => { h with orderHold := true }).localSources ≠ live.hld.localHold := by
  decide +kernel

theorem witness_HoldBeginsAndEnds :
    let s := (axis fun x => { x with state := .homing, move := some .home }).onHld fun h =>
      { h with lineLow := true, stuck := 750 }
    let t := live.onHld fun h => { h with inEffect := true, release := some 500, releaseDue := true }
    s.cfg.isSome = true ∧ s.hld.lineLow = true ∧ s.hld.inEffect = false ∧
      ((s.onChannel 0 fun x => { x with course := .cycle 1 }).channel 0).course.table.isSome = true ∧
      (s.axis 1).state = .homing ∧
      ((s.onVoice .a fun x => { x with state := .playing }).voice .a).state = .playing ∧
      s.hld.stuckReported = false ∧ 0 < s.hld.stuck ∧ 3 * s.beaconPeriod ≤ s.hld.stuck ∧
      t.cfg = some cfg0 ∧ t.hld.inEffect = true ∧ t.hld.releaseDue = true ∧
      (t.onHld fun h => { h with releaseDue := false }).hld.releaseDue = false ∧
      live.hld.inEffect = false := by decide +kernel

/-- A release timer past the delay that no sample has found there does not end hold (R161). -/
theorem test_release_reached_at_a_sample :
    let t := live.onHld fun h => { h with inEffect := true, release := some 499 }
    let u := t.onHld fun h => { h with release := some 501 }
    exec .holdEnd u = .next u ∧ (t.holdBeat false).hld.releaseDue = true ∧
      (t.holdBeat false).hld.release = some 500 ∧
      ((t.onHld fun h => { h with release := some 498 }).holdBeat false).hld.releaseDue = false := by
  refine ⟨rfl, ?_⟩
  decide +kernel

theorem witness_HoldBeginsAndEnds_resumes :
    let s := axis fun x => { x with state := .held, move := some .home, guardClear := true }
    (s.axis 1).state = .held ∧ (s.axis 1).guardClear = true ∧ (s.axis 1).move = some .home ∧
      ((speaking .paused []).voice .a).state = .paused ∧
      ((speaking .tailing []).onVoice .a fun x => { x with tailPause := true }).nre.a.tailPause = true ∧
      leftToFetch ((speaking .priming []).voice .a).current = 0 ∧
      ((speaking .waitQuiet []).voice .a).retry = none ∧ (speaking .waitQuiet []).airQuiet = true ∧
      (speaking .waitQuiet []).bus.queue.length < 7 ∧
      ((speaking .waitQuiet []).nre.a.talks || (speaking .waitQuiet []).nre.b.talks) = false := by
  decide +kernel

/-- Sixteen entries of the fault list. -/
def fullList : FaultList :=
  { entries := (List.range 16).map fun n => ⟨⟨.queueDrop, .outbound, n⟩, 0#32, 0#32, 255⟩, overflow := false }

theorem witness_FaultReports :
    (∃ e ∈ fullList.entries, e.key = ⟨.queueDrop, .outbound, 15⟩) ∧
      (∀ e ∈ fullList.entries, e.key ≠ ⟨.queueDrop, .outbound, 16⟩) ∧ 16 ≤ fullList.entries.length ∧
      fullList.entries.dropLast.length < 16 ∧ fullList.Sound := by decide +kernel

/-! ### Witnesses: show memory, start-up, restart -/

theorem witness_PortArbiterAndTimeouts :
    let a : Transfer := ⟨.voice .a, 0, 2, 4⟩
    let b : Transfer := ⟨.scene 1 0 .initial, 0, 12, 3⟩
    let busy := fun r => live.onSmp fun _ => { state := .busy a r, waiting := [b], sent := [], timer := 2 }
    live.choice [b, a, ⟨.voice .b, 0, 2, 1⟩] = some a ∧
      (∀ r, (busy r).smp = { state := .busy a r, waiting := [b], sent := [], timer := 2 }) ∧
      live.smp.timer ≠ 2 ∧
      live.smp.state = .ready ∧ (live.onSmp fun p => { p with waiting := [b, a] }).choice [b, a] = some a := by
  decide +kernel

theorem witness_StartUp :
    let head : List Byte :=
      [0x44#8, 0x5A#8, 0x43#8, 0x49#8, 0#8, 1#8, 0#8, 0#8, 2#8, 162#8, 9#8, 9#8, 0#8, 0#8, 0#8, 0#8]
    let s : State :=
      { live with
        smp := { state := .busy ⟨.loader, 0, 16, 0⟩ false, waiting := [], sent := [], timer := 1 }
        sul := { live.sul with station := .loading, phase := .header } }
    let j := live.onSul fun u => { u with station := .joining, joinTimer := 1000 }
    s.smp = { state := .busy ⟨.loader, 0, 16, 0⟩ false, waiting := [], sent := [], timer := 1 } ∧
      head.length = 16 ∧
      0xA5#8 ∉ [0xFF#8] ∧ s.sul.phase = .header ∧ head.take 4 = [0x44#8, 0x5A#8, 0x43#8, 0x49#8] ∧
      field head 4 2 = 1 ∧
      field head 6 4 = 674 ∧ (0#8 :: head.drop 1).take 4 ≠ [0x44#8, 0x5A#8, 0x43#8, 0x49#8] ∧
      field (head.set 5 2#8) 4 2 ≠ 1 ∧ field (head.set 9 161#8) 6 4 ≠ 674 ∧
      j.sul.station = .joining ∧ j.staleLimit ≤ j.sul.joinTimer ∧ j.cfg = some cfg0 ∧
      (∀ a : Fin 4, cfg0.axes[a].autoHome = false) := by decide +kernel

theorem witness_StartUp_auto_home :
    let c : Config := { cfg0 with axes := cfg0.axes.set 1 { axisCfg with autoHome := true } }
    let s : State := { live with cfg := some c }
    let home := fun a : Fin 4 => decide (a = 1)
    s.cfg = some c ∧
      (∀ a : Fin 4, home a = true ↔
        c.axes[a].autoHome = true ∧ ((s.axis a).state = .unhomed ∨ (s.axis a).state = .fault)) ∧
      (∀ a : Fin 4, home a = true → a ∉ s.lgv.line) := by decide +kernel

/-- A good scene entry: present, priority 1, opening lockout 0, one cue. -/
def sceneBytes : List Byte := [1#8, 0#8, 0#8, 0#8, 1#8, 0#8, 0#8, 0#8, 0#8, 0#8, 1#8]

/-- The bytes of a good body that are not 0, by image offset: the least that R169's checks ask for. -/
def goodBytes : List (Nat × Nat) :=
  [(19, 250), (20, 3), (21, 232), (22, 20), (29, 250), (34, 40), (56, 8)] ++
    (List.range 16).map (fun k => (115 + 12 * k, 1)) ++
    ((List.range 4).map fun k => [(300 + 37 * k, 3), (301 + 37 * k, 232), (302 + 37 * k, 2),
      (308 + 37 * k, 1)]).flatten ++
    ((List.range 4).map fun k => [13, 15, 17, 19, 21, 23, 25, 27, 29, 36].map fun d =>
      (446 + 38 * k + d, 1)).flatten ++
    (List.range 8).map fun k => (598 + 8 * k, 4)

/-- A body of 658 bytes. -/
def bodyOf (bytes : List (Nat × Nat)) : List Byte :=
  (List.range 658).map fun i => BitVec.ofNat 8 ((bytes.lookup (i + 16)).getD 0)

/-- The loader reads `count` bytes in a phase. -/
def loading (phase : LoadPhase) (count : Nat) : State :=
  { live with
    smp := { state := .busy ⟨.loader, 16, count, 0⟩ false, waiting := [], sent := [], timer := 1 }
    sul := { live.sul with station := .loading, phase := phase } }

theorem test_bodies_checked :
    bodyOk (bodyOf goodBytes) = true ∧ bodyOk (bodyOf ((56, 17) :: goodBytes)) = false := by
  decide +kernel

theorem witness_ImageAccepted :
    (∀ phase count, (loading phase count).smp =
        { state := .busy ⟨.loader, 16, count, 0⟩ false, waiting := [], sent := [], timer := 1 } ∧
      (loading phase count).sul.phase = phase) ∧
      0xA5#8 ∉ [0xFF#8] ∧ [1#8, 2#8].length = 2 ∧ crc16 [1#8, 2#8] ≠ 7#16 ∧
      (bodyOf goodBytes).length = 658 ∧ (bodyOf ((56, 17) :: goodBytes)).length = 658 ∧
      (readBody 7#16 (bodyOf goodBytes)).clipCount = 0 ∧
      (readBody 7#16 (bodyOf goodBytes)).sceneCount = 0 ∧
      (readBody 7#16 (bodyOf ((45, 1) :: goodBytes))).clipCount ≠ 0 ∧
      (readBody 7#16 (bodyOf ((105, 1) :: goodBytes))).sceneCount ≠ 0 ∧
      bodyOk (bodyOf ((45, 1) :: (105, 1) :: goodBytes)) = true := by
  refine ⟨fun _ _ => ⟨rfl, rfl⟩, ?_⟩
  simp only [bodyOf, List.length_map, List.length_range, true_and]
  decide +kernel

theorem witness_ImageAccepted_directories :
    let one := { cfg0 with clipCount := 1, sceneCount := 1 }
    (loading (.clips one) 11).sul.phase = .clips one ∧
      (loading (.scenes one) 11).sul.phase = .scenes one ∧ entriesOf 1 sceneBytes = [sceneBytes] ∧
      field sceneBytes 5 1 < 64 ∧ field sceneBytes 0 1 % 2 = 1 ∧
      field sceneBytes 4 1 ≤ 3 ∧ 1 ≤ field sceneBytes 10 1 ∧ field sceneBytes 10 1 ≤ 64 ∧
      64 ≤ field (sceneBytes.set 5 64#8) 5 1 ∧ 3 < field (sceneBytes.set 4 4#8) 4 1 ∧
      64 < field (sceneBytes.set 10 65#8) 10 1 ∧
      (readClip (List.replicate 11 0#8)).gain ≤ 256 ∧ (readClip (List.replicate 11 0#8)).quietLimit ≤ 60000 ∧
      60000 < (readClip (List.replicate 11 0xFF#8)).quietLimit := by decide +kernel

theorem witness_ImageAccepted_layout :
    bodyOk (bodyOf goodBytes) = true ∧
      { cfg0 with clipCount := 1, sceneCount := 0 }.sceneCount = 0 ∧ field sceneBytes 4 1 ≤ 3 := by
  decide +kernel

/-- Settings written at the offsets of R175: fallback rate, clip count, channel 15's load, the last point of
table 3, the home offset of axis 3, the kind of input 7, the linger time of group 3. -/
theorem test_image_layout :
    let c := readBody 7#16 (bodyOf ([(17, 2), (45, 3), (286, 7), (287, 208), (413, 2), (420, 3), (421, 5),
      (567, 0xFF), (568, 0xFF), (569, 0xFE), (654, 2), (671, 1)] ++ goodBytes))
    c.fallback = .r1000 ∧ c.clipCount = 3 ∧ c.channels[(15 : Fin 16)].load = 2000 ∧
      c.tables[(3 : Fin 4)].points = [⟨0, 0⟩, ⟨1, 773⟩] ∧ c.axes[(3 : Fin 4)].homeOffset = -2 ∧
      c.inputs[(7 : Fin 8)].kind = .guard ∧ c.groups[(3 : Fin 4)].linger = 256 := by decide +kernel

theorem witness_ImageAccepted_settings :
    let x := fun p => axis fun y => { y with state := .idle, homed := true, p := p }
    live.cfg = some cfg0 ∧ axisCfg.softMax * 256 < ((x 2560001).axis 1).p ∧
      ((x 2560000).axis 1).p ≤ axisCfg.softMax * 256 ∧ ((x 2560001).axis 1).homed = true ∧
      cfg0.inputs[(0 : Fin 8)].kind ≠ cfg0.inputs[(5 : Fin 8)].kind ∧ live.sul.restarting = false ∧
      (live.onSul fun u => { u with restarting := true }).sul.restarting = true ∧
      cfg0.rate = some .r500 ∧ { cfg0 with rate := none }.rate = none ∧
      { axisCfg with guardMask := 0#8 }.guardMask = 0#8 ∧ live.guardActive axisCfg.guardMask = false ∧
      axisCfg.guardDelay ≤ ((axis fun y => { y with guardTimer := 500 }).axis 1).guardTimer ∧
      ({ live with cfg := none } : State).cfg = none := by decide +kernel

theorem witness_ConfigFaultIsDarkAndStill :
    let s : State := { (atSample 24).enterFault with pending := [.beat Pins.rest true], agenda := [] }
    (∀ i : Fin 4, (live.slot i).state = .free ∧ (live.slot i).successor = none) ∧
      s.sul.station = .configFault ∧ s.DarkAndStill ∧ s.agenda = [] ∧
      (match step s with | .next t => decide (t.sul.station = .configFault) | _ => false) = true := by
  decide +kernel

theorem witness_RestartBeginsAndReloads_waits :
    let s := (live.onSul fun u => { u with phase := .awaitSlots }).onSlot 2 fun _ => run .stopping
    let done := entry (.answer 4 8#8 0#8 0#8 [] true) 0
    let b := (live.onSul fun u => { u with phase := .awaitSlots }).onSmp fun p =>
      { p with state := .busy ⟨.voice .a, 12288, 4, 0⟩ false }
    (s.slot 2).state ≠ .free ∧ s.sul.phase = .awaitSlots ∧ live.sul.phase ≠ .awaitSlots ∧
      done ∈ (queued [done]).bus.queue ∧ done.msg = .answer 4 8#8 0#8 0#8 [] true ∧
      live.sce.latch = none ∧ b.smp.state = .busy ⟨.voice .a, 12288, 4, 0⟩ false ∧
      (∀ i, (b.slot i).state = .free) := by decide +kernel

theorem witness_RestartBeginsAndReloads :
    let l : Latch := ⟨.restart, [], 4⟩
    let s := (queued [entry msgAnswer 0]).onSce fun e => { e with latch := some l }
    let r := fun p => (live.onSul fun u => { u with phase := .awaitSlots }).onSmp fun _ =>
      { state := p, waiting := [], sent := [], timer := 0 }
    s.sce.latch = some l ∧ l.kind = .restart ∧
      s.bus.queue.all (fun e => match e.msg with | .answer _ _ _ _ _ b => !b | _ => true) = true ∧
      s.nre.a.queue = [] ∧ s.nre.b.queue = [] ∧
      (∀ p ∈ [PortState.ready, .failed], (r p).sul.phase = .awaitSlots ∧
        (∀ i, ((r p).slot i).state = .free) ∧ (r p).smp.waiting = [] ∧ (r p).smp.state = p) := by
  decide +kernel

/-! ### Witnesses: what every step keeps -/

theorem witness_StepsKeepSoundState :
    step live = .next live ∧ live.clk.samples ≤ 24 ∧ live.RingsWf ∧ live.flt.Sound ∧
      live.PeersSound := by
  refine ⟨rfl, ?_⟩
  decide +kernel

theorem witness_StepsKeepTransmitterAndPort :
    let s : State := { live with pending := [.jam] }
    (∃ t, step s = .next t) ∧ s.bus.tx = s.restingTx ∧ s.smp.waiting = [] :=
  ⟨⟨_, rfl⟩, by decide +kernel⟩
end Sys2Proof.Tests
end

section
/-! PROOFS. Show time: the state after reset, the test of show times, the resets and the release, and what a
beat leaves of the Show Clock. -/

namespace Sys2Proof.Machine

/-! ### The state after reset -/

/-- Settles O60: each collection is empty after reset, the divider is at 0 and the port has no request. -/
theorem resetIsSound : Obligations.ResetIsSound := by
  unfold Obligations.ResetIsSound
  have hPeers : State.reset.PeersSound := ⟨List.Pairwise.nil, nofun, fun _ => rfl⟩
  have hFaults : State.reset.flt.Sound := ⟨Nat.zero_le _, List.Pairwise.nil, nofun⟩
  exact ⟨Nat.zero_le _, ⟨ringWf_nil, ringWf_nil⟩, hFaults, hPeers, rfl, fun _ => rfl⟩

/-! ### The one test of show times (R4) -/

theorem reached_iff (now t : ShowTime) : reached now t = true ↔ (now - t).toNat < 2147483648 :=
  decide_eq_true_iff

theorem not_reached_iff (now t : ShowTime) : reached now t = false ↔ 2147483648 ≤ (now - t).toNat := by
  rw [← Bool.not_eq_true, reached_iff, not_lt]

/-- A show time that is not reached is ahead by what its distance lacks of the whole range. -/
theorem ahead_of_not_reached {now t : ShowTime} (h : reached now t = false) :
    ahead now t = 4294967296 - (now - t).toNat := by
  have := (not_reached_iff now t).1 h
  unfold ahead
  bv_omega

/-- The distance from a show time after an advance of `n`. -/
theorem distance_advance (now t : ShowTime) (n : Nat) :
    (now + BitVec.ofNat 32 n - t).toNat = ((now - t).toNat + n) % 4294967296 := by
  bv_omega

/-- An advance of less than half the range reaches what was ahead by no more. -/
theorem reached_advance_of_ahead {now t : ShowTime} {n : Nat} (hn : n < 2147483648)
    (h : reached now t = false) : reached (now + BitVec.ofNat 32 n) t = true ↔ ahead now t ≤ n := by
  have hlow := (not_reached_iff now t).1 h
  have hhigh := (now - t).isLt
  rw [reached_iff, distance_advance now t n, ahead_of_not_reached h]
  omega

/-- A reached time stays reached until show time has gone half the range past it. -/
theorem reached_advance_of_reached {now t : ShowTime} {n : Nat} (hn : n < 2147483648)
    (h : reached now t = true) :
    reached (now + BitVec.ofNat 32 n) t = true ↔ (now - t).toNat + n < 2147483648 := by
  have hlow := (reached_iff now t).1 h
  rw [reached_iff, distance_advance now t n]
  omega

/-- A stamp half the range from its capture counts as behind. -/
theorem offsetOf_half_neg (t : ShowTime) : offsetOf (t + 0x80000000#32) t < 0 := by
  have h : t + 0x80000000#32 - t = 0x80000000#32 := by bv_omega
  rw [offsetOf, h]
  decide

/-- Settles O4, from the distance of show time after an advance. -/
theorem showTimeReached : Obligations.ShowTimeReached := by
  unfold Obligations.ShowTimeReached
  intro now t
  refine ⟨reached_iff now t, fun h => ⟨rfl, ?_⟩, fun n hn => reached_advance_of_ahead hn,
    fun n hn => reached_advance_of_reached hn, offsetOf_half_neg t⟩
  have hlow := (not_reached_iff now t).1 h
  have hhigh := (now - t).isLt
  rw [ahead_of_not_reached h]
  omega

/-! ### Resets and the release (R5, R170) -/

/-- A request made of a READY port with no other waiting is taken at once (R166, R167, R175). -/
theorem State.askPort_ready {s : State} (who : Requester) (address count : Nat)
    (hr : s.smp.state = .ready) (hw : s.smp.waiting = []) :
    s.askPort who address count =
      { s with
        smp :=
          { state :=
              .busy { who := who, address := address, count := count, instant := s.instant } false
            waiting := [], sent := readCommand address, timer := 0 } } := by
  simp [State.askPort, State.arbitrate, State.choice, hr, hw, State.onSmp]

/-- A request made of a BUSY port waits for the arbiter (R166). -/
theorem State.askPort_busy {s : State} (who : Requester) (address count : Nat) {x : Transfer}
    {retried : Bool} (hb : s.smp.state = .busy x retried) :
    s.askPort who address count =
      { s with
        smp :=
          { s.smp with
            waiting := s.smp.waiting ++
              [{ who := who, address := address, count := count, instant := s.instant }] } } := by
  simp [State.askPort, State.arbitrate, hb, State.onSmp]

/-- The arbiter leaves a port that is not READY as it stands (R167). -/
theorem State.arbitrate_of_not_ready {s : State} (h : s.smp.state ≠ .ready) : s.arbitrate = s := by
  unfold State.arbitrate
  split
  · exact absurd ‹_› h
  · rfl

/-- With no signal waiting and the port not READY the end of an instant brings up the transmitter alone. -/
theorem State.finish_of_not_ready {u : State} (ha : u.agenda = []) (hp : u.smp.state ≠ .ready) :
    u.finish = { u with bus := { u.bus with tx := u.finish.bus.tx } } := by
  unfold State.finish
  rw [State.settle_nil _ ha, State.arbitrate_of_not_ready hp]
  exact State.syncTx_eq u

/-- The release of reset leaves the header's transfer in progress and the divider running (R170). -/
theorem State.releaseReset_ready {s : State} (straps : BitVec 5) (hr : s.smp.state = .ready)
    (hw : s.smp.waiting = []) :
    s.releaseReset straps =
      { s with
        sul := { s.sul with
          station := .loading, number := ⟨straps.toNat, straps.isLt⟩, phase := .header }
        clk := { s.clk with running := true }
        smp :=
          { state := .busy { who := .loader, address := 0, count := 16, instant := s.instant } false
            waiting := [], sent := readCommand 0, timer := 0 } } := by
  exact State.askPort_ready _ _ _ (by exact hr) (by exact hw)

theorem readCommand_zero : readCommand 0 = [0x03#8, 0x00#8, 0x00#8, 0x00#8] := by decide

theorem exec_resetRelease (straps : BitVec 5) (s : State) :
    exec (.resetRelease straps) s =
      act (fun s => s.sul.station = .reset) (·.releaseReset straps) s := rfl

/-- Settles O3: the resets write `State.reset`, and the release asks a READY port for the header. -/
theorem resetsAndRelease : Obligations.ResetsAndRelease := by
  unfold Obligations.ResetsAndRelease
  refine ⟨fun s => ⟨rfl, rfl⟩, by simp [State.reset, Clock.clear, Bus.clear, Sce.clear, Hld.clear], ?_⟩
  intro s straps hs hr hw
  have hmay : (decide (s.sul.station = .reset)) = true := decide_eq_true hs
  rw [exec_resetRelease, act_may hmay]
  refine ⟨_, rfl, ?_⟩
  rw [State.releaseReset_ready (s := s.tick) straps hr hw, readCommand_zero,
    State.finish_of_not_ready (by rfl) (by simp)]
  exact ⟨rfl, rfl, rfl, rfl⟩

/-! ### The clock's work at a beat (R10) -/

theorem Clock.beat_no_debt {c : Clock} (h : c.debt = 0) :
    c.beat = { c with showTime := c.showTime + 1#32 } := by
  simp [Clock.beat, h]

theorem Clock.beat_spaces {c : Clock} (hd : 0 < c.debt) (hs : c.spacing + 1 < 8) :
    c.beat = { c with showTime := c.showTime + 1#32, spacing := c.spacing + 1 } := by
  simp [Clock.beat, Clock.slewDue, Nat.ne_of_gt hd, show ¬ 8 ≤ c.spacing + 1 by omega]

theorem Clock.beat_slews {c : Clock} (hd : 0 < c.debt) (hs : 8 ≤ c.spacing + 1) :
    c.beat = { c with showTime := c.showTime + 2#32, debt := c.debt - 1, spacing := 0 } := by
  simp [Clock.beat, Clock.slewDue, Nat.ne_of_gt hd, hd, hs]

/-- Below the slew beat, with a debt, each beat adds 1 to show time and to the spacing count. -/
theorem Clock.beat_iterate_spaces {c : Clock} (hd : 0 < c.debt) :
    ∀ k : Nat, c.spacing + k < 8 → Clock.beat^[k] c =
      { c with showTime := c.showTime + BitVec.ofNat 32 k, spacing := c.spacing + k }
  | 0, _ => by simp
  | k + 1, hk => by
    rw [Function.iterate_succ_apply', Clock.beat_iterate_spaces hd k (by omega)]
    refine (Clock.beat_spaces (by exact hd) (by exact hk)).trans ?_
    simp only [BitVec.ofNat_add, BitVec.add_assoc, Nat.add_assoc]

/-- A debt whose spacing count is 0 is repaid by 1 ms in 8 beats, in which show time advances by 9. -/
theorem Clock.beat_iterate_eight {c : Clock} (hs : c.spacing = 0) (hd : 0 < c.debt) :
    Clock.beat^[8] c = { c with showTime := c.showTime + 9#32, debt := c.debt - 1 } := by
  rw [Function.iterate_succ_apply', Clock.beat_iterate_spaces hd 7 (by omega)]
  refine (Clock.beat_slews (by exact hd) (by simp)).trans ?_
  simp only [Clock.mk.injEq, true_and, and_true, hs]
  bv_omega

/-- Eight beats for each millisecond of the debt that is repaid. -/
theorem Clock.beat_iterate_repays : ∀ (n : Nat) (c : Clock), c.spacing = 0 → n ≤ c.debt →
    Clock.beat^[8 * n] c =
      { c with showTime := c.showTime + BitVec.ofNat 32 (9 * n), debt := c.debt - n }
  | 0, c, _, _ => by simp
  | n + 1, c, hs, hn => by
    rw [Nat.mul_succ, Function.iterate_add_apply, Clock.beat_iterate_eight hs (by omega)]
    refine (Clock.beat_iterate_repays n _ (by exact hs) (Nat.le_sub_one_of_lt hn)).trans ?_
    simp only [Clock.mk.injEq, true_and, and_true]
    exact ⟨by bv_omega, by omega⟩

/-! ### What a beat leaves of the clock, the pins and the counts -/

/-- The state in which the clock has done its work at a beat and the peers' ages have risen. -/
def State.beatClock (s : State) (pins : Pins) : State :=
  { (s.beatStart pins).onClk Clock.beat with ptb := s.ptb.map (Peer.beat s.staleLimit) }

/-- A beat is what was left due, the clock's own work, and what keeps all that `Keeps` names. -/
theorem State.beat_parts (s : State) (pins : Pins) (leave : Bool) :
    ∃ u, Keeps s u ∧ Keeps (u.beatClock pins) (s.beat pins leave) := by
  refine ⟨s.takeDue, State.takeDue_keeps (Keeps.refl s), ?_⟩
  have hwork := State.beatWork_keeps s.takeDue pins
  unfold State.beat
  dsimp only
  split
  · exact hwork
  · exact State.takeDue_keeps hwork

theorem State.beat_finish_clk (s : State) (pins : Pins) (leave : Bool) :
    (s.tick.beat pins leave).finish.clk = Clock.beat { s.clk with samples := 0 } := by
  obtain ⟨u, hu, hb⟩ := s.tick.beat_parts pins leave
  rw [(State.finish_keeps hb).clk, ← State.tick_clk s, ← hu.clk]
  rfl

theorem State.beat_finish_beats (s : State) (pins : Pins) (leave : Bool) :
    (s.tick.beat pins leave).finish.beats = s.beats + 1 := by
  obtain ⟨u, hu, hb⟩ := s.tick.beat_parts pins leave
  rw [(State.finish_keeps hb).beats, ← State.tick_beats s, ← hu.beats]
  rfl

theorem State.beat_finish_pins (s : State) (pins : Pins) (leave : Bool) :
    (s.tick.beat pins leave).finish.pins = pins := by
  obtain ⟨u, hu, hb⟩ := s.tick.beat_parts pins leave
  rw [(State.finish_keeps hb).pins]
  rfl

theorem Clock.beatDue_eq_false {c : Clock} (h : c.samples < 24 ∨ c.running = false) :
    c.beatDue = false := by
  rw [← Bool.not_eq_true, Clock.beatDue_iff]
  rcases h with h | h
  · omega
  · simp [h]

theorem exec_beat (pins : Pins) (leave : Bool) (s : State) :
    exec (.beat pins leave) s = act (·.clk.beatDue) (·.beat pins leave) s := rfl

theorem exec_slewBeat (pins : Pins) (leave : Bool) (s : State) :
    exec (.slewBeat pins leave) s =
      act (fun s => s.clk.beatDue && s.clk.slewDue) (·.beat pins leave) s := rfl

/-- Before its sample periods have ended neither a beat nor a slew beat comes (R1). -/
theorem exec_beat_not_due (pins : Pins) (leave : Bool) {s : State}
    (h : s.clk.samples < 24 ∨ s.clk.running = false) :
    exec (.beat pins leave) s = .next s ∧ exec (.slewBeat pins leave) s = .next s := by
  have hdue := Clock.beatDue_eq_false h
  exact ⟨(exec_beat pins leave s).trans (act_may_not hdue),
    (exec_slewBeat pins leave s).trans (act_may_not (by rw [hdue]; rfl))⟩

theorem exec_beat_due (pins : Pins) (leave : Bool) {s : State} (hr : s.clk.running = true)
    (hs : 24 ≤ s.clk.samples) :
    exec (.beat pins leave) s = .next (s.tick.beat pins leave).finish :=
  (exec_beat pins leave s).trans (act_may ((Clock.beatDue_iff _).2 ⟨hr, hs⟩))

/-- Where the beat at hand is a slew beat, SLEW_BEAT is that beat (R10). -/
theorem exec_slewBeat_due (pins : Pins) (leave : Bool) {s : State} (hr : s.clk.running = true)
    (hs : 24 ≤ s.clk.samples) (hd : 0 < s.clk.debt) (h8 : 8 ≤ s.clk.spacing + 1) :
    exec (.slewBeat pins leave) s = exec (.beat pins leave) s := by
  have hdue := (Clock.beatDue_iff s.clk).2 ⟨hr, hs⟩
  rw [exec_beat_due pins leave hr hs, exec_slewBeat]
  exact act_may (by simp [hdue, Clock.slewDue, hd, h8])

/-- Settles O5, from the clock's work at a beat and from what the rest of a beat keeps. -/
theorem beatMovesShowClock : Obligations.BeatMovesShowClock := by
  unfold Obligations.BeatMovesShowClock
  refine ⟨fun pins leave s h => exec_beat_not_due pins leave h, fun pins leave s hr hs => ⟨?_, ?_⟩,
    fun c n hs hn => Clock.beat_iterate_repays n c hs hn⟩
  · refine ⟨_, exec_beat_due pins leave hr hs, State.beat_finish_beats s pins leave,
      State.beat_finish_pins s pins leave, ?_⟩
    rw [State.beat_finish_clk]
    exact ⟨fun h => Clock.beat_no_debt h, fun hd h => Clock.beat_spaces hd h,
      fun hd h => Clock.beat_slews hd h⟩
  · exact fun hd h8 => exec_slewBeat_due pins leave hr hs hd h8

end Sys2Proof.Machine
end

section
/-! PROOFS. What every step keeps: one relation between the states before and after a command, kept by every
command of the table. -/

namespace Sys2Proof.Machine

/-- What no step takes from sound to unsound: the divider's bound, the rings, the fault list, the Peer
Table. -/
structure StaysSound (s t : State) : Prop where
  samples : s.clk.samples ≤ 24 → t.clk.samples ≤ 24
  rings : s.RingsWf → t.RingsWf
  flt : s.flt.Sound → t.flt.Sound
  peers : s.PeersSound → t.PeersSound

theorem StaysSound.refl (s : State) : StaysSound s s := ⟨id, id, id, id⟩

theorem StaysSound.trans {s t u : State} (h : StaysSound s t) (g : StaysSound t u) : StaysSound s u :=
  ⟨g.samples ∘ h.samples, g.rings ∘ h.rings, g.flt ∘ h.flt, g.peers ∘ h.peers⟩

theorem StaysSound.of_holds {s t : State} (h : Holds s t)
    (hs : s.clk.samples ≤ 24 → t.clk.samples ≤ 24) : StaysSound s t :=
  ⟨hs, h.rings, h.flt, h.peers⟩

theorem StaysSound.of_keeps {s t : State} (h : Keeps s t) : StaysSound s t :=
  .of_holds h.toHolds fun hs => by rw [h.clk]; exact hs

theorem StaysSound.tick (s : State) : StaysSound s s.tick := ⟨id, id, id, id⟩

/-- The end of an instant stays sound. -/
theorem StaysSound.finish {s t : State} (h : StaysSound s t) : StaysSound s t.finish :=
  h.trans (.of_keeps (State.finish_keeps (Keeps.refl t)))

/-- A command that has its effect on `s` as one instant stays sound if the effect does. -/
theorem StaysSound.of_act {may : State → Bool} {effect : State → State} {s t : State}
    (h : act may effect s = .next t) (he : may s = true → StaysSound s.tick (effect s.tick)) :
    StaysSound s t := by
  cases hmay : may s with
  | false =>
    rw [act_may_not hmay] at h
    obtain rfl := Host.Outcome.next.inj h
    exact .refl s
  | true =>
    rw [act_may hmay] at h
    obtain rfl := Host.Outcome.next.inj h
    exact ((StaysSound.tick s).trans (he hmay)).finish

/-- A command whose effect keeps stays sound. -/
theorem StaysSound.of_act_keeps {may : State → Bool} {effect : State → State} {s t : State}
    (h : act may effect s = .next t) (he : ∀ u, Keeps u (effect u)) : StaysSound s t :=
  .of_act h fun _ => .of_keeps (he _)

/-! ### The commands that write the Show Clock or the Peer Table -/

/-- Whatever was before, the reset state is sound. -/
theorem staysSound_reset (s : State) (l : List Instr) : StaysSound s { State.reset with pending := l } :=
  have ⟨hs, hr, hf, hp, _⟩ := resetIsSound
  ⟨fun _ => hs, fun _ => hr, fun _ => hf, fun _ => hp⟩

/-- The release writes the station number in RESET, where the Peer Table is empty (R47, R170). -/
theorem staysSound_releaseReset {s : State} (straps : BitVec 5) (hr : s.sul.station = .reset) :
    StaysSound s (s.releaseReset straps) := by
  unfold State.releaseReset
  refine StaysSound.trans ?_ (.of_keeps (State.askHeader_keeps (Keeps.refl _)))
  refine ⟨id, id, id, ?_⟩
  rintro ⟨hasc, -, hempty⟩
  have hnil : s.ptb = [] := hempty hr
  exact ⟨hasc, fun e he => by simp [hnil] at he, fun _ => hnil⟩

theorem Clock.beat_samples (c : Clock) : c.beat.samples = c.samples := by
  unfold Clock.beat
  split
  · rfl
  · split <;> rfl

/-- The clock's work at a beat begins the divider anew and ages the peers (R1, R39). -/
theorem staysSound_beatClock (s : State) (pins : Pins) : StaysSound s (s.beatClock pins) := by
  have hstart : StaysSound s ((s.beatStart pins).onClk Clock.beat) := by
    refine ⟨fun _ => ?_, id, id, id⟩
    show (Clock.beat _).samples ≤ 24
    rw [Clock.beat_samples]
    exact Nat.zero_le _
  refine hstart.trans (.of_keeps (State.ptb_keeps _ ?_ (Keeps.refl _)))
  rw [List.map_map]
  exact List.Sublist.refl _

theorem staysSound_beat (s : State) (pins : Pins) (leave : Bool) : StaysSound s (s.beat pins leave) := by
  obtain ⟨u, hu, hb⟩ := s.beat_parts pins leave
  exact (StaysSound.of_keeps hu).trans ((staysSound_beatClock u pins).trans (.of_keeps hb))

/-- A sample period is what was left due, the divider's own step, and what keeps all that `Keeps` names. -/
theorem State.samplePeriod_parts (s : State) (leave : Bool) :
    ∃ u, Keeps s u ∧ Keeps u.sampleStart (s.samplePeriod leave) := by
  refine ⟨s.takeEnds, State.takeEnds_keeps (Keeps.refl s), ?_⟩
  have hwork := State.settle_keeps settleFuel
    (State.narrationSample_keeps (Keeps.refl s.takeEnds.sampleStart))
  unfold State.samplePeriod
  dsimp only
  split
  · exact hwork
  · exact State.takeEnds_keeps hwork

theorem State.sampleStart_clk (s : State) :
    s.sampleStart.clk = { s.clk with samples := s.clk.samples + 1 } := by
  unfold State.sampleStart
  dsimp only
  split <;> rfl

theorem State.sampleStart_holds (s : State) : Holds s s.sampleStart := by
  unfold State.sampleStart
  dsimp only
  split
  · exact (Holds.of_clk s _).trans (State.onLte_keeps _ (Keeps.refl _)).toHolds
  · exact Holds.of_clk s _

theorem staysSound_samplePeriod {s : State} (leave : Bool) (hs : s.clk.samples < 24) :
    StaysSound s (s.samplePeriod leave) := by
  obtain ⟨u, hu, hb⟩ := s.samplePeriod_parts leave
  refine (StaysSound.of_keeps hu).trans (StaysSound.trans (.of_holds u.sampleStart_holds fun _ => ?_)
    (.of_keeps hb))
  rw [State.sampleStart_clk, hu.clk]
  exact hs

/-- What a frame can leave: the end of its reception alone, a reported duplicate, or its dispatch (R19,
R20). -/
theorem State.frame_cases {P : State → Prop} (s : State) (sender : Byte)
    (dispatch : Fin 32 → State → State) (hvalid : P s.frameValid) (hdup : P s.frameValid.duplicate)
    (hdispatch : ∀ st, st ≠ s.frameValid.sul.number → P (dispatch st s.frameValid)) :
    P (s.frame sender dispatch) := by
  unfold State.frame
  dsimp only
  split
  · exact hvalid
  · split
    · exact hdup
    · exact hdispatch _ ‹_›

/-- A frame whose dispatch keeps keeps. -/
theorem State.frame_keeps (s : State) (sender : Byte) {dispatch : Fin 32 → State → State}
    (hd : ∀ st t, Keeps t (dispatch st t)) : Keeps s (s.frame sender dispatch) := by
  have hv := State.frameValid_keeps (Keeps.refl s)
  exact State.frame_cases (P := Keeps s) s sender dispatch hv (State.duplicate_keeps hv)
    fun st _ => hv.trans (hd st _)

theorem State.discipline_samples (s : State) (st : Fin 32) (stamp : ShowTime) :
    (s.discipline st stamp).clk.samples = s.clk.samples := by
  unfold State.discipline
  dsimp only
  repeat' split
  all_goals simp [Clock.slew, Clock.step, (State.takePendingCues_keeps (Keeps.refl _)).clk]

/-- What follows the Show Clock's part in an accepted beacon keeps. -/
theorem State.acceptBeacon_keeps (s : State) (st : Fin 32) (stamp : ShowTime) (e : Peer) :
    Keeps (({ s with ptb := putPeer e s.ptb } : State).discipline st stamp)
      (s.acceptBeacon st stamp e) := by
  have hair := State.syncTalking_keeps (State.post_keeps [.peerSeen st] (State.presentAir_keeps st e.talking
    (Keeps.refl (({ s with ptb := putPeer e s.ptb } : State).discipline st stamp))))
  unfold State.acceptBeacon
  dsimp only
  split
  · exact State.holdReported_keeps hair
  · exact hair

theorem State.beaconFrame_samples (s : State) (sender : Byte) (stamp : BitVec 32) (g x : BitVec 16)
    (flags : Byte) : (s.beaconFrame sender stamp g x flags).clk.samples = s.clk.samples := by
  have hv := State.frameValid_keeps (Keeps.refl s)
  refine State.frame_cases (P := fun t => t.clk.samples = s.clk.samples) s sender _ ?_ ?_ fun st _ => ?_
  · rw [hv.clk]
  · rw [(State.duplicate_keeps hv).clk]
  · rw [(State.acceptBeacon_keeps _ _ _ _).clk, State.discipline_samples]
    exact congrArg Clock.samples hv.clk

theorem State.inReception_not_reset {s : State} (h : s.inReception = true) : s.sul.station ≠ .reset := by
  simp [State.inReception, State.receives, State.listens] at h
  exact h.1.1.1

/-- A beacon heard out of RESET puts its peer in order and leaves the divider as it was (R36). -/
theorem staysSound_beaconFrame {s : State} (sender : Byte) (stamp : BitVec 32) (g x : BitVec 16)
    (flags : Byte) (h : s.sul.station ≠ .reset) :
    StaysSound s (s.beaconFrame sender stamp g x flags) := by
  refine .of_holds ?_ fun hs => by rw [State.beaconFrame_samples]; exact hs
  exact s.frame_holds sender _ fun st t hst _ hreset =>
    t.acceptBeacon_holds st stamp _ rfl hst fun ht => h (hreset ht)

theorem staysSound_receptionStarts (s : State) : StaysSound s s.receptionStarts :=
  .of_holds s.receptionStarts_holds id

theorem State.attempt_samples (s : State) : s.attempt.clk.samples = s.clk.samples := by
  unfold State.attempt State.begin
  split
  · dsimp only
    split <;> rfl
  · rfl

theorem staysSound_attempt (s : State) : StaysSound s s.attempt :=
  .of_holds s.attempt_holds fun hs => by rw [State.attempt_samples]; exact hs

/-! ### Every command -/

/-- Every command stays sound: the resets anew, the release, beats, sample periods, beacons and frame starts
by their own lemmas, and every other command because its effect keeps. -/
theorem exec_staysSound {c : Instr} {s t : State} (h : exec c s = .next t) : StaysSound s t := by
  unfold exec at h
  cases c with
  | powerOnReset | pinReset =>
    obtain rfl := Host.Outcome.next.inj h
    exact staysSound_reset s _
  | resetRelease straps =>
    exact .of_act h fun hr => staysSound_releaseReset straps (of_decide_eq_true hr)
  | beat pins leave | slewBeat pins leave => exact .of_act h fun _ => staysSound_beat _ pins leave
  | samplePeriod leave =>
    exact .of_act h fun hs => staysSound_samplePeriod leave ((Clock.sampleDue_iff _).1 hs).2
  | receptionStart => exact .of_act h fun _ => staysSound_receptionStarts _
  | beacon =>
    exact .of_act h fun hr => staysSound_beaconFrame _ _ _ _ _ (State.inReception_not_reset hr)
  | attemptBegin => exact .of_act h fun _ => staysSound_attempt _
  | peerExpiry =>
    exact .of_act_keeps h fun u => State.expirePeer_keeps _ (.refl u)
  | pendingCueDue =>
    exact .of_act_keeps h fun u => State.takePendingCues_keeps (.refl u)
  | lineIdle =>
    exact .of_act_keeps h fun u => State.lineFallsIdle_keeps (.refl u)
  | badFrame =>
    exact .of_act_keeps h fun u => State.frameBad_keeps (.refl u)
  | rateDoubt =>
    exact .of_act_keeps h fun u => State.doubt_keeps (.refl u)
  | cueLongForm =>
    exact .of_act_keeps h fun u => u.frame_keeps _ fun _ t => State.hearLong_keeps _ _ _ (.refl t)
  | cueShortForm =>
    exact .of_act_keeps h fun u => u.frame_keeps _ fun _ t => State.shortFrame_keeps _ _ _ _ (.refl t)
  | talk =>
    exact .of_act_keeps h fun u => u.frame_keeps _ fun _ t => State.talkFrame_keeps _ _ (.refl t)
  | answer =>
    exact .of_act_keeps h fun u => u.frame_keeps _ fun _ t => .refl t
  | start | stop | stopAll | setFlag | hold | query | clearFaults | restart =>
    exact .of_act_keeps h fun u => u.frame_keeps _ fun _ t => State.order_keeps _ _ _ _ (.refl t)
  | orderUnknownKind =>
    exact .of_act_keeps h fun u => u.frame_keeps _ fun _ t => State.orderUnknown_keeps _ _ _ (.refl t)
  | frameOfUnknownKind =>
    exact .of_act_keeps h fun u => State.frameValid_keeps (.refl u)
  | jam =>
    exact .of_act_keeps h fun u => State.jam_keeps (.refl u)
  | jamEnd =>
    exact .of_act_keeps h fun u => State.endJam_keeps (.refl u)
  | busGiveUp =>
    exact .of_act_keeps h fun u => State.giveUp_keeps (.refl u)
  | attemptSent =>
    exact .of_act_keeps h fun u => State.sent_keeps (.refl u)
  | regularBoundary =>
    exact .of_act_keeps h fun u => State.regularBoundary_keeps (.refl u)
  | earlySpacingEnd =>
    exact .of_act_keeps h fun u => State.endSpacing_keeps (.refl u)
  | trialWindowEnd =>
    exact .of_act_keeps h fun u => State.nextTrial_keeps (.refl u)
  | learningLimit =>
    exact .of_act_keeps h fun u => State.fallBack_keeps (.refl u)
  | inputChange =>
    exact .of_act_keeps h fun u => State.changeInput_keeps _ (.refl u)
  | inputStuck =>
    exact .of_act_keeps h fun u => State.markStuck_keeps _ (.refl u)
  | lingerExpiry =>
    exact .of_act_keeps h fun u => State.groupEnters_keeps _ _ _ (.refl u)
  | patienceExpiry =>
    exact .of_act_keeps h fun u => State.expireRequest_keeps _ (.refl u)
  | sceneReadComplete | refillReadComplete | burstComplete | loadTransferComplete =>
    exact .of_act_keeps h fun u => State.completeTransfer_keeps _ (.refl u)
  | claimingComplete =>
    exact .of_act_keeps h fun u => State.enterRunning_keeps _ (.refl u)
  | cueDue =>
    exact .of_act_keeps h fun u => State.runCues_keeps _ (.refl u)
  | fade | cycle | clip | silence | move | home | flag | announce | direct | startCue | await =>
    exact .of_act_keeps h fun u => State.cueCommand_keeps _ _ (.refl u)
  | awaitTimeout =>
    exact .of_act_keeps h fun u => State.timeoutAwait_keeps _ (.refl u)
  | endingResourcesIdle =>
    exact .of_act_keeps h fun u => State.endRun_keeps _ (.refl u)
  | slotGoesFree =>
    exact .of_act_keeps h fun u => State.goFree_keeps _ (.refl u)
  | blendEnd | overrideRampEnd =>
    exact .of_act_keeps h fun u => State.onChannel_keeps _ _ (.refl u)
  | motionStarved =>
    exact .of_act_keeps h fun u => State.starve_keeps _ (.refl u)
  | guardClear =>
    exact .of_act_keeps h fun u => State.clearGuard_keeps _ (.refl u)
  | retryWaitEnd =>
    exact .of_act_keeps h fun u => State.endRetry_keeps _ (.refl u)
  | claimGranted =>
    exact .of_act_keeps h fun u => State.grant_keeps _ (.refl u)
  | quietLimit =>
    exact .of_act_keeps h fun u => State.passQuietLimit_keeps _ (.refl u)
  | clipEnd =>
    exact .of_act_keeps h fun u => State.endClip_keeps _ (.refl u)
  | tailEnd =>
    exact .of_act_keeps h fun u => State.endTail_keeps _ (.refl u)
  | holdBegins =>
    exact .of_act_keeps h fun u => State.beginHold_keeps (.refl u)
  | holdEnd =>
    exact .of_act_keeps h fun u => State.endHold_keeps (.refl u)
  | holdLineStuck =>
    exact .of_act_keeps h fun u => State.reportStuck_keeps (.refl u)
  | showMemoryTimeout =>
    exact .of_act_keeps h fun u => State.timeOut_keeps (.refl u)
  | showMemoryFailed =>
    exact .of_act_keeps h fun u => State.failPort_keeps (.refl u)
  | joiningIntervalEnd =>
    exact .of_act_keeps h fun u => State.enterActive_keeps (.refl u)
  | restartBegin =>
    exact .of_act_keeps h fun u => State.beginRestart_keeps (.refl u)
  | restartReload =>
    exact .of_act_keeps h fun u => State.reload_keeps (.refl u)

/-- Settles O58: a step is its front command, and every command stays sound. -/
theorem stepsKeepSoundState : Obligations.StepsKeepSoundState := by
  unfold Obligations.StepsKeepSoundState
  intro s t h
  have hstays : StaysSound s t := by
    unfold step at h
    split at h
    · obtain rfl := Host.Outcome.next.inj h
      exact .refl s
    · have hrest := exec_staysSound h
      exact ⟨hrest.samples, hrest.rings, hrest.flt, hrest.peers⟩
  exact ⟨hstays.samples, hstays.rings, hstays.flt, hstays.peers⟩

end Sys2Proof.Machine
end

section
/-! PROOFS. The Show Clock and an accepted beacon (R8, R9, R11), the line's idle judgement and the start of a
reception (R7, R16, R17), and the start of an attempt (R18, R22, R23). -/

namespace Sys2Proof.Machine

/-! ### What the Show Clock does with a beacon -/

theorem State.discipline_no_cfg {s : State} (st : Fin 32) (stamp : ShowTime) (h : s.cfg = none) :
    s.discipline st stamp = s := by
  simp [State.discipline, h]

theorem State.discipline_no_capture {s : State} (st : Fin 32) (stamp : ShowTime)
    (h : s.clk.capture = none) : s.discipline st stamp = s := by
  unfold State.discipline
  split
  · simp_all
  · rfl

/-- The branches of `State.discipline` under settings with a capture. -/
theorem State.discipline_eq {s : State} {c : Config} {at_ : ShowTime} (st : Fin 32) (stamp : ShowTime)
    (hc : s.cfg = some c) (ha : s.clk.capture = some at_) :
    s.discipline st stamp =
      if c.clockGroup.getLsbD st.val then
        if (stamp - at_).toInt ≤ 0 then s
        else if (stamp - at_).toInt ≤ c.stepLimit then s.onClk (·.slew (stamp - at_).toInt)
        else
          ((s.onClk (·.step (stamp - at_).toInt)).report .clockStepped st.val).takePendingCues
      else s := by
  unfold State.discipline
  rw [hc, ha]
  rfl

theorem Clock.step_toInt (c : Clock) (d : ShowTime) :
    c.step d.toInt = { c with showTime := c.showTime + d, debt := 0, spacing := 0 } := by
  rw [Clock.step, BitVec.ofInt_toInt]

section
variable {s : State} {c : Config} {at_ : ShowTime} {st : Fin 32} {stamp : ShowTime}

theorem State.discipline_outside (hc : s.cfg = some c) (ha : s.clk.capture = some at_)
    (hg : c.clockGroup.getLsbD st.val = false) : s.discipline st stamp = s := by
  rw [State.discipline_eq st stamp hc ha, hg]
  rfl

theorem State.discipline_behind (hc : s.cfg = some c) (ha : s.clk.capture = some at_)
    (hd : (stamp - at_).toInt ≤ 0) : s.discipline st stamp = s := by
  rw [State.discipline_eq st stamp hc ha, if_pos hd, ite_self]

/-- Without settings, a capture or a sender of the clock group in force nothing happens (R8). -/
theorem State.discipline_none
    (h : s.cfg = none ∨ s.clk.capture = none ∨ s.clockGroup.getLsbD st.val = false) :
    s.discipline st stamp = s := by
  rcases h with hc | ha | hg
  · exact State.discipline_no_cfg st stamp hc
  · exact State.discipline_no_capture st stamp ha
  · cases hc : s.cfg with
    | none => exact State.discipline_no_cfg st stamp hc
    | some c =>
      cases ha : s.clk.capture with
      | none => exact State.discipline_no_capture st stamp ha
      | some at_ =>
        rw [State.clockGroup, hc] at hg
        exact State.discipline_outside hc ha hg

/-- A positive offset up to the step limit raises the debt to the larger (R9). -/
theorem State.discipline_slews (hc : s.cfg = some c) (ha : s.clk.capture = some at_)
    (hg : c.clockGroup.getLsbD st.val = true) (hd : 0 < (stamp - at_).toInt)
    (hl : (stamp - at_).toInt ≤ c.stepLimit) :
    s.discipline st stamp =
      { s with clk := { s.clk with debt := max s.clk.debt (stamp - at_).toInt.toNat } } := by
  rw [State.discipline_eq st stamp hc ha, if_pos hg, if_neg (not_le.2 hd), if_pos hl]
  rfl

/-- A larger one steps show time, reports CLOCK_STEPPED, and lets reached cues leave the list (R11, R96). -/
theorem State.discipline_steps (hc : s.cfg = some c) (ha : s.clk.capture = some at_)
    (hg : c.clockGroup.getLsbD st.val = true) (hl : c.stepLimit < (stamp - at_).toInt) :
    s.discipline st stamp =
      ((s.onClk fun k =>
        { k with showTime := k.showTime + (stamp - at_), debt := 0, spacing := 0 }).report
          .clockStepped st.val).takePendingCues := by
  rw [State.discipline_eq st stamp hc ha, if_pos hg, if_neg (by omega), if_neg (not_le.2 hl)]
  simp only [Clock.step_toInt]

end

theorem State.takePendingCues_flt (s : State) : s.takePendingCues.flt = s.flt := rfl

theorem State.takePendingCues_csc (s : State) :
    s.takePendingCues.csc = s.csc.dropWhile fun e => reached s.clk.showTime e.startAt := rfl

@[simp] theorem State.report_csc (s : State) (k : FaultKind) (n : Nat) (d : DropSort) :
    (s.report k n d).csc = s.csc := by
  rw [State.report_eq]

/-! ### A frame that is heard -/

theorem finOf_ofNat (st : Fin 32) : finOf 32 (BitVec.ofNat 8 st.val) = some st := by
  revert st
  decide

theorem State.inReception_of_receiving {s : State} (h : s.Receiving) : s.inReception = true := by
  obtain ⟨hs, hr, hsend, hjam, hrec⟩ := h
  simp [State.inReception, State.receives, State.listens, Bus.onLine, hs, hr, hsend, hjam, hrec]

/-- At the rate in force a valid frame ends its reception and changes nothing else (R17). -/
theorem State.frameValid_rateSet {s : State} (h : s.bus.rateState = .rateSet) :
    s.frameValid = s.onBus fun b => { b with receiving := false, lineIdle := false, badRun := 0 } := by
  simp [State.frameValid, h]

/-- A frame of another station, heard at the rate in force, is dispatched at the instant `heard`. -/
theorem State.frame_heard {s : State} {st : Fin 32} (dispatch : Fin 32 → State → State)
    (h : s.Receiving) (hn : st ≠ s.sul.number) :
    s.tick.frame (BitVec.ofNat 8 st.val) dispatch = dispatch st s.heard := by
  obtain ⟨-, hr, -⟩ := h
  unfold State.frame
  rw [finOf_ofNat, State.frameValid_rateSet (by exact hr)]
  exact if_neg hn

theorem exec_beacon (sender : Byte) (stamp : BitVec 32) (g x : BitVec 16) (flags : Byte) (s : State) :
    exec (.beacon sender stamp g x flags) s =
      act State.inReception (·.beaconFrame sender stamp g x flags) s := rfl

/-- What a BEACON of another station does to the clock is what `State.discipline` does. -/
theorem exec_beacon_clk {s : State} {st : Fin 32} (stamp : BitVec 32) (g x : BitVec 16) (flags : Byte)
    (h : s.Receiving) (hn : st ≠ s.sul.number) :
    ∃ t, exec (.beacon (BitVec.ofNat 8 st.val) stamp g x flags) s = .next t ∧
      t.clk =
        (({ s.heard with ptb := putPeer (peerOf st g x flags) s.ptb } : State).discipline st stamp).clk := by
  rw [exec_beacon, act_may (State.inReception_of_receiving h)]
  refine ⟨_, rfl, ?_⟩
  rw [(State.finish_keeps (Keeps.refl _)).clk, State.beaconFrame, State.frame_heard _ h hn,
    (State.acceptBeacon_keeps _ _ _ _).clk]
  rfl

/-- Settles O6, from the branches of `State.discipline`; nothing else in a beacon's dispatch writes the
clock. -/
theorem beaconDisciplinesClock : Obligations.BeaconDisciplinesClock := by
  unfold Obligations.BeaconDisciplinesClock
  refine ⟨fun s st stamp g x flags h hn => ?_, fun s st stamp => ⟨State.discipline_no_cfg st stamp,
    State.discipline_no_capture st stamp, fun c at_ hc ha => ⟨State.discipline_outside hc ha,
      State.discipline_behind hc ha, State.discipline_slews hc ha, fun hg hl => ?_⟩⟩⟩
  · obtain ⟨t, ht, hclk⟩ := exec_beacon_clk (st := st) stamp g x flags h hn
    refine ⟨t, ht, fun hnone => ?_, fun c at_ d hc ha hg hd => ?_⟩
    · rw [hclk, State.discipline_none (by exact hnone)]
      rfl
    · subst hd
      rw [hclk]
      refine ⟨fun hd => ?_, fun hd hl => ?_, fun hl => ?_⟩
      · rw [State.discipline_behind (by exact hc) (by exact ha) hd]
        rfl
      · rw [State.discipline_slews (by exact hc) (by exact ha) hg hd hl]
        rfl
      · rw [State.discipline_steps (by exact hc) (by exact ha) hg hl]
        simp [(State.takePendingCues_keeps (Keeps.refl _)).clk, State.heard]
  · rw [State.discipline_steps hc ha hg hl]
    simp [State.takePendingCues_flt, State.takePendingCues_csc,
      (State.takePendingCues_keeps (Keeps.refl _)).clk]

/-! ### The line falls idle; a reception starts -/

theorem State.receives_of_listening {s : State} (h : s.Listening) : s.receives = true := by
  obtain ⟨hs, hr, hsend, hjam⟩ := h
  simp [State.receives, State.listens, Bus.onLine, hs, hr, hsend, hjam]

/-- Without an open reception idle is judged and nothing else happens (R16). -/
theorem State.lineFallsIdle_quiet {s : State} (h : s.bus.receiving = false) :
    s.lineFallsIdle = { s with bus := { s.bus with lineIdle := true } } := by
  simp [State.lineFallsIdle, h, State.onBus]

/-- A bad frame below the 32nd in a run adds 1 to the count (R17). -/
theorem State.frameBad_below {s : State} (h : s.bus.badRun < 31) :
    s.frameBad =
      { s with bus := { s.bus with receiving := false, lineIdle := false, badRun := s.bus.badRun + 1 } } := by
  have hcount : min (s.bus.badRun + 1) 32 = s.bus.badRun + 1 := by omega
  simp [State.frameBad, State.doubtDue, hcount, show ¬ 31 ≤ s.bus.badRun by omega, State.onBus]

/-- Rate doubt under a configured rate reports RATE_DOUBT and clears the count (R33). -/
theorem State.doubt_configured {s : State} {c : Config} {r : Rate} (hc : s.cfg = some c)
    (hr : c.rate = some r) :
    s.doubt = (s.onBus fun b => { b with badRun := 0 }).report .rateDoubt s.sul.number.val := by
  simp only [State.doubt, State.report_cfg, State.onBus_cfg, hc, hr, Option.isNone_some,
    Bool.false_eq_true, if_false]

/-- The 32nd bad frame in a run under a configured rate raises rate doubt (R17, R33). -/
theorem State.frameBad_doubts {s : State} {c : Config} {r : Rate} (hc : s.cfg = some c)
    (hr : c.rate = some r) (h : 31 ≤ s.bus.badRun) :
    s.frameBad =
      ({ s with bus := { s.bus with receiving := false, lineIdle := false, badRun := 0 } } : State).report
        .rateDoubt s.sul.number.val := by
  unfold State.frameBad
  dsimp only
  rw [if_pos (by simp [State.doubtDue, h]), State.doubt_configured (by exact hc) hr]
  rfl

/-- An early request does not look at the judgement of the line. -/
theorem Bus.raiseEarly_lineIdle (b : Bus) :
    { b.raiseEarly with lineIdle := true } = Bus.raiseEarly { b with lineIdle := true } := by
  unfold Bus.raiseEarly
  rw [show Bus.beaconInFlight { b with lineIdle := true } = b.beaconInFlight from rfl]
  split
  · rfl
  · dsimp only
    split
    · rfl
    · unfold Bus.raise
      dsimp only
      split <;> rfl

/-- A fault report does not look at the judgement of the line. -/
theorem State.report_lineIdle (s : State) (k : FaultKind) (n : Nat) (d : DropSort) :
    (s.report k n d).onBus (fun b => { b with lineIdle := true }) =
      (s.onBus fun b => { b with lineIdle := true }).report k n d := by
  unfold State.report
  dsimp only
  by_cases h : s.flt.entries.isEmpty = true
  · rw [if_pos h, if_pos (by exact h)]
    simp only [State.earlyRequest, State.onBus, Bus.raiseEarly_lineIdle]
  · rw [if_neg h, if_neg (by exact h)]
    rfl

theorem State.report_rateState (s : State) (k : FaultKind) (n : Nat) (d : DropSort) :
    (s.report k n d).bus.rateState = s.bus.rateState := by
  unfold State.report
  dsimp only
  split
  · exact (congrArg Bus.rateState (Bus.raiseEarly_eq s.bus) :)
  · rfl

theorem exec_lineIdle (s : State) :
    exec .lineIdle s = act (fun s => s.receives && !s.bus.lineIdle) State.lineFallsIdle s := rfl

theorem exec_receptionStart (s : State) :
    exec .receptionStart s = act (fun s => s.receives && s.bus.lineIdle) State.receptionStarts s := rfl

/-- What the line's falling idle gives (R16). -/
theorem gives_lineIdle {s u : State} (h : s.Listening) (hi : s.bus.lineIdle = false)
    (hu : s.tick.lineFallsIdle = u) (ha : u.agenda = []) : Gives .lineIdle s u :=
  gives_of_act (exec_lineIdle s) (by simp [State.receives_of_listening h, hi]) hu ha

/-- A reception that stops short on the line's falling idle ends as a fragment (R17). -/
theorem State.lineFallsIdle_fragment {s t : State} (h : s.bus.receiving = true) (ht : s.frameBad = t)
    (hr : t.bus.rateState = s.bus.rateState) :
    s.lineFallsIdle = t.onBus fun b => { b with lineIdle := true } := by
  simp [State.lineFallsIdle, h, ht, hr]

/-! ### Frames without a reception -/

theorem State.inReception_eq_false {s : State} (h : s.bus.receiving = false) : s.inReception = false := by
  simp [State.inReception, h]

theorem act_no_reception {s : State} {effect : State → State} (h : s.bus.receiving = false) :
    act State.inReception effect s = .next s :=
  act_may_not (State.inReception_eq_false h)

/-- Settles O7, branch by branch of the line's falling idle; a command that ends a reception has no effect
where none is open. -/
theorem lineIdleAndReceptionStart : Obligations.LineIdleAndReceptionStart := by
  unfold Obligations.LineIdleAndReceptionStart
  intro s h
  refine ⟨fun hi hr => ?_, fun hi hr hb => ?_, fun c r hc hcr hi hr hb => ?_, fun hi => ?_, fun hi => ?_,
    fun hr => ?_⟩
  · exact gives_lineIdle h hi (State.lineFallsIdle_quiet (by exact hr)) rfl
  · exact gives_lineIdle h hi (State.lineFallsIdle_fragment (by exact hr)
      (State.frameBad_below (by exact hb)) rfl) rfl
  · refine gives_lineIdle h hi ((State.lineFallsIdle_fragment (by exact hr)
      (State.frameBad_doubts (by exact hc) hcr (by exact hb)) (State.report_rateState _ _ _ _)).trans
        (State.report_lineIdle _ _ _ _)) (State.report_agenda _ _ _ _)
  · exact gives_of_act (exec_receptionStart s) (by simp [State.receives_of_listening h, hi]) rfl rfl
  · exact (exec_receptionStart s).trans (act_may_not (by simp [hi]))
  · unfold exec
    refine ⟨fun _ => act_no_reception hr, fun _ _ _ _ _ => act_no_reception hr,
      fun _ _ _ => act_no_reception hr, fun _ _ _ _ => act_no_reception hr,
      fun _ _ _ => act_no_reception hr, fun make hm sender target ops => ?_,
      fun _ _ _ _ => act_no_reception hr, fun _ _ _ _ _ _ => act_no_reception hr,
      fun _ _ _ => act_no_reception hr⟩
    simp only [List.mem_cons, List.not_mem_nil, or_false] at hm
    rcases hm with rfl | rfl | rfl | rfl | rfl | rfl | rfl | rfl
    all_goals exact act_no_reception hr

/-! ### An attempt begins -/

/-- The flags byte of a beacon, bit by bit (13.1). -/
theorem beaconFlags_bit (talking localHold fault : Bool) (flags : BitVec 4) (i : Fin 8) :
    (beaconFlags talking localHold fault flags).getLsbD i.val =
      if i = 0 then talking
      else if i = 1 then localHold
      else if i = 2 then fault
      else if i = 3 then false
      else flags.getLsbD (i.val - 4) := by
  show BitVec.getLsbD (w := 4 + 1 + 1 + 1 + 1) (flags ++ 0#1 ++ BitVec.ofBool fault ++
    BitVec.ofBool localHold ++ BitVec.ofBool talking) i.val = _
  simp only [BitVec.getLsbD_append]
  fin_cases i <;> simp

/-- A byte is fixed by its eight bits. -/
theorem byte_ext {x y : Byte} (h : ∀ i : Fin 8, x.getLsbD i.val = y.getLsbD i.val) : x = y :=
  BitVec.eq_of_getLsbD_eq fun i hi => h ⟨i, hi⟩

/-- The bytes of a beacon, with what its payload carries named (R18). -/
theorem State.composeBeacon_eq (s : State) {g x : Nat} {fault : Bool}
    (hf : fault = (s.sul.station = .configFault || !s.flt.entries.isEmpty : Bool))
    (hg : g = if s.sul.station = .configFault then 0 else s.lgv.compose)
    (hx : x = if s.sul.station = .configFault then 0 else match s.cfg with
      | some c => c.ceiling
      | none => 0) :
    s.composeBeacon =
      frameBytes 0x01#8 (BitVec.ofNat 8 s.sul.number.val)
        (bytesOf 4 s.clk.showTime.toNat ++ bytesOf 2 g ++ bytesOf 2 x ++
          [beaconFlags s.nre.talking s.hld.localHold fault s.sce.flags]) := by
  subst hf hg hx
  rfl

theorem voiceCode_eq (v : Voice) : voiceCode v = if v = .a then 0x00#8 else 0x01#8 := by
  cases v <;> rfl

theorem exec_attemptBegin (waited : Nat) (s : State) :
    exec (.attemptBegin waited) s = act (·.waited waited) State.attempt s := rfl

/-- The attempt of a candidate whose wait has been counted through begins (R23). -/
theorem exec_attemptBegin_waited {s : State} {c : Candidate} {waited : Nat} (ht : s.bus.tx = .wait)
    (hc : s.candidate = some c) (hw : c.wait s.sul.number.val ≤ waited) :
    exec (.attemptBegin waited) s = .next (s.tick.begin c).finish := by
  have hmay : s.waited waited = true := by simp [State.waited, hc, ht, hw]
  have hcand : s.tick.candidate = some c := hc
  rw [exec_attemptBegin, act_may hmay, State.attempt, hcand]

/-- At the end of its first instant an attempt is on the line (TABLE XII). -/
theorem State.finish_send {u : State} (ha : u.agenda = []) (ht : u.bus.tx = .send) :
    u.finish.bus.tx = .send := by
  rw [State.finish_atEnd ha]
  simp [State.atEnd, ht]

theorem State.begin_tx (s : State) (c : Candidate) : (s.begin c).bus.tx = .send := by
  cases c <;> rfl

theorem State.begin_agenda (s : State) (c : Candidate) : (s.begin c).agenda = s.agenda := by
  cases c <;> rfl

/-- An attempt of a queue entry: its frame and the capture of its marker (R7, R23). -/
theorem State.begin_entry (s : State) (e : OutEntry) :
    s.begin (.entry e) =
      { s with
        bus := { s.bus with
          tx := .send, lineIdle := false
          attempt := some { what := .entry e.id, frame := e.msg.bytes s.sul.number, silent := false } }
        clk := { s.clk with capture := some s.clk.showTime } } := rfl

/-- An attempt of the beacon: its request is taken into flight and the granted load composed (R18, R122). -/
theorem State.begin_beacon (s : State) (n : Nat) :
    s.begin (.beacon n) =
      { s with
        bus := { s.bus with
          tx := .send, lineIdle := false, request := none
          attempt := some { what := .beacon n, frame := s.composeBeacon, silent := false } }
        lgv := { s.lgv with granted := s.lgv.compose }
        clk := { s.clk with capture := some s.clk.showTime } } := rfl

/-- Settles O12: the bytes of each frame, and the instant at which an attempt begins. -/
theorem attemptBegins : Obligations.AttemptBegins := by
  unfold Obligations.AttemptBegins
  refine ⟨fun s g x fault flags hfault hother hbits => ?_, fun own => ⟨fun v clip id => ?_,
    fun _ _ => rfl, fun _ _ _ => rfl, fun _ _ _ _ _ _ => rfl⟩, fun s waited ht =>
      ⟨fun e hc hw => ?_, fun n hc hw => ?_⟩⟩
  · have hflags : flags = beaconFlags s.nre.talking s.hld.localHold fault s.sce.flags :=
      byte_ext fun i => by rw [hbits i, beaconFlags_bit]
    rw [hflags]
    by_cases hs : s.sul.station = .configFault
    · obtain ⟨hg, hx, hf⟩ := hfault hs
      exact s.composeBeacon_eq (by simp [hf, hs]) (by simp [hg, hs]) (by simp [hx, hs])
    · obtain ⟨hg, hsome, hnone, hf⟩ := hother hs
      refine s.composeBeacon_eq ?_ (by simp [hg, hs]) ?_
      · rw [Bool.eq_iff_iff, hf]
        simp [hs]
      · rw [if_neg hs]
        cases hc : s.cfg with
        | none => exact hnone hc
        | some c => exact hsome c hc
  · rw [← voiceCode_eq]
    rfl
  · refine ⟨_, exec_attemptBegin_waited ht hc hw, State.finish_send (State.begin_agenda _ _)
      (State.begin_tx _ _), ?_⟩
    have hquiet := State.finish_quiet (State.begin_agenda s.tick (.entry e))
    exact hquiet
  · refine ⟨_, exec_attemptBegin_waited ht hc hw, State.finish_send (State.begin_agenda _ _)
      (State.begin_tx _ _), ?_⟩
    have hquiet := State.finish_quiet (State.begin_agenda s.tick (.beacon n))
    exact hquiet

end Sys2Proof.Machine
end

section
/-! PROOFS. A sample period can reach the lighting channels: the voice's idle report at the end of a clip
ends an AWAIT at the same instant, and the run goes on with a FADE. -/

namespace Sys2Proof.Machine

namespace FadeAtClipEnd

/-- Settings whose scene directory holds one scene of two cues. The other settings, 0 throughout, play no
part. -/
def cfg : Config :=
  { readBody 0#16 [] with
    sceneCount := 1
    scenes := [{ present := true, loop := false, address := 0, priority := 0, claims := 0#6, lockout := 0
                 patience := 0, cueCount := 2 }] }

/-- The run of that scene: its first cue, an AWAIT of voice A's idle report without a timeout, has executed;
its second is a FADE of channel 0 to full that is due. -/
def run : Slot :=
  { Slot.clear with
    state := .waiting, loaded := true, nextCue := 1, unread := 2
    window := [{ index := 1, offset := 0, cue := .fade 0#8 65535#16 1000#24 }]
    await := some { kind := .voiceIdle .a, timeout := 0, remaining := 0, onEnd := false, begun := 0 } }

/-- Voice A with one sample of its clip left to play, and nothing to follow. -/
def voice : VoiceRec :=
  { VoiceRec.clear with
    state := .playing, write := 1, fill := 1, ramp := 256, goal := 256
    current := some { clip := 0, owner := 0, air := .none, fetch := 0, toFetch := 0, toPlay := 1 } }

/-- A station in ACTIVE with that run and that voice, at the start of a beat's sample periods. -/
def state : State :=
  { State.reset with
    cfg := some cfg
    clk := { Clock.clear with running := true }
    sul := { State.reset.sul with station := .active }
    sce := { Sce.clear with slots := Sce.clear.slots.set 0 run, nextRun := 1, nextAwait := 1 }
    nre := { State.reset.nre with a := voice } }

/-- The channels that the sample period leaves: channel 0 fades where it stood. -/
def channels : Vector Channel 16 :=
  state.lte.channels.set 0 { Channel.clear with course := .fade 0 65535 0 1000 }

/-- The last sample of the clip is played, the voice reports idle, the AWAIT ends, and the FADE executes. -/
theorem samplePeriod_fades :
    (state.tick.samplePeriod false).finish.lte.channels = channels := by decide +kernel

theorem channels_ne : channels ≠ state.lte.channels := by decide +kernel

end FadeAtClipEnd

theorem exec_samplePeriod (leave : Bool) (s : State) :
    exec (.samplePeriod leave) s = act (·.clk.sampleDue) (·.samplePeriod leave) s := rfl

theorem exec_samplePeriod_due (leave : Bool) {s : State} (hr : s.clk.running = true)
    (hs : s.clk.samples < 24) :
    exec (.samplePeriod leave) s = .next (s.tick.samplePeriod leave).finish :=
  (exec_samplePeriod leave s).trans (act_may ((Clock.sampleDue_iff _).2 ⟨hr, hs⟩))

/-- Refutes O43: its second clause has every sample period leave the channels as they are, but one that ends a
clip takes what the clip's end brings too, here a FADE cue that waited for voice A. -/
theorem not_samplePeriods : ¬ Obligations.SamplePeriods := by
  unfold Obligations.SamplePeriods
  rintro ⟨-, hperiod, -⟩
  obtain ⟨t, ht, -, -, -, hchannels, -⟩ := hperiod FadeAtClipEnd.state false rfl (by decide)
  rw [exec_samplePeriod_due false rfl (by decide)] at ht
  obtain rfl := Host.Outcome.next.inj ht
  exact FadeAtClipEnd.channels_ne (FadeAtClipEnd.samplePeriod_fades.symm.trans hchannels)

end Sys2Proof.Machine
end

section
/-! PROOFS. What a RESTART keeps and empties, and its reload (R172). -/

namespace Sys2Proof.Machine

/-! ### What stands from the start of a RESTART on -/

/-- Every clip queue is empty, so that no stop makes a voice take up a clip that claims the air. -/
abbrev State.NoClipWaits (s : State) : Prop := ∀ v, (s.voice v).queue = []

/-- What the work of a RESTART begun in `s₀` leaves standing in `s`, once its first writes are made. -/
structure Restarted (s₀ s : State) : Prop where
  cfg : s.cfg = s₀.cfg
  flt : s.flt = s₀.flt
  sul : s.sul = { s₀.sul with station := .loading, restarting := true, phase := .awaitSlots }
  latch : s.sce.latch = none
  flags : s.sce.flags = 0#4
  requests : s.sce.queue = []
  cues : s.csc = []
  rate : s.bus.rate = s₀.bus.rate
  period : s.bus.period = none
  levels : ∀ i : Fin 8, (s.viu.inputs[i]).level = (s₀.viu.inputs[i]).level
  clips : s₀.NoClipWaits → s.NoClipWaits
  outbound : s₀.NoClipWaits → s.bus.queue = []

section
variable {s₀ s : State}

/-! #### Writing one block -/

theorem State.post_restarted (xs : List Signal) (h : Restarted s₀ s) : Restarted s₀ (s.post xs) := { h with }

theorem State.onLgv_restarted (f : Lgv → Lgv) (h : Restarted s₀ s) : Restarted s₀ (s.onLgv f) := { h with }

theorem State.onSmp_restarted (f : Port → Port) (h : Restarted s₀ s) : Restarted s₀ (s.onSmp f) :=
  { h with }

theorem State.setAxis_restarted (a : Fin 4) (x : Axis) (h : Restarted s₀ s) :
    Restarted s₀ (s.setAxis a x) := { h with }

theorem State.onSlot_restarted (i : Fin 4) (f : Slot → Slot) (h : Restarted s₀ s) :
    Restarted s₀ (s.onSlot i f) := { h with }

theorem State.setClaim_restarted (r : Fin 6) (x : Option (Fin 4)) (h : Restarted s₀ s) :
    Restarted s₀ (s.setClaim r x) := { h with }

theorem State.onGroup_restarted (g : Fin 4) (f : Group → Group) (h : Restarted s₀ s) :
    Restarted s₀ (s.onGroup g f) := { h with }

theorem State.onInput_restarted (i : Fin 8) {f : InputRec → InputRec} (hf : ∀ x, (f x).level = x.level)
    (h : Restarted s₀ s) : Restarted s₀ (s.onInput i f) :=
  { h with
    levels := fun j => by
      rw [← h.levels j]
      simp only [State.onInput, State.onViu, Fin.getElem_fin, Vector.getElem_set]
      split
      · simp [*]
      · rfl }

/-- A voice whose queue gets no clip. -/
theorem State.setVoice_restarted (v : Voice) {x : VoiceRec}
    (hx : (s.voice v).queue = [] → x.queue = []) (h : Restarted s₀ s) : Restarted s₀ (s.setVoice v x) := by
  have hclips : s₀.NoClipWaits → (s.setVoice v x).NoClipWaits := by
    intro hq w
    have hs := h.clips hq
    cases v <;> cases w
    · exact hx (hs .a)
    · exact hs .b
    · exact hs .a
    · exact hx (hs .b)
  cases v
  · exact { h with clips := hclips }
  · exact { h with clips := hclips }

theorem State.onVoice_restarted (v : Voice) {f : VoiceRec → VoiceRec}
    (hf : ∀ x, x.queue = [] → (f x).queue = []) (h : Restarted s₀ s) : Restarted s₀ (s.onVoice v f) :=
  State.setVoice_restarted v (hf _) h

theorem State.talking_restarted (b : Bool) (h : Restarted s₀ s) :
    Restarted s₀ (s.onNre fun n => { n with talking := b }) :=
  { h with clips := fun hq v => by have := h.clips hq v; cases v <;> exact this }

theorem State.earlyRequest_restarted (h : Restarted s₀ s) : Restarted s₀ s.earlyRequest := by
  have hb : s.earlyRequest.bus = s.bus.raiseEarly := rfl
  rw [Bus.raiseEarly_eq] at hb
  exact { h with
    rate := by rw [hb]; exact h.rate
    period := by rw [hb]; exact h.period
    outbound := fun hq => by rw [hb]; exact h.outbound hq }

theorem Restarted.ite {c : Prop} [Decidable c] {t u : State} (ht : Restarted s₀ t)
    (hu : Restarted s₀ u) : Restarted s₀ (if c then t else u) := by
  split
  · exact ht
  · exact hu

theorem forEach_restarted {α : Type} {xs : List α} {f : α → State → State}
    (hf : ∀ x s, Restarted s₀ s → Restarted s₀ (f x s)) (h : Restarted s₀ s) :
    Restarted s₀ (forEach xs f s) :=
  forEach_induct hf xs s h

/-! #### Voices -/

theorem VoiceRec.dropNext_queue (x : VoiceRec) : x.dropNext.queue = x.queue := by
  unfold VoiceRec.dropNext
  split <;> rfl

theorem VoiceRec.tailStop_queue (x : VoiceRec) : x.tailStop.queue = x.queue := by
  unfold VoiceRec.tailStop
  split <;> rfl

theorem State.arbitrate_restarted (h : Restarted s₀ s) : Restarted s₀ s.arbitrate := by
  rw [State.arbitrate_eq]
  exact { h with }

theorem State.askPort_restarted (who : Requester) (address count : Nat) (h : Restarted s₀ s) :
    Restarted s₀ (s.askPort who address count) := by
  unfold State.askPort
  dsimp only
  split
  · exact State.post_restarted _ h
  · exact State.arbitrate_restarted (State.onSmp_restarted _ h)

theorem State.refill_restarted (v : Voice) (h : Restarted s₀ s) : Restarted s₀ (s.refill v) := by
  unfold State.refill
  dsimp only
  repeat' split
  all_goals first
    | exact h
    | exact State.askPort_restarted _ _ _ (State.setVoice_restarted v id h)

theorem State.primeTest_restarted (v : Voice) (h : Restarted s₀ s) : Restarted s₀ (s.primeTest v) := by
  unfold State.primeTest
  dsimp only
  split
  · exact State.setVoice_restarted v id h
  · exact h

theorem State.enterPriming_restarted (v : Voice) (air : AirMark) (h : Restarted s₀ s) :
    Restarted s₀ (s.enterPriming v air) :=
  State.primeTest_restarted v (State.refill_restarted v (State.onVoice_restarted v (fun _ => id) h))

/-- A TALK asked of the outbound queue is no fault, and no clip waits where the queue is to stay empty. -/
theorem State.enqueueTalk_restarted (v : Voice) (n : Fin 256) (id : Nat) (hq : ¬ s₀.NoClipWaits)
    (h : Restarted s₀ s) : Restarted s₀ (s.enqueue (.talk v n id) .nre) := by
  unfold State.enqueue
  split
  · exact { h with outbound := fun hn => absurd hn hq }
  · exact h

theorem State.judgeAir_restarted (v : Voice) (hq : ¬ s₀.NoClipWaits) (h : Restarted s₀ s) :
    Restarted s₀ (s.judgeAir v) := by
  unfold State.judgeAir
  dsimp only
  repeat' split
  · exact h
  · exact State.enqueueTalk_restarted v _ _ hq (State.setVoice_restarted v id h)
  · exact State.setVoice_restarted v id h
  · exact h

/-- A voice that starts its head judges the air only where a clip waited. -/
theorem State.startHead_restarted (v : Voice) (h : Restarted s₀ s) : Restarted s₀ (s.startHead v) := by
  unfold State.startHead
  dsimp only
  split
  · exact State.post_restarted _ (State.setVoice_restarted v id h)
  · rename_i c rest hc
    have hq : ¬ s₀.NoClipWaits := fun hn => by simpa [hc] using h.clips hn v
    have hpop : (s.voice v).queue = [] → rest = [] := fun hn => by simp [hc] at hn
    split
    · exact State.enterPriming_restarted v _ (State.setVoice_restarted v hpop h)
    · split
      · exact State.enterPriming_restarted v _ (State.setVoice_restarted v hpop h)
      · exact State.judgeAir_restarted v hq (State.setVoice_restarted v hpop h)

theorem State.stopCurrent_restarted (v : Voice) (h : Restarted s₀ s) :
    Restarted s₀ (s.stopCurrent v) := by
  have hgate : Restarted s₀
      (((s.setVoice v { s.voice v with current := none }).startHead v).post [.drained v]) :=
    State.post_restarted _ (State.startHead_restarted v (State.setVoice_restarted v id h))
  unfold State.stopCurrent
  dsimp only
  split
  · exact h
  · exact hgate
  · exact hgate
  · exact State.setVoice_restarted v (fun hq => by rw [VoiceRec.tailStop_queue]; exact hq) h

theorem State.stopNext_restarted (v : Voice) (h : Restarted s₀ s) : Restarted s₀ (s.stopNext v) := by
  unfold State.stopNext
  split
  · exact h
  · exact State.post_restarted _ (State.onVoice_restarted v
      (fun x hq => by rw [VoiceRec.dropNext_queue]; exact hq) h)

theorem State.shareAir_restarted (v : Voice) (h : Restarted s₀ s) : Restarted s₀ (s.shareAir v) := by
  unfold State.shareAir
  split
  · exact State.enterPriming_restarted v _ h
  · exact State.enterPriming_restarted v _ h
  · exact h

theorem State.syncTalking_restarted (h : Restarted s₀ s) : Restarted s₀ s.syncTalking := by
  unfold State.syncTalking
  dsimp only
  split
  · exact h
  · have hflag := State.earlyRequest_restarted (State.talking_restarted (s.nre.a.talks || s.nre.b.talks) h)
    split
    · exact State.shareAir_restarted _ (State.shareAir_restarted _ hflag)
    · exact hflag

theorem State.stopForRun_restarted (v : Voice) (i : Fin 4) (h : Restarted s₀ s) :
    Restarted s₀ (s.stopForRun v i) := by
  have hfilter := State.onVoice_restarted v
    (f := fun x => { x with queue := x.queue.filter fun q => q.owner ≠ i })
    (fun x hq => by simp [hq]) h
  refine State.syncTalking_restarted (.ite (State.stopCurrent_restarted v ?_) ?_)
  all_goals exact .ite (State.stopNext_restarted v hfilter) hfilter

/-! #### Axes -/

theorem State.putAxis_restarted (a : Fin 4) (x : Axis) (h : Restarted s₀ s) :
    Restarted s₀ (s.putAxis a x) := by
  unfold State.putAxis State.reportIfChanged
  split
  · exact State.setAxis_restarted a x h
  · exact State.post_restarted _ (State.setAxis_restarted a x h)

theorem State.leaveLine_restarted (a : Fin 4) (h : Restarted s₀ s) : Restarted s₀ (s.leaveLine a) := by
  unfold State.leaveLine
  split
  · exact State.post_restarted _ (State.onLgv_restarted _ h)
  · exact h

theorem State.abortAxis_restarted (a : Fin 4) (h : Restarted s₀ s) : Restarted s₀ (s.abortAxis a) := by
  unfold State.abortAxis
  dsimp only
  split
  · exact State.putAxis_restarted a _ h
  · exact State.putAxis_restarted a _ h
  · exact State.setAxis_restarted a _ h
  · exact State.leaveLine_restarted a (State.putAxis_restarted a _ h)
  · exact State.putAxis_restarted a _ h
  · exact h

/-! #### Runs -/

theorem State.releaseClaim_restarted (i : Fin 4) (r : Fin 6) (h : Restarted s₀ s) :
    Restarted s₀ (s.releaseClaim i r) := by
  have hfree := State.setClaim_restarted r none h
  unfold State.releaseClaim
  dsimp only
  split
  · split
    · exact State.post_restarted _ (State.setClaim_restarted r _ hfree)
    · exact State.post_restarted _ hfree
    · exact State.post_restarted _ hfree
  · exact h

theorem State.stopResources_restarted (i : Fin 4) (h : Restarted s₀ s) :
    Restarted s₀ (s.stopResources i) := by
  refine forEach_restarted (fun a u hu => .ite (State.abortAxis_restarted a hu) hu)
    (.ite (State.stopForRun_restarted .b i ?_) ?_)
  all_goals exact .ite (State.stopForRun_restarted .a i h) h

theorem State.releaseIdle_restarted (i : Fin 4) (h : Restarted s₀ s) : Restarted s₀ (s.releaseIdle i) :=
  forEach_restarted (fun r _ hu => .ite (State.releaseClaim_restarted i r hu) hu) h

theorem State.stopRun_restarted (i : Fin 4) (reason : StopReason) (h : Restarted s₀ s) :
    Restarted s₀ (s.stopRun i reason) := by
  unfold State.stopRun
  split
  · exact State.releaseIdle_restarted i (State.stopResources_restarted i
      (State.post_restarted _ (State.onSlot_restarted i _ h)))
  · exact h

/-- With the latch empty no origin is answered; a button's press latch is cleared (R52). -/
theorem State.told_restarted (n : Fin 64) (o : ReqOrigin) (d : Disposition) (h : Restarted s₀ s) :
    Restarted s₀ (s.told n o d) := by
  cases o with
  | button i => exact State.onInput_restarted i (f := fun x => { x with latch := false }) (fun _ => rfl) h
  | order st =>
    have hno : s.told n (.order st) d = s := by simp [State.told, h.latch]
    rw [hno]
    exact h
  | presence | cue | chain | opening => exact h

theorem State.dropSuccessor_restarted (i : Fin 4) (h : Restarted s₀ s) :
    Restarted s₀ (s.dropSuccessor i) := by
  unfold State.dropSuccessor State.toldIf
  split
  · exact h
  · exact State.post_restarted _
      (.ite (State.told_restarted _ _ _ (State.onSlot_restarted i _ h)) (State.onSlot_restarted i _ h))

/-! #### Inputs -/

theorem State.idleGroups_restarted (h : Restarted s₀ s) : Restarted s₀ s.idleGroups :=
  forEach_restarted (fun g _ hu => .ite hu (State.post_restarted _ (State.onGroup_restarted g _ hu))) h

theorem State.inputsRestart_restarted (h : Restarted s₀ s) : Restarted s₀ s.inputsRestart := by
  refine State.idleGroups_restarted { h with levels := fun i => ?_ }
  rw [← h.levels i]
  exact (congrArg InputRec.level (vmap_getElem (fun x : InputRec =>
    { x with latch := false, presses := 0, stuck := false, held := 0 }) s.viu.inputs i) :)

end

/-! ### The start of a RESTART -/

/-- Writing a flag the value it has changes nothing. -/
theorem writeFlag_same : ∀ (flags : BitVec 4) (f : Fin 4), writeFlag flags f (flags.getLsbD f.val) = flags := by
  decide

/-- Clearing the four flags one after another clears them all. -/
theorem writeFlag_all_false : ∀ flags : BitVec 4,
    writeFlag (writeFlag (writeFlag (writeFlag flags 0 false) 1 false) 2 false) 3 false = 0#4 := by
  decide

/-- A flag is written in its place, and the change may bring an early request (R91, R28). -/
theorem State.setFlag_exists (s : State) (f : Fin 4) (v : Bool) : ∃ r d m,
    s.setFlag f v =
      { s with
        sce := { s.sce with flags := writeFlag s.sce.flags f v }
        bus := { s.bus with request := r, deferred := d, markedInFlight := m } } := by
  unfold State.setFlag
  split
  · rename_i h
    refine ⟨s.bus.request, s.bus.deferred, s.bus.markedInFlight, ?_⟩
    rw [← h, writeFlag_same]
  · refine ⟨s.bus.raiseEarly.request, s.bus.raiseEarly.deferred, s.bus.raiseEarly.markedInFlight, ?_⟩
    rw [← Bus.raiseEarly_eq]
    rfl

/-- All four flags are 0, with an early request at most (R91). -/
theorem State.clearFlags_exists (s : State) : ∃ r d m,
    s.clearFlags =
      { s with
        sce := { s.sce with flags := 0#4 }
        bus := { s.bus with request := r, deferred := d, markedInFlight := m } } := by
  obtain ⟨r₀, d₀, m₀, h₀⟩ := s.setFlag_exists 0 false
  obtain ⟨r₁, d₁, m₁, h₁⟩ := (s.setFlag 0 false).setFlag_exists 1 false
  obtain ⟨r₂, d₂, m₂, h₂⟩ := ((s.setFlag 0 false).setFlag 1 false).setFlag_exists 2 false
  obtain ⟨r₃, d₃, m₃, h₃⟩ := (((s.setFlag 0 false).setFlag 1 false).setFlag 2 false).setFlag_exists 3 false
  refine ⟨r₃, d₃, m₃, ?_⟩
  show (((s.setFlag 0 false).setFlag 1 false).setFlag 2 false).setFlag 3 false = _
  rw [h₃, h₂, h₁, h₀]
  simp only [writeFlag_all_false]

/-- A RESTART keeps the settings, the fault list, the rate and the inputs' levels, and empties what its rules
name (R172). -/
theorem State.beginRestart_restarted (s : State) : Restarted s s.beginRestart := by
  unfold State.beginRestart State.stopEverything
  dsimp only
  refine State.inputsRestart_restarted (forEach_restarted (fun a _ => State.abortAxis_restarted a)
    (forEach_restarted (fun i _ => State.stopRun_restarted i _)
      (forEach_restarted (fun i _ => State.dropSuccessor_restarted i) ?_)))
  obtain ⟨r, d, m, hflags⟩ := (((s.onBus Bus.restart).onSul fun u =>
    { u with station := .loading, restarting := true, phase := .awaitSlots }).onSce fun e =>
      { e with latch := none }).clearFlags_exists
  rw [hflags]
  exact ⟨rfl, rfl, rfl, rfl, rfl, rfl, rfl, rfl, rfl, fun _ => rfl, id, fun _ => rfl⟩

/-! ### When a RESTART begins and reloads -/

theorem exec_restartBegin (s : State) :
    exec .restartBegin s = act State.restartDue State.beginRestart s := rfl

theorem exec_restartReload (s : State) : exec .restartReload s = act State.reloadDue State.reload s := rfl

/-- A RESTART is due when its order is latched and its DONE has left the outbound queue (R98). -/
theorem State.restartDue_iff (s : State) : s.restartDue = true ↔
    (∃ l, s.sce.latch = some l ∧ l.kind = .restart) ∧
      ∀ e ∈ s.bus.queue, ∀ t k o r d, e.msg ≠ .answer t k o r d true := by
  unfold State.restartDue
  cases s.sce.latch with
  | none => simp
  | some l =>
    simp only [Bool.and_eq_true, decide_eq_true_eq, List.all_eq_true, Option.some.injEq,
      exists_eq_left']
    refine and_congr_right fun _ => forall₂_congr fun e _ => ?_
    cases e.msg with
    | answer t k o r d restart => cases restart <;> simp
    | talk | cueLong | cueShort => simp

theorem State.reloadDue_iff (s : State) :
    s.reloadDue = true ↔ s.sul.phase = .awaitSlots ∧ ∀ i, (s.slot i).state = .free := by
  simp [State.reloadDue, State.allFree, allSlots, Fin.forall_fin_succ]

/-- Behind a transfer in progress the header's request waits (R167, R172). -/
theorem State.reload_busy {s : State} {x : Transfer} {retried : Bool} (hb : s.smp.state = .busy x retried) :
    s.reload =
      { s with
        sul := { s.sul with phase := .header }
        smp :=
          { s.smp with
            waiting := s.smp.waiting ++
              [{ who := .loader, address := 0, count := 16, instant := s.instant }] } } := by
  unfold State.reload
  rw [hb]
  exact State.askPort_busy _ _ _ (by exact hb)

/-- A port that is READY, or FAILED and so READY again, takes the header's request at once (R172). -/
theorem State.reload_idle {s : State} (hw : s.smp.waiting = [])
    (hs : s.smp.state = .ready ∨ s.smp.state = .failed) :
    s.reload =
      { s with
        sul := { s.sul with phase := .header }
        smp :=
          { state := .busy { who := .loader, address := 0, count := 16, instant := s.instant } false
            waiting := [], sent := readCommand 0, timer := 0 } } := by
  unfold State.reload
  rcases hs with h | h
  · rw [h]
    exact State.askPort_ready _ _ _ (by exact h) (by exact hw)
  · rw [h]
    exact State.askPort_ready (s := s.portReady.onSul _) _ _ _ rfl (by exact hw)

/-- Settles O57: what stands through a RESTART, and the two conditions it waits for. -/
theorem restartBeginsAndReloads : Obligations.RestartBeginsAndReloads := by
  unfold Obligations.RestartBeginsAndReloads
  refine ⟨fun s l hl hk hdone => ?_, fun s => ⟨fun h => ?_, rfl, fun h => ?_⟩, fun s => ?_,
    fun s x retried hp hfree hb => ?_, fun s hp hfree hw hs => ?_⟩
  · exact (exec_restartBegin s).trans (act_may (s.restartDue_iff.2 ⟨⟨l, hl, hk⟩, hdone⟩))
  · refine (exec_restartBegin s).trans (act_may_not ?_)
    rw [← Bool.not_eq_true, State.restartDue_iff]
    rintro ⟨⟨l, hl, hk⟩, hdone⟩
    rcases h with hno | ⟨e, he, t, k, o, r, d, hm⟩
    · exact hno l hl hk
    · exact hdone e he t k o r d hm
  · refine (exec_restartReload s).trans (act_may_not ?_)
    rw [← Bool.not_eq_true, State.reloadDue_iff]
    rintro ⟨hp, hfree⟩
    rcases h with hno | ⟨i, hi⟩
    · exact hno hp
    · exact hi (hfree i)
  · have h := s.beginRestart_restarted
    refine ⟨(State.beginRestart_keeps (Keeps.refl s)).clk, h.cfg, h.flt, h.sul, h.latch, h.flags, h.requests,
      h.cues, fun ha hb => h.outbound fun v => ?_, h.rate, h.period, h.levels⟩
    cases v
    · exact ha
    · exact hb
  · exact gives_of_act (exec_restartReload s) (s.reloadDue_iff.2 ⟨hp, hfree⟩)
      (State.reload_busy (by exact hb)) rfl
  · rw [exec_restartReload, act_may (s.reloadDue_iff.2 ⟨hp, hfree⟩)]
    refine ⟨_, rfl, ?_⟩
    rw [State.reload_idle (s := s.tick) hw hs, readCommand_zero,
      State.finish_of_not_ready (by rfl) (by simp)]
    exact ⟨rfl, rfl, rfl⟩

end Sys2Proof.Machine
end

section
/-! PROOFS. The Peer Table: a BEACON enters it and is presented to its readers (R35 to R38, R43), and an
entry expires (R39, R41). -/

namespace Sys2Proof.Machine

/-! ### Runs that a presentation finds -/

section
variable {met : Await → Bool}

theorem Slot.judged_waiting {x : Slot} {w : Await} (hs : x.state = .waiting) (hw : x.await = some w) :
    x.judged met = if met w then { x with state := .running, await := none } else x := by
  simp [Slot.judged, hs, hw]

theorem State.judgeSlot_of_not_waiting {s : State} {i : Fin 4} (h : (s.slot i).state ≠ .waiting) :
    s.judgeSlot met i = s := by
  unfold State.judgeSlot
  split
  · exact absurd ‹_› h
  · rfl

/-- Where no run waits, no await is judged. -/
theorem State.meetAwaits_of_none_waiting {s : State} (h : ∀ i, (s.slot i).state ≠ .waiting) :
    s.meetAwaits met = s :=
  forEach_induct (P := (· = s))
    (fun i t ht => by rw [ht]; exact State.judgeSlot_of_not_waiting (h i)) _ s rfl

end

/-- A peer entry presented to the runs ends the PEER_FLAG awaits of its station that hold (R44). -/
theorem State.handle_peerSeen_slot (s : State) (st : Fin 32) (i : Fin 4) :
    (s.handle (.peerSeen st)).slot i =
      (s.slot i).judged fun w => w.kind.readsPeer st && s.awaitHolds w.kind :=
  s.meetAwaits_slot _ i

/-- The condition of a PEER_FLAG await: a FRESH entry of the station with the flag at the value (R44). -/
theorem State.awaitHolds_peerFlag_iff {s : State} {st : Fin 32} {p : Peer} (f : Fin 4) (v : Bool)
    (hp : s.peer st.val = some p) :
    s.awaitHolds (.peerFlag st f v) = true ↔ p.fresh = true ∧ p.flags.getLsbD f.val = v := by
  simp [State.awaitHolds, hp]

/-! ### An instant with one signal -/

/-- A signal that changes nothing is all that is taken. -/
theorem State.settle_signal (n : Nat) {u : State} {x : Signal} (ha : u.agenda = [])
    (hx : u.handle x = u) : State.settle (n + 1) { u with agenda := [x] } = u := by
  have hu : { u with agenda := [] } = u := by rw [← ha]
  show State.settle n (State.handle { u with agenda := [] } x) = u
  rw [hu, hx, State.settle_nil n ha]

/-- An instant that ends with a peer's presentation where no run waits. -/
theorem State.finish_peerSeen {u : State} (st : Fin 32) (ha : u.agenda = [])
    (hw : ∀ i, (u.slot i).state ≠ .waiting) :
    State.finish { u with agenda := [.peerSeen st] } = u.atEnd := by
  have hfuel : settleFuel = 4095 + 1 := rfl
  have hhandle : u.handle (.peerSeen st) = u := by
    rw [State.handle, State.judgeAwaits, State.meetAwaits_of_none_waiting hw]
  rw [← State.finish_atEnd ha]
  unfold State.finish
  rw [State.settle_nil _ ha, hfuel, State.settle_signal _ ha hhandle]

/-! ### The Peer Table in order (R35) -/

theorem mem_putPeer_self (e : Peer) : ∀ l : List Peer, e ∈ putPeer e l
  | [] => List.mem_singleton_self e
  | q :: rest => by
    unfold putPeer
    split
    · exact List.mem_cons_self
    · split
      · exact List.mem_cons_self
      · exact List.mem_cons_of_mem q (mem_putPeer_self e rest)

/-- Entries of other stations stay in the table, and none joins it. -/
theorem mem_putPeer_other {e p : Peer} (hp : p.station ≠ e.station) :
    ∀ {l : List Peer}, p ∈ putPeer e l ↔ p ∈ l
  | [] => by simpa [putPeer] using fun h => hp (congrArg Peer.station h)
  | q :: rest => by
    have hne : p ≠ e := fun h => hp (congrArg Peer.station h)
    unfold putPeer
    split
    · simp [hne]
    · split
      · rename_i heq
        have hq : p ≠ q := fun h => hp (h ▸ heq.symm)
        simp [hne, hq]
      · simp [mem_putPeer_other hp]

/-- In a table in order the entry is the one of its station. -/
theorem eq_of_mem_putPeer {e p : Peer} {l : List Peer} (hl : PeersAscend l) (hp : p ∈ putPeer e l)
    (hs : p.station = e.station) : p = e := by
  have hdiffer : ((putPeer e l).map (·.station)).Nodup :=
    List.pairwise_map.2 ((putPeer_ascend e hl).imp fun h => h.ne)
  exact List.inj_on_of_nodup_map hdiffer hp (mem_putPeer_self e l) hs

/-! ### The earshot gate and a presented entry (R43, R133, R134) -/

theorem State.airQuiet_iff (s : State) :
    s.airQuiet = true ↔
      ∀ e ∈ s.ptb, s.earshot.getLsbD e.station.val = true → e.fresh = true → e.talking = false := by
  simp only [State.airQuiet, inSet, List.all_eq_true, Bool.not_eq_true', Bool.and_eq_false_iff]
  refine forall₂_congr fun e _ => ?_
  cases s.earshot.getLsbD e.station.val <;> cases e.fresh <;> simp

/-- One talking station of the earshot set is enough to break the quiet (R43). -/
theorem State.airQuiet_eq_false {s : State} {e : Peer} (he : e ∈ s.ptb)
    (hear : s.earshot.getLsbD e.station.val = true) (hf : e.fresh = true) (ht : e.talking = true) :
    s.airQuiet = false := by
  rw [← Bool.not_eq_true, State.airQuiet_iff]
  intro h
  exact absurd (h e he hear hf) (by simp [ht])

theorem State.judgeAir_of_noise {s : State} (v : Voice) (h : s.airQuiet = false) : s.judgeAir v = s := by
  simp [State.judgeAir, h]

theorem State.judgeAir_of_not_waiting {s : State} {v : Voice} (h : (s.voice v).state ≠ .waitQuiet) :
    s.judgeAir v = s := by
  simp [State.judgeAir, h]

/-- A voice that waits for quiet air claims it, where the outbound queue takes its TALK (R133). -/
theorem State.judgeAir_claims {s : State} {v : Voice} {c : Held} (hs : (s.voice v).state = .waitQuiet)
    (hr : (s.voice v).retry = none) (hc : (s.voice v).current = some c) (hh : s.held = false)
    (hq : s.airQuiet = true) (hb : s.bus.queue.length < 8) :
    s.judgeAir v =
      (s.setVoice v
        { s.voice v with state := .claiming, claim := none, claimId := (s.voice v).claimId + 1 }).onBus
          (·.place (.talk v c.clip ((s.voice v).claimId + 1)) .nre) := by
  simp [State.judgeAir, State.enqueue, State.outboundRoom, hs, hr, hc, hh, hq, hb]

/-- A claiming voice that backs off waits for one claim window; any other goes on (R134). -/
def VoiceRec.backedOff (x : VoiceRec) (window : Nat) : VoiceRec :=
  if x.state = .claiming then
    { x with state := .waitQuiet, claim := none, retry := some window }
  else x

theorem State.backOff_eq (s : State) (v : Voice) :
    s.backOff v = s.setVoice v ((s.voice v).backedOff s.claimWindow) := by
  unfold State.backOff VoiceRec.backedOff
  dsimp only
  split
  · rfl
  · cases v <;> rfl

/-- Neither a claiming voice nor one that waits for quiet talks (R144). -/
theorem VoiceRec.backedOff_talks (x : VoiceRec) (window : Nat) :
    (x.backedOff window).talks = x.talks := by
  unfold VoiceRec.backedOff
  split
  · rename_i h
    simp [VoiceRec.talks, h]
  · rfl

theorem State.presentAir_outside {s : State} {st : Fin 32} (talk : Bool)
    (h : s.earshot.getLsbD st.val = false) : s.presentAir st talk = s := by
  rw [State.presentAir, inSet, h]
  rfl

/-- An entry that is no report of talking leaves the gate alone where the air is not quiet. -/
theorem State.presentAir_of_noise {s : State} {talk : Bool} (st : Fin 32) (hno : talk = false)
    (h : s.airQuiet = false) : s.presentAir st talk = s := by
  subst hno
  simp [State.presentAir, State.airPresented, State.judgeAir_of_noise _ h]

/-- A station's own report of talking makes the claiming voices back off, and none claims. -/
theorem State.presentAir_talking {s : State} {st : Fin 32} {talk : Bool} (hyes : talk = true)
    (hear : s.earshot.getLsbD st.val = true) (h : s.airQuiet = false) :
    s.presentAir st talk =
      { s with
        nre := { s.nre with
          a := s.nre.a.backedOff s.claimWindow, b := s.nre.b.backedOff s.claimWindow } } := by
  subst hyes
  have hpresented : ∀ (t : State) (v : Voice), t.airQuiet = false →
      t.airPresented v true = t.setVoice v ((t.voice v).backedOff t.claimWindow) := by
    intro t v ht
    simp only [State.airPresented, if_true, State.backOff_eq]
    exact State.judgeAir_of_noise v (by cases v <;> exact ht)
  rw [State.presentAir, inSet, hear, if_pos rfl, hpresented s .a h]
  exact hpresented _ .b h

/-- The only voice that waits for the air claims it when an entry shows that it is quiet. -/
theorem State.presentAir_claims {s : State} {st : Fin 32} {v : Voice} {c : Held} {talk : Bool}
    (hno : talk = false) (hear : s.earshot.getLsbD st.val = true)
    (hs : (s.voice v).state = .waitQuiet) (ho : (s.voice (otherVoice v)).state ≠ .waitQuiet)
    (hr : (s.voice v).retry = none) (hc : (s.voice v).current = some c) (hh : s.held = false)
    (hq : s.airQuiet = true) (hb : s.bus.queue.length < 8) :
    s.presentAir st talk =
      (s.setVoice v
        { s.voice v with state := .claiming, claim := none, claimId := (s.voice v).claimId + 1 }).onBus
          (·.place (.talk v c.clip ((s.voice v).claimId + 1)) .nre) := by
  subst hno
  have hclaims := State.judgeAir_claims hs hr hc hh hq hb
  rw [State.presentAir, inSet, hear, if_pos rfl]
  show (s.judgeAir .a).judgeAir .b = _
  cases v with
  | a =>
    rw [hclaims]
    exact State.judgeAir_of_not_waiting (by exact ho)
  | b => rw [State.judgeAir_of_not_waiting (v := .a) ho, hclaims]

/-! ### A BEACON is accepted -/

theorem State.syncTalking_of_agrees {s : State} (h : s.nre.talking = (s.nre.a.talks || s.nre.b.talks)) :
    s.syncTalking = s := by
  simp [State.syncTalking, h]

section
variable {s t u : State} {st : Fin 32} {stamp : BitVec 32} {g x : BitVec 16} {flags : Byte}

/-- The instant at which the entry of a BEACON has been written (R36, R37). -/
def State.withBeacon (s : State) (st : Fin 32) (g x : BitVec 16) (flags : Byte) : State :=
  { s.heard with ptb := putPeer (peerOf st g x flags) s.ptb }

/-- What a presented entry leaves to come: the stuck timer is 0 after a report of local hold (R163), and the
runs are still to judge the entry (R38). -/
def State.presented (t : State) (st : Fin 32) (localHold : Bool) : State :=
  { t with
    hld := if localHold then { t.hld with stuck := 0, stuckReported := false } else t.hld
    agenda := .peerSeen st :: t.agenda }

/-- A BEACON of a station outside the clock group leaves what the gate makes of its entry, here `t`. -/
theorem exec_beacon_outside (h : s.Receiving) (hn : st ≠ s.sul.number)
    (hg : s.clockGroup.getLsbD st.val = false)
    (ht : (s.withBeacon st g x flags).presentAir st (flags.getLsbD 0) = t)
    (htalk : t.nre.talking = (t.nre.a.talks || t.nre.b.talks))
    (hu : t.presented st (flags.getLsbD 1) = u) :
    exec (.beacon (BitVec.ofNat 8 st.val) stamp g x flags) s = .next u.finish := by
  have hclock : (s.withBeacon st g x flags).discipline st stamp = s.withBeacon st g x flags :=
    State.discipline_none (.inr (.inr hg))
  have haccept : s.heard.acceptBeacon st stamp (peerOf st g x flags) =
      t.presented st (flags.getLsbD 1) := by
    unfold State.acceptBeacon
    dsimp only
    rw [show { s.heard with ptb := putPeer (peerOf st g x flags) s.heard.ptb } =
        s.withBeacon st g x flags from rfl, hclock,
      show (peerOf st g x flags).talking = flags.getLsbD 0 from rfl, ht,
      State.syncTalking_of_agrees (by exact htalk), State.presented]
    show (if flags.getLsbD 1 then _ else _) = _
    split <;> rfl
  rw [exec_beacon, act_may (State.inReception_of_receiving h), State.beaconFrame,
    State.frame_heard _ h hn, haccept, hu]

/-- Where no run waits, that is all it does. -/
theorem gives_beacon_outside (h : s.Receiving) (hn : st ≠ s.sul.number)
    (hg : s.clockGroup.getLsbD st.val = false) (hidle : ∀ i, (u.slot i).state ≠ .waiting)
    (ht : (s.withBeacon st g x flags).presentAir st (flags.getLsbD 0) = t)
    (htalk : t.nre.talking = (t.nre.a.talks || t.nre.b.talks)) (ha : u.agenda = [])
    (hu : t.presented st (flags.getLsbD 1) = { u with agenda := [.peerSeen st] }) :
    Gives (.beacon (BitVec.ofNat 8 st.val) stamp g x flags) s u := by
  show exec _ s = _
  rw [exec_beacon_outside h hn hg ht htalk hu, State.finish_peerSeen st ha hidle]

/-- A voice written with a record that talks as it did leaves the talking flag in step (R144). -/
theorem State.talking_agrees_setVoice {v : Voice} (y : VoiceRec) (f : Bus → Bus)
    (htalk : s.nre.talking = (s.nre.a.talks || s.nre.b.talks)) (hy : y.talks = (s.voice v).talks) :
    ((s.setVoice v y).onBus f).nre.talking =
      (((s.setVoice v y).onBus f).nre.a.talks || ((s.setVoice v y).onBus f).nre.b.talks) := by
  cases v
  · exact htalk.trans (congrArg (· || s.nre.b.talks) hy.symm)
  · exact htalk.trans (congrArg (s.nre.a.talks || ·) hy.symm)

end

/-- Settles O18, from what the gate and the runs make of the entry, and from the order of the table. -/
theorem beaconEntersPeerTable : Obligations.BeaconEntersPeerTable := by
  unfold Obligations.BeaconEntersPeerTable
  refine ⟨fun s st stamp g x flags h hn hg htalk u hu => ?_,
    fun s i w st f v p hs hw hk hp => ?_, fun e l hl => ⟨putPeer_ascend e hl, mem_putPeer_self e l,
      fun p hp => mem_putPeer_other hp⟩⟩
  · subst hu
    refine ⟨fun hear => ?_, fun hidle => ⟨fun hear => ?_, fun hear hbit waits hwaits => ?_,
      fun hear hbit => ⟨fun ⟨e, he, hne, hee, hef, het⟩ => ?_,
        fun hquiet v c hs hr hc ho hh hb hl => ?_⟩⟩⟩
    · exact exec_beacon_outside h hn hg (State.presentAir_outside _ hear) htalk rfl
    · exact gives_beacon_outside h hn hg hidle (State.presentAir_outside _ hear) htalk rfl rfl
    · obtain rfl : waits = (·.backedOff s.claimWindow) := funext hwaits
      have hnoise : (s.withBeacon st g x flags).airQuiet = false :=
        State.airQuiet_eq_false (mem_putPeer_self _ _) hear rfl hbit
      refine gives_beacon_outside h hn hg hidle (State.presentAir_talking hbit hear hnoise) ?_ rfl rfl
      simp only [VoiceRec.backedOff_talks]
      exact htalk
    · have hnoise : (s.withBeacon st g x flags).airQuiet = false :=
        State.airQuiet_eq_false ((mem_putPeer_other hne).2 he) hee hef het
      exact gives_beacon_outside h hn hg hidle (State.presentAir_of_noise st hbit hnoise) htalk rfl rfl
    · have hair : (s.withBeacon st g x flags).airQuiet = true := by
        rw [State.airQuiet_iff]
        intro e he hee hef
        by_cases hst : e.station = st
        · rw [eq_of_mem_putPeer hl he hst]
          exact hbit
        · exact hquiet e ((mem_putPeer_other hst).1 he) hst hee hef
      refine gives_beacon_outside h hn hg (by cases v <;> exact hidle)
        (State.presentAir_claims hbit hear hs ho hr hc hh hair hb)
        (State.talking_agrees_setVoice _ _ htalk ?_) (by cases v <;> rfl) (by cases v <;> rfl)
      have hwait : ((s.withBeacon st g x flags).voice v).state = .waitQuiet := hs
      simp [VoiceRec.talks, hwait]
  · have hreads : w.kind.readsPeer st = true := by simp [hk, AwaitKind.readsPeer]
    have hholds := State.awaitHolds_peerFlag_iff f v hp
    rw [State.handle_peerSeen_slot, Slot.judged_waiting hs hw, hreads, Bool.true_and, hk]
    refine ⟨fun hf hv => if_pos (hholds.2 ⟨hf, hv⟩), fun hno => if_neg fun hyes => ?_⟩
    obtain ⟨hf, hv⟩ := hholds.1 hyes
    rcases hno with hno | hno
    · simp [hf] at hno
    · exact hno hv

/-! ### An entry expires (R39, R41) -/

theorem exec_peerExpiry (st : Fin 32) (s : State) :
    exec (.peerExpiry st) s = act (·.peerDue st) (·.expirePeer st) s := rfl

theorem State.peerDue_iff (s : State) (st : Fin 32) :
    s.peerDue st = true ↔ ∃ e ∈ s.ptb, e.station = st ∧ e.fresh = true ∧ e.expired = true := by
  simp [State.peerDue, and_assoc]

/-- The expiry of an entry that no one reads. -/
theorem gives_peerExpiry_unread {s u : State} {st : Fin 32} (hdue : s.peerDue st = true)
    (hear : s.earshot.getLsbD st.val = false) (hidle : ∀ i, (s.slot i).state ≠ .waiting)
    (hu : u = { s.tick with ptb := u.ptb })
    (he : s.tick.expirePeer st = u.presentGone st) : Gives (.peerExpiry st) s u := by
  show exec _ s = _
  rw [exec_peerExpiry, act_may hdue, he, State.presentGone, hu,
    State.presentAir_outside _ (by exact hear)]
  exact congrArg _ (State.finish_peerSeen st rfl hidle)

/-- Settles O19: a beat marks what has expired, and the marked entry becomes STALE or leaves the table. -/
theorem peerExpires : Obligations.PeerExpires := by
  unfold Obligations.PeerExpires
  refine ⟨fun limit e => rfl, fun s st h => ?_, fun s e he hf hx hear hidle => ?_⟩
  · refine (exec_peerExpiry st s).trans (act_may_not ?_)
    rw [← Bool.not_eq_true, State.peerDue_iff]
    rintro ⟨e, he, hst, -, hx⟩
    simp [h e he hst] at hx
  · have hdue : s.peerDue e.station = true := (s.peerDue_iff _).2 ⟨e, he, rfl, hf, hx⟩
    refine ⟨fun hfeed => gives_peerExpiry_unread hdue hear hidle rfl ?_,
      fun hfeed => gives_peerExpiry_unread hdue hear hidle rfl ?_⟩
    · exact congrArg (State.presentGone · e.station) (if_pos (by exact hfeed))
    · exact congrArg (State.presentGone · e.station) (if_neg (ne_true_of_eq_false (by exact hfeed)))

end Sys2Proof.Machine
end

section
/-! PROOFS. The awaits of the runs (R89, R90): when a condition holds, how a run comes to wait, and what ends
its await. -/

namespace Sys2Proof.Machine

/-! ### The awaits that operand bytes name (TABLE XXXVIII, R175) -/

theorem finOf_four_ofNat (n : Fin 4) : finOf 4 (BitVec.ofNat 8 n.val) = some n := by
  revert n
  decide

theorem voiceOf_voiceCode (v : Voice) : voiceOf (voiceCode v) = some v := by
  cases v <;> rfl

theorem boolOf_code (b : Bool) : boolOf (if b then 1#8 else 0#8) = some b := by
  cases b <;> rfl

/-- The second byte of a PEER_FLAG await: its reserved bits, its flag and its value. -/
theorem peerFlagByte : ∀ (f : Fin 4) (v : Bool),
    let op := BitVec.ofNat 8 (f.val + if v then 16 else 0)
    op &&& 0xEC#8 = 0#8 ∧ op.toNat % 4 = f.val ∧ op.getLsbD 4 = v := by
  decide

theorem awaitOf_peerFlag (st : Fin 32) (f : Fin 4) (v : Bool) :
    awaitOf 0#8 (BitVec.ofNat 8 st.val) (BitVec.ofNat 8 (f.val + if v then 16 else 0)) =
      some (.peerFlag st f v) := by
  obtain ⟨hreserved, hflag, hvalue⟩ := peerFlagByte f v
  simp only [awaitOf, show (0#8 : Byte).toNat = 0 from rfl, finOf_ofNat, hreserved, hflag, hvalue, if_true]

theorem awaitOf_voiceIdle (v : Voice) (x : Byte) : awaitOf 1#8 (voiceCode v) x = some (.voiceIdle v) := by
  show (voiceOf (voiceCode v)).map AwaitKind.voiceIdle = _
  rw [voiceOf_voiceCode]
  rfl

theorem awaitOf_axisIdle (a : Fin 4) (x : Byte) :
    awaitOf 2#8 (BitVec.ofNat 8 a.val) x = some (.axisIdle a) := by
  show (finOf 4 (BitVec.ofNat 8 a.val)).map AwaitKind.axisIdle = _
  rw [finOf_four_ofNat]
  rfl

theorem awaitOf_presence (g : Fin 4) (idle : Bool) :
    awaitOf 3#8 (BitVec.ofNat 8 g.val) (if idle then 1#8 else 0#8) = some (.presence g (!idle)) := by
  simp only [awaitOf, show (3#8 : Byte).toNat = 3 from rfl, finOf_four_ofNat, boolOf_code]

/-! ### What an await waits for (R44, R89) -/

section
variable (s : State)

theorem State.awaitHolds_peerFlag_none {st : Fin 32} (f : Fin 4) (v : Bool) (h : s.peer st.val = none) :
    s.awaitHolds (.peerFlag st f v) = false := by
  simp [State.awaitHolds, h]

theorem State.awaitHolds_voiceIdle_iff (v : Voice) :
    s.awaitHolds (.voiceIdle v) = true ↔ (s.voice v).state = .idle ∧ (s.voice v).queue = [] := by
  simp [State.awaitHolds, VoiceRec.idle]

theorem State.awaitHolds_axisIdle_iff (a : Fin 4) :
    s.awaitHolds (.axisIdle a) = true ↔
      (s.axis a).move = none ∧
        ((s.axis a).state = .idle ∨ (s.axis a).state = .unhomed ∨ (s.axis a).state = .fault) := by
  simp [State.awaitHolds, Axis.idle, or_assoc]

theorem State.awaitHolds_presence_iff (g : Fin 4) (occupied : Bool) :
    s.awaitHolds (.presence g occupied) = true ↔
      (s.viu.groups[g]).state = if occupied then .occupied else .idle := by
  simp [State.awaitHolds]

/-! ### Reports of a resource's owner (R75, R78) -/

@[simp] theorem State.slot_setClaim (r : Fin 6) (x : Option (Fin 4)) (i : Fin 4) :
    (s.setClaim r x).slot i = s.slot i := rfl

/-- A resource that changes hands leaves every slot as it is; what the slots make of it comes by signals. -/
theorem State.releaseClaim_slot (j : Fin 4) (r : Fin 6) (i : Fin 4) :
    (s.releaseClaim j r).slot i = s.slot i := by
  unfold State.releaseClaim
  dsimp only
  split
  · split <;> simp
  · rfl

theorem State.resourceReport_slot (r : Fin 6) (i : Fin 4) : (s.resourceReport r).slot i = s.slot i := by
  unfold State.resourceReport
  split
  · rfl
  · split
    · split
      · exact s.releaseClaim_slot _ r i
      · rfl
    · rfl
    · rfl

/-- An idle report of a voice ends the awaits of it that were begun before (R90, R131). -/
theorem State.handle_voiceIdle_slot (v : Voice) (before : Nat) (i : Fin 4) :
    (s.handle (.voiceIdle v before)).slot i =
      (s.slot i).judged fun w => w.kind = .voiceIdle v && w.begun < before :=
  (State.resourceReport_slot _ _ i).trans (s.meetAwaits_slot _ i)

/-- A report of an idle axis ends the awaits of it that were begun before (R90, R158). -/
theorem State.handle_axisReport_slot (a : Fin 4) (idle : Bool) (before : Nat) (i : Fin 4) :
    (s.handle (.axisReport a idle before)).slot i =
      (s.slot i).judged fun w => w.kind = .axisIdle a && idle && w.begun < before :=
  (State.resourceReport_slot _ _ i).trans (s.meetAwaits_slot _ i)

end

/-! ### AWAIT as a command, and its timeout -/

theorem exec_await (i : Fin 4) (kind op1 op2 : Byte) (tm : BitVec 16) (onTimeout : Byte) (s : State) :
    exec (.await i kind op1 op2 tm onTimeout) s =
      act (·.mayPerform i) (·.cueCommand i (.await kind op1 op2 tm onTimeout)) s := rfl

theorem exec_awaitTimeout (i : Fin 4) (s : State) :
    exec (.awaitTimeout i) s = act (·.awaitDue i) (·.timeoutAwait i) s := rfl

section
variable {s : State} {i : Fin 4}

theorem State.mayPerform_of_running (hs : (s.slot i).state = .running) (hh : s.held = false) :
    s.mayPerform i = true := by
  simp [State.mayPerform, hs, hh]

/-- With an empty cue window a cue is carried out without touching the window (log entry 10). -/
theorem State.cueCommand_of_no_window (c : Cue) (hw : (s.slot i).window = []) :
    s.cueCommand i c = s.performCue i c := by
  simp [State.cueCommand, State.headDue, hw]

/-- An AWAIT with operands in their ranges needs no resource, and is never skipped (R85). -/
theorem State.performCue_await {kind op1 op2 : Byte} {k : AwaitKind} (tm : BitVec 16) (e : Bool)
    (hk : awaitOf kind op1 op2 = some k) :
    s.performCue i (.await kind op1 op2 tm (if e then 1#8 else 0#8)) = s.awaitCue i k tm.toNat e := by
  have hact : actOf (.await kind op1 op2 tm (if e then 1#8 else 0#8)) = some (.await k tm.toNat e) := by
    simp only [actOf, hk, boolOf_code]
  rw [State.performCue, hact]
  rfl

/-- What an AWAIT of its own does to a RUNNING run. -/
theorem gives_await {u : State} {kind op1 op2 : Byte} {k : AwaitKind} (tm : BitVec 16) (e : Bool)
    (hs : (s.slot i).state = .running) (hh : s.held = false) (hw : (s.slot i).window = [])
    (hk : awaitOf kind op1 op2 = some k) (hu : s.tick.awaitCue i k tm.toNat e = u) (ha : u.agenda = []) :
    Gives (.await i kind op1 op2 tm (if e then 1#8 else 0#8)) s u := by
  refine gives_of_act (exec_await i _ _ _ _ _ s) (State.mayPerform_of_running hs hh) ?_ ha
  rw [State.cueCommand_of_no_window (s := s.tick) _ hw, State.performCue_await tm e hk, hu]

/-- The await of a WAITING run times out when its timer, if it has one, has run out (R90). -/
theorem State.awaitDue_of_run_out {w : Await} (hs : (s.slot i).state = .waiting)
    (hw : (s.slot i).await = some w) (ht : 0 < w.timeout) (hr : w.remaining = 0) :
    s.awaitDue i = true := by
  simp [State.awaitDue, hs, hw, ht, hr]

theorem State.timeoutAwait_onEnd {w : Await} (hw : (s.slot i).await = some w) (he : w.onEnd = true) :
    s.timeoutAwait i =
      (s.onSlot i fun x =>
        { x with state := .ending, await := none, stopReason := some .awaitEnd }).post [.slotTest i] := by
  simp [State.timeoutAwait, hw, he]

theorem State.timeoutAwait_goes_on {w : Await} (hw : (s.slot i).await = some w) (he : w.onEnd = false) :
    s.timeoutAwait i = s.awaitMet i := by
  simp [State.timeoutAwait, hw, he]

end

/-- Settles O29: AWAIT and its timeout by their branches, the conditions by kind, and the reports by what
judging an await makes of its slot. -/
theorem awaitsHoldTheRun : Obligations.AwaitsHoldTheRun := by
  unfold Obligations.AwaitsHoldTheRun
  refine ⟨fun s i => ⟨fun hs hh hw kind op1 op2 tm e k hk => ⟨fun hyes => ?_, fun hno => ?_⟩,
      fun w hs hw ht hr => ?_⟩,
    ⟨awaitOf_peerFlag, awaitOf_voiceIdle, awaitOf_axisIdle, awaitOf_presence, fun s =>
      ⟨fun st f v => ⟨s.awaitHolds_peerFlag_none f v, fun p => State.awaitHolds_peerFlag_iff f v⟩,
        s.awaitHolds_voiceIdle_iff, s.awaitHolds_axisIdle_iff,
        fun g => ⟨s.awaitHolds_presence_iff g true, s.awaitHolds_presence_iff g false⟩⟩⟩,
    fun s i w before hs hw met hmet => ⟨fun v hk => ?_, fun a idle hk => ?_⟩⟩
  · exact gives_await tm e hs hh hw hk (if_pos (by exact hyes)) rfl
  · exact gives_await tm e hs hh hw hk (if_neg (ne_true_of_eq_false (by exact hno))) rfl
  · have hdue := (exec_awaitTimeout i s).trans (act_may (State.awaitDue_of_run_out hs hw ht hr))
    refine ⟨fun he => ?_, fun he => ?_⟩
    · rw [hdue, State.timeoutAwait_onEnd (s := s.tick) hw he]
    · rw [hdue, State.timeoutAwait_goes_on (s := s.tick) hw he, State.awaitMet]
  · rw [s.handle_voiceIdle_slot, Slot.judged_waiting hs hw, hmet]
    simp [hk]
  · rw [s.handle_axisReport_slot, Slot.judged_waiting hs hw, hmet]
    simp [hk]

end Sys2Proof.Machine
end

section
/-! PROOFS. Visitor inputs (R49 to R54, R60): debounce, and what an accepted change does by the kind of its
input. -/

namespace Sys2Proof.Machine

/-! ### Debounce -/

/-- The sample of a pin is active where pin and polarity differ. -/
theorem activeSample_eq (c : InputCfg) (pin : Bool) : activeSample c pin = (pin != c.activeLow) := by
  unfold activeSample
  cases c.activeLow <;> simp

/-- The record of an input of any kind but UNUSED after a beat (R49, R54). -/
theorem InputRec.beat_eq (x : InputRec) {c : InputCfg} (pin active : Bool) (hk : c.kind ≠ .unused) :
    x.beat c pin active =
      { x with
        stability := if (pin != c.activeLow) = x.level then 0 else min (x.stability + 1) 255
        held :=
          if c.kind = .button ∧ active = true ∧ x.level = true ∧ x.stuck = false then x.held + 1
          else x.held } := by
  simp [InputRec.beat, hk, activeSample_eq, and_assoc]

/-! ### Accepted changes -/

/-- Two changes of one input's record are one. -/
theorem State.onInput_onInput (s : State) (i : Fin 8) (f g : InputRec → InputRec) :
    (s.onInput i f).onInput i g = s.onInput i fun x => g (f x) := by
  simp [State.onInput, State.onViu]

theorem exec_inputChange (i : Fin 8) (s : State) :
    exec (.inputChange i) s = act (·.changeDue i) (·.changeInput i) s := rfl

/-- The level of an input takes a value, and its stability count returns to 0 (R49). -/
def State.levelTaken (s : State) (i : Fin 8) (now : Bool) : State :=
  s.onInput i fun x => { x with level := now, stability := 0 }

section
variable {s u : State} {i : Fin 8} {c : InputCfg}

theorem State.changeDue_iff (hc : s.inputCfg i = some c) :
    s.changeDue i = true ↔
      c.kind ≠ .unused ∧ 0 < c.debounce ∧ c.debounce ≤ (s.viu.inputs[i]).stability := by
  simp [State.changeDue, hc, and_assoc]

/-- An input of a kind in use that has been stable for its debounce time changes. -/
theorem exec_inputChange_due (hc : s.inputCfg i = some c) (hk : c.kind ≠ .unused)
    (hd : 0 < c.debounce) (hs : c.debounce ≤ (s.viu.inputs[i]).stability)
    (hu : s.tick.changeInput i = u) : exec (.inputChange i) s = .next u.finish := by
  rw [exec_inputChange, act_may ((State.changeDue_iff hc).2 ⟨hk, hd, hs⟩), hu]

theorem State.changeInput_button (hc : s.inputCfg i = some c) (hk : c.kind = .button) {l : Bool}
    (hl : (s.viu.inputs[i]).level = l) :
    s.changeInput i = (s.levelTaken i !l).buttonChanged i c !l := by
  simp only [State.changeInput, hc, hk, hl, State.levelTaken]

theorem State.changeInput_presence (hc : s.inputCfg i = some c) (hk : c.kind = .presence) {l : Bool}
    (hl : (s.viu.inputs[i]).level = l) :
    s.changeInput i =
      if s.sul.station = .active then (s.levelTaken i !l).memberChanged c.group !l
      else s.levelTaken i !l := by
  simp only [State.changeInput, hc, hk, hl, State.levelTaken, State.onInput_sul]

theorem State.changeInput_guard (hc : s.inputCfg i = some c) (hk : c.kind = .guard) {l : Bool}
    (hl : (s.viu.inputs[i]).level = l) :
    s.changeInput i = (s.levelTaken i !l).guardPresented i !l := by
  simp only [State.changeInput, hc, hk, hl, State.levelTaken]

theorem State.changeInput_holdKey (hc : s.inputCfg i = some c) (hk : c.kind = .holdKey) {l : Bool}
    (hl : (s.viu.inputs[i]).level = l) : s.changeInput i = (s.levelTaken i !l).syncLocalHold := by
  simp only [State.changeInput, hc, hk, hl, State.levelTaken]

/-! ### Buttons (R51 to R54) -/

/-- A press out of ACTIVE changes the level alone (R50). -/
theorem State.changeInput_press_inactive (hc : s.inputCfg i = some c) (hk : c.kind = .button)
    (hl : (s.viu.inputs[i]).level = false) (hs : s.sul.station ≠ .active) :
    s.changeInput i = s.levelTaken i true := by
  rw [State.changeInput_button hc hk hl]
  simp [State.buttonChanged, State.levelTaken, hs]

/-- A press while the press latch is set is counted (R52). -/
theorem State.changeInput_press_latched (hc : s.inputCfg i = some c) (hk : c.kind = .button)
    (hl : (s.viu.inputs[i]).level = false) (hs : s.sul.station = .active)
    (hstuck : (s.viu.inputs[i]).stuck = false) (hlatch : (s.viu.inputs[i]).latch = true) :
    s.changeInput i =
      (s.levelTaken i true).onInput i fun x => { x with presses := min (x.presses + 1) 255 } := by
  simp only [Fin.getElem_fin] at hstuck hlatch
  rw [State.changeInput_button hc hk hl]
  simp [State.buttonChanged, State.levelTaken, hs, hstuck, hlatch]

/-- A press with the press latch clear is taken (R51). -/
theorem State.changeInput_press_unlatched (hc : s.inputCfg i = some c) (hk : c.kind = .button)
    (hl : (s.viu.inputs[i]).level = false) (hs : s.sul.station = .active)
    (hstuck : (s.viu.inputs[i]).stuck = false) (hlatch : (s.viu.inputs[i]).latch = false) :
    s.changeInput i = (s.levelTaken i true).press i c := by
  simp only [Fin.getElem_fin] at hstuck hlatch
  rw [State.changeInput_button hc hk hl]
  simp [State.buttonChanged, State.levelTaken, hs, hstuck, hlatch]

/-- A release ends the stuck mark and the held timer (R53, R54). -/
theorem State.changeInput_release (hc : s.inputCfg i = some c) (hk : c.kind = .button)
    (hl : (s.viu.inputs[i]).level = true) :
    s.changeInput i = (s.levelTaken i false).onInput i fun x => { x with stuck := false, held := 0 } :=
  State.changeInput_button hc hk hl

theorem State.press_unset (hn : c.localScene = none) (hk : c.cue = none) : s.press i c = s := by
  simp only [State.press, hn, hk]

/-- A press with an announced CUE alone leaves the press latch clear (R51, R52). -/
theorem State.press_cue {k : Byte} (hn : c.localScene = none) (hk : c.cue = some k) :
    s.press i c =
      (s.onInput i fun x => { x with latch := false, presses := 1 }).enqueue
        (.cueLong k s.clk.showTime) .viu := by
  simp only [State.press, hn, hk, Option.isSome_none, State.onInput_clk]

/-- A press with a local scene alone sets the latch and requests the scene (R51, R52). -/
theorem State.press_scene {n : Fin 64} (hn : c.localScene = some n) (hk : c.cue = none) :
    s.press i c =
      (s.onInput i fun x => { x with latch := true, presses := 1 }).post [.request n (.button i)] := by
  simp only [State.press, hn, hk, Option.isSome_some]

theorem State.enqueue_of_room {m : OutMsg} {o : Origin} (h : s.bus.queue.length < 8) :
    s.enqueue m o = s.onBus (·.place m o) := by
  simp [State.enqueue, State.outboundRoom, h]

/-! ### Hold keys (R60, R160) -/

/-- An active HOLD_KEY input holds the show. -/
theorem State.localSources_of_key (hc : s.inputCfg i = some c) (hk : c.kind = .holdKey)
    (hl : (s.viu.inputs[i]).level = true) : s.localSources = true := by
  have hkind : s.inputKind i = .holdKey := by simp [State.inputKind, hc, hk]
  have hkey : s.keyHold = true :=
    List.any_eq_true.2 ⟨i, by fin_cases i <;> decide, by simpa [hkind] using hl⟩
  have hcfg : s.configured = true := by
    obtain ⟨cfg, hcfg, -⟩ := Option.map_eq_some_iff.1 hc
    simp [State.configured, hcfg]
  simp [State.localSources, hcfg, hkey]

theorem State.syncLocalHold_rises (h : s.localSources = true) (hh : s.hld.localHold = false) :
    s.syncLocalHold = (s.onHld fun x => { x with localHold := true }).earlyRequest := by
  simp [State.syncLocalHold, h, hh]

end

/-- Settles O20: debounce by the record, then each kind by what an accepted change of it does. -/
theorem inputChangesByKind : Obligations.InputChangesByKind := by
  unfold Obligations.InputChangesByKind
  refine ⟨fun x c pin active hk => x.beat_eq pin active hk, fun s i c hc hd hs => ?_⟩
  have gives {u : State} (hk : c.kind ≠ .unused) (hu : s.tick.changeInput i = u) (ha : u.agenda = []) :
      Gives (.inputChange i) s u :=
    gives_of_act (exec_inputChange i s) ((State.changeDue_iff hc).2 ⟨hk, hd, hs⟩) hu ha
  refine ⟨fun hk hl hact hstuck => ⟨fun hlatch => ?_, fun hlatch => ?_⟩, fun hk hl hact => ?_,
    fun hk hl => ?_, fun hk hact => ?_, fun hk hl hh => ?_⟩
  · refine gives (by simp [hk]) ?_ rfl
    exact (State.changeInput_press_latched (s := s.tick) hc hk hl hact hstuck hlatch).trans
      (State.onInput_onInput _ _ _ _)
  · have hused : c.kind ≠ .unused := by simp [hk]
    have hpress := State.changeInput_press_unlatched (s := s.tick) hc hk hl hact hstuck hlatch
    refine ⟨fun hn hq => ?_, fun k hn hq hroom => ?_, fun n hn hq => ?_⟩
    · exact gives hused (hpress.trans (State.press_unset hn hq)) rfl
    · refine gives hused ?_ rfl
      rw [hpress, State.press_cue hn hq, State.enqueue_of_room (by exact hroom), State.levelTaken,
        State.onInput_onInput]
      rfl
    · refine exec_inputChange_due hc hused hd hs ?_
      rw [hpress, State.press_scene hn hq, State.levelTaken, State.onInput_onInput]
  · exact gives (by simp [hk]) (State.changeInput_press_inactive (s := s.tick) hc hk hl hact) rfl
  · refine gives (by simp [hk]) ?_ rfl
    exact (State.changeInput_release (s := s.tick) hc hk hl).trans (State.onInput_onInput _ _ _ _)
  · refine gives (by simp [hk]) ?_ rfl
    exact (State.changeInput_presence (s := s.tick) hc hk rfl).trans (if_neg (by exact hact))
  · refine gives (by simp [hk]) ?_ rfl
    have hkey := State.localSources_of_key (s := s.tick.levelTaken i true) hc hk
      (by simp [State.levelTaken])
    exact (State.changeInput_holdKey (s := s.tick) hc hk hl).trans
      (State.syncLocalHold_rises hkey (by exact hh))

end Sys2Proof.Machine
end

section
/-! PROOFS. Stuck buttons, the presence groups and the patience of requests (R54 to R57, R70). -/

namespace Sys2Proof.Machine

/-! ### Commands of the hall's timers -/

theorem exec_inputStuck (i : Fin 8) (s : State) :
    exec (.inputStuck i) s = act (·.stuckInputDue i) (·.markStuck i) s := rfl

theorem exec_lingerExpiry (g : Fin 4) (s : State) :
    exec (.lingerExpiry g) s = act (·.lingerDue g) (·.groupEnters g .idle 0) s := rfl

theorem exec_patienceExpiry (n : Fin 64) (s : State) :
    exec (.patienceExpiry n) s = act (·.patienceDue n) (·.expireRequest n) s := rfl

section
variable {s : State}

theorem State.stuckInputDue_iff {i : Fin 8} {c : InputCfg} (hc : s.inputCfg i = some c) :
    s.stuckInputDue i = true ↔
      s.sul.station = .active ∧ c.kind = .button ∧ (s.viu.inputs[i]).level = true ∧
        (s.viu.inputs[i]).stuck = false ∧ c.stuckLimit * 1000 < (s.viu.inputs[i]).held := by
  simp [State.stuckInputDue, hc, and_assoc]

theorem State.lingerDue_iff (g : Fin 4) :
    s.lingerDue g = true ↔ (s.viu.groups[g]).state = .linger ∧ (s.viu.groups[g]).timer = 0 := by
  simp [State.lingerDue]

/-- A queued request whose patience, set and counted down, is 0 has run out of it (R70). -/
theorem State.patienceDue_of_mem {n : Fin 64} {e : SceneEntry} {q : Request} (hq : q ∈ s.sce.queue)
    (hn : q.scene = n) (he : s.sceneEntry n = some e) (hp : 0 < e.patience) (h0 : q.patience = 0) :
    s.patienceDue n = true := by
  subst hn
  exact List.any_eq_true.2 ⟨q, hq, by simp [State.expired, he, hp, h0]⟩

/-! ### A group's presentation where no run waits -/

/-- A signal that changes nothing leaves the end of an instant as it is. -/
theorem State.finish_signal {x : Signal} (ha : s.agenda = []) (hx : s.handle x = s) :
    (s.post [x]).finish = s.atEnd := by
  have hpost : s.post [x] = { s with agenda := [x] } := by simp [State.post, ha]
  have hfuel : settleFuel = 4095 + 1 := rfl
  rw [← State.finish_atEnd ha, hpost]
  unfold State.finish
  rw [State.settle_nil _ ha, hfuel, State.settle_signal _ ha hx]

/-- A group that enters a state is all that an instant brings where no run waits (R57). -/
theorem State.finish_groupEnters {g : Fin 4} {x : GroupState} {timer : Nat} (ha : s.agenda = [])
    (hw : ∀ j, (s.slot j).state ≠ .waiting) :
    (s.groupEnters g x timer).finish =
      (s.onGroup g fun _ => { state := x, timer := timer }).atEnd := by
  refine State.finish_signal ha ?_
  rw [State.handle, State.judgeAwaits]
  exact State.meetAwaits_of_none_waiting hw

/-! ### TABLE XXIV -/

variable {g : Fin 4}

theorem State.groupArrives_silent (h : (s.groupCfg g).arrival = none) :
    s.groupArrives g = s.groupEnters g .occupied 0 := by
  simp only [State.groupArrives, h]

/-- The arrival scene is requested after the group is presented (R56, R57). -/
theorem State.groupArrives_requests {n : Fin 64} (h : (s.groupCfg g).arrival = some n) :
    s.groupArrives g =
      (s.onGroup g fun _ => { state := .occupied, timer := 0 }).post
        [.groupChanged g, .request n (.presence g)] := by
  simp only [State.groupArrives, h]
  rfl

theorem State.memberChanged_idle (h : (s.viu.groups[g]).state = .idle) (activation : Bool) :
    s.memberChanged g activation = if activation then s.groupArrives g else s := by
  cases activation <;> simp only [State.memberChanged, h] <;> rfl

theorem State.memberChanged_linger (h : (s.viu.groups[g]).state = .linger) (activation : Bool) :
    s.memberChanged g activation = if activation then s.groupEnters g .occupied 0 else s := by
  cases activation <;> simp only [State.memberChanged, h] <;> rfl

theorem State.memberChanged_occupied (h : (s.viu.groups[g]).state = .occupied) (activation : Bool) :
    s.memberChanged g activation =
      if activation = true ∨ s.memberActive g = true then s
      else
        s.groupEnters g (if (s.groupCfg g).linger = 0 then .idle else .linger) (s.groupCfg g).linger := by
  cases activation with
  | true => simp only [State.memberChanged, h, true_or, if_true]
  | false =>
    simp only [State.memberChanged, h, Bool.false_eq_true, false_or]
    split
    · rfl
    · split
      · rename_i h0
        rw [h0]
      · rfl

/-- A transition without a request, in the rows of TABLE XXIV. -/
theorem State.memberChanged_enters {now : Bool} {new : GroupState} {timer : Nat}
    (h : ((s.viu.groups[g]).state = .linger ∧ now = true ∧ new = .occupied ∧ timer = 0) ∨
      ((s.viu.groups[g]).state = .idle ∧ now = true ∧ (s.groupCfg g).arrival = none ∧
        new = .occupied ∧ timer = 0) ∨
      ((s.viu.groups[g]).state = .occupied ∧ now = false ∧ s.memberActive g = false ∧
        timer = (s.groupCfg g).linger ∧ new = if timer = 0 then .idle else .linger)) :
    s.memberChanged g now = s.groupEnters g new timer := by
  rcases h with ⟨hs, rfl, rfl, rfl⟩ | ⟨hs, rfl, ha, rfl, rfl⟩ | ⟨hs, rfl, hm, rfl, rfl⟩
  · exact State.memberChanged_linger hs true
  · exact (State.memberChanged_idle hs true).trans (State.groupArrives_silent ha)
  · rw [State.memberChanged_occupied hs, if_neg (by simp [hm])]

end

/-- Settles O21: each timer's command by its effect, and the rows of TABLE XXIV one by one. -/
theorem hallTimersAndGroups : Obligations.HallTimersAndGroups := by
  unfold Obligations.HallTimersAndGroups
  refine ⟨fun s => ⟨fun i c hc hact hk hl hstuck hlim => ?_, fun g hg ht hw => ?_,
    fun n e q hq hn he hp h0 => ?_⟩, fun s i c hc hk hd hs hact now u hnow hu => ?_, fun s g =>
    ⟨fun hg => ⟨State.memberChanged_idle hg false, fun ha => ?_, fun n ha => ?_⟩,
      fun hg => ⟨State.memberChanged_linger hg false, State.memberChanged_linger hg true⟩, fun hg => ?_⟩⟩
  · exact gives_of_act (exec_inputStuck i s)
      ((State.stuckInputDue_iff hc).2 ⟨hact, hk, hl, hstuck, hlim⟩) rfl (State.report_agenda _ _ _ _)
  · show exec _ s = _
    rw [exec_lingerExpiry, act_may ((State.lingerDue_iff g).2 ⟨hg, ht⟩)]
    exact congrArg _ (State.finish_groupEnters rfl hw)
  · exact (exec_patienceExpiry n s).trans (act_may (State.patienceDue_of_mem hq hn he hp h0))
  · have hmember : exec (.inputChange i) s = .next (u.memberChanged c.group now).finish := by
      refine exec_inputChange_due hc (by simp [hk]) hd hs ?_
      subst hnow hu
      exact (State.changeInput_presence (s := s.tick) hc hk rfl).trans (if_pos hact)
    refine ⟨hmember, fun hw old new timer hold hrow => ?_⟩
    show exec _ s = _
    subst hold hu
    rw [hmember, State.memberChanged_enters hrow]
    exact congrArg _ (State.finish_groupEnters rfl hw)
  · exact (State.memberChanged_idle hg true).trans (State.groupArrives_silent ha)
  · exact (State.memberChanged_idle hg true).trans (State.groupArrives_requests ha)
  · have h := State.memberChanged_occupied hg
    refine ⟨h true, fun hm => ?_, fun hm h0 => ?_, fun hm h0 => ?_⟩
    · rw [h false, if_pos (.inr hm)]
    · rw [h false, if_neg (by simp [hm]), if_pos h0, h0]
      rfl
    · rw [h false, if_neg (by simp [hm]), if_neg (Nat.ne_of_gt h0)]
      rfl

end Sys2Proof.Machine
end

section
/-! PROOFS. The timers and the guards of an axis (R59, R152, R155 to R157): what a guard's change, a resume and
an abort make of an axis, and that each leaves the other axes alone. -/

namespace Sys2Proof.Machine

/-! ### Writing and reporting an axis -/

section
variable (s : State) (a : Fin 4)

@[simp] theorem State.axis_post (l : List Signal) : (s.post l).axis a = s.axis a := rfl

@[simp] theorem State.axis_onLgv (f : Lgv → Lgv) : (s.onLgv f).axis a = s.axis a := rfl

@[simp] theorem State.report_axis (k : FaultKind) (n : Nat) (d : DropSort) :
    (s.report k n d).axis a = s.axis a := by
  rw [State.report_eq]
  rfl

@[simp] theorem State.report_sce (k : FaultKind) (n : Nat) (d : DropSort) :
    (s.report k n d).sce = s.sce := by
  rw [State.report_eq]

/-- A written axis is reported where its state changes (R158); nothing else is written. -/
theorem State.putAxis_eq (x : Axis) :
    s.putAxis a x =
      (s.setAxis a x).post
        (if x.state = (s.axis a).state then [] else [.axisReport a x.idle s.sce.nextAwait]) := by
  simp only [State.putAxis, State.reportIfChanged, State.reportAxis, State.axis_setAxis_self,
    State.setAxis_sce]
  split <;> rfl

theorem State.axis_putAxis_self (x : Axis) : (s.putAxis a x).axis a = x := by
  simp [State.putAxis_eq]

@[simp] theorem State.putAxis_lgv (x : Axis) : (s.putAxis a x).lgv = s.lgv := by
  simp [State.putAxis_eq]

/-- Leaving the admission line writes no axis. -/
@[simp] theorem State.axis_leaveLine (b : Fin 4) : (s.leaveLine b).axis a = s.axis a := by
  unfold State.leaveLine
  split <;> rfl

/-- An axis that has left the admission line does not stand in it (R123). -/
theorem State.not_mem_leaveLine : a ∉ (s.leaveLine a).lgv.line := by
  unfold State.leaveLine
  split
  · simp
  · assumption

/-! ### Joining the line and resuming (R123, R152, R156) -/

theorem State.axis_joinLine_self (m : Move) :
    (s.joinLine a m).axis a =
      { s.axis a with state := .waitPower, move := some m, waitTimer := 0, v := 0, stopKind := none } := by
  simp [State.joinLine, State.axis_putAxis_self]

theorem State.joinLine_line (m : Move) :
    (s.joinLine a m).lgv.line = s.lgv.line.filter (fun b => decide (b ≠ a)) ++ [a] := by
  simp [State.joinLine]

variable {s} {a}

theorem State.resume_of_not (h : (s.axis a).state ≠ .held ∨ s.held = true ∨ (s.axis a).guardClear = false) :
    s.resume a = s := by
  rcases h with h | h | h <;> simp [State.resume, h]

theorem State.resume_joins {m : Move} (hs : (s.axis a).state = .held) (hm : (s.axis a).move = some m)
    (hh : s.held = false) (hg : (s.axis a).guardClear = true) : s.resume a = s.joinLine a m := by
  simp [State.resume, hs, hm, hh, hg]

end

/-! ### One axis and the others

What another axis does writes neither this axis nor its place in the admission line, and leaves the settings,
the inputs and the hold as they are, so that the axes may be looked at one by one. -/

/-- Whatever axis `a` reads is in `t` as in `s`. -/
structure SameFor (a : Fin 4) (s t : State) : Prop where
  cfg : t.cfg = s.cfg
  viu : t.viu = s.viu
  hld : t.hld = s.hld
  axis : t.axis a = s.axis a
  line : a ∈ t.lgv.line ↔ a ∈ s.lgv.line

section
variable {a b : Fin 4} {s t u : State}

theorem SameFor.refl (a : Fin 4) (s : State) : SameFor a s s := ⟨rfl, rfl, rfl, rfl, Iff.rfl⟩

theorem SameFor.trans (h : SameFor a s t) (g : SameFor a t u) : SameFor a s u :=
  ⟨g.cfg.trans h.cfg, g.viu.trans h.viu, g.hld.trans h.hld, g.axis.trans h.axis, g.line.trans h.line⟩

theorem SameFor.axisCfg (h : SameFor a s t) : t.axisCfg a = s.axisCfg a := by
  rw [State.axisCfg, State.axisCfg, h.cfg]

theorem SameFor.held (h : SameFor a s t) : t.held = s.held := congrArg Hld.inEffect h.hld

theorem SameFor.guardActive (h : SameFor a s t) (mask : BitVec 8) :
    t.guardActive mask = s.guardActive mask := by
  have hkind : ∀ i, t.inputKind i = s.inputKind i := fun i => by
    rw [State.inputKind, State.inputKind, State.inputCfg, State.inputCfg, h.cfg]
  simp only [State.guardActive, hkind, h.viu]

/-- Writing another axis. -/
theorem State.putAxis_same (x : Axis) (h : a ≠ b) : SameFor a s (s.putAxis b x) := by
  rw [State.putAxis_eq]
  exact ⟨rfl, rfl, rfl, State.axis_setAxis_ne s x h, Iff.rfl⟩

theorem State.joinLine_same (m : Move) (h : a ≠ b) : SameFor a s (s.joinLine b m) :=
  (State.putAxis_same _ h).trans ⟨rfl, rfl, rfl, rfl, by simp [State.joinLine_line, h]⟩

theorem State.resume_same (h : a ≠ b) : SameFor a s (s.resume b) := by
  unfold State.resume
  dsimp only
  split
  · split
    · exact State.joinLine_same _ h
    · exact .refl a s
  · exact .refl a s

theorem State.clearGuard_same (h : a ≠ b) : SameFor a s (s.clearGuard b) :=
  SameFor.trans (t := s.onAxis b fun x => { x with guardClear := true })
    ⟨rfl, rfl, rfl, State.axis_setAxis_ne s _ h, Iff.rfl⟩ (State.resume_same h)

end

/-! ### A guard input's change is presented (R59, R155) -/

/-- What one axis makes of a guard input's change. -/
def State.guardStep (i : Fin 8) (activation : Bool) (a : Fin 4) (s : State) : State :=
  match s.axisCfg a with
  | some k =>
    if k.guardMask.getLsbD i.val then
      if activation then s.guardFalls a else if s.guardDue a then s.clearGuard a else s
    else s
  | none => s

theorem State.guardPresented_eq (s : State) (i : Fin 8) (activation : Bool) :
    s.guardPresented i activation = forEach allAxes (State.guardStep i activation) s := rfl

section
variable {s : State} {i : Fin 8} {a : Fin 4} {k : AxisCfg}

theorem State.guardStep_unnamed (hk : s.axisCfg a = some k) (hm : k.guardMask.getLsbD i.val = false)
    (activation : Bool) : s.guardStep i activation a = s := by
  simp only [State.guardStep, hk, hm, Bool.false_eq_true, if_false]

theorem State.guardStep_rises (hk : s.axisCfg a = some k) (hm : k.guardMask.getLsbD i.val = true) :
    s.guardStep i true a = s.guardFalls a := by
  simp only [State.guardStep, hk, hm, if_true]

theorem State.guardDue_iff (hk : s.axisCfg a = some k) :
    s.guardDue a = true ↔
      (s.axis a).guardClear = false ∧ s.guardActive k.guardMask = false ∧
        k.guardDelay ≤ (s.axis a).guardTimer := by
  simp [State.guardDue, hk, and_assoc]

/-- A guard whose delay has run is clear as soon as its last active input falls (R59). -/
theorem State.guardStep_clears (hk : s.axisCfg a = some k) (hm : k.guardMask.getLsbD i.val = true)
    (hg : (s.axis a).guardClear = false) (hact : s.guardActive k.guardMask = false)
    (ht : k.guardDelay ≤ (s.axis a).guardTimer) : s.guardStep i false a = s.clearGuard a := by
  simp only [State.guardStep, hk, hm, if_true, Bool.false_eq_true, if_false,
    (State.guardDue_iff hk).2 ⟨hg, hact, ht⟩]

/-- Any other falling guard input leaves the axis alone. -/
theorem State.guardStep_leaves (hk : s.axisCfg a = some k)
    (h : k.guardMask.getLsbD i.val = false ∨ s.guardActive k.guardMask = true ∨
      (s.axis a).guardTimer < k.guardDelay ∨ (s.axis a).guardClear = true) :
    s.guardStep i false a = s := by
  rcases h with hm | h
  · exact State.guardStep_unnamed hk hm false
  · have hdue : s.guardDue a = false := by
      rw [← Bool.not_eq_true, State.guardDue_iff hk]
      rintro ⟨hg, hact, ht⟩
      rcases h with h | h | h
      · simp [hact] at h
      · omega
      · simp [hg] at h
    simp only [State.guardStep, hk, hdue, Bool.false_eq_true, if_false, ite_self]

theorem State.guardStep_same (activation : Bool) {b : Fin 4} (h : a ≠ b) :
    SameFor a s (s.guardStep i activation b) := by
  unfold State.guardStep
  repeat' split
  · exact State.putAxis_same _ h
  · exact State.clearGuard_same h
  all_goals exact .refl a s

theorem forEach_append_cons {α : Type} (xs ys : List α) (x : α) (f : α → State → State) (s : State) :
    forEach (xs ++ x :: ys) f s = forEach ys f (f x (forEach xs f s)) := by
  simp [forEach]

theorem forEach_guardStep_same (activation : Bool) {xs : List (Fin 4)} (h : a ∉ xs) :
    SameFor a s (forEach xs (State.guardStep i activation) s) := by
  induction xs generalizing s with
  | nil => exact .refl a s
  | cons b xs ih =>
    obtain ⟨hb, hxs⟩ : a ≠ b ∧ a ∉ xs := by simpa using h
    exact (State.guardStep_same activation hb).trans (ih hxs)

/-- The presentation to all axes is, for each axis, its own step with what is the same for it before and
after. -/
theorem State.guardPresented_at (s : State) (i : Fin 8) (activation : Bool) (a : Fin 4) :
    ∃ t, SameFor a s t ∧ SameFor a (t.guardStep i activation a) (s.guardPresented i activation) := by
  obtain ⟨before, after, hsplit⟩ := List.append_of_mem (show a ∈ allAxes by fin_cases a <;> decide)
  have hnodup : (a :: (before ++ after)).Nodup := by
    rw [← List.nodup_middle, ← hsplit]
    decide
  obtain ⟨hbefore, hafter⟩ : a ∉ before ∧ a ∉ after := by simpa using (List.nodup_cons.1 hnodup).1
  refine ⟨forEach before (State.guardStep i activation) s, forEach_guardStep_same activation hbefore, ?_⟩
  rw [State.guardPresented_eq, hsplit, forEach_append_cons]
  exact forEach_guardStep_same activation hafter

/-- A guard that rises stops an axis it names, with its move kept (R155). -/
theorem State.axis_guardFalls (s : State) (a : Fin 4) :
    (s.guardFalls a).axis a =
      if (s.axis a).state = .moving ∨ (s.axis a).state = .homing then
        { s.axis a with
          state := .stopping, stopKind := some .holdGuard, guardTimer := 0, guardClear := false }
      else { s.axis a with guardTimer := 0, guardClear := false } := by
  rw [State.guardFalls, State.axis_putAxis_self]
  cases hs : (s.axis a).state <;> simp [Axis.holdGuard, hs]

/-- An axis that is not HELD, or waits for the end of hold, only takes note that its guard is clear (R155). -/
theorem State.clearGuard_notes (h : (s.axis a).state ≠ .held ∨ s.held = true) :
    s.clearGuard a = s.setAxis a { s.axis a with guardClear := true } := by
  refine State.resume_of_not ?_
  rw [State.axis_onAxis_self]
  exact h.imp_right .inl

/-- A HELD axis out of hold resumes when its guard is clear (R156). -/
theorem State.clearGuard_joins {m : Move} (hs : (s.axis a).state = .held) (hh : s.held = false)
    (hm : (s.axis a).move = some m) :
    s.clearGuard a = (s.setAxis a { s.axis a with guardClear := true }).joinLine a m := by
  have hself := s.axis_onAxis_self a fun x => { x with guardClear := true }
  exact State.resume_joins (by rw [hself]; exact hs) (by rw [hself]; exact hm) hh (by rw [hself])

end

/-! ### Commands of an axis's timers -/

theorem exec_motionStarved (a : Fin 4) (s : State) :
    exec (.motionStarved a) s = act (·.starveDue a) (·.starve a) s := rfl

theorem exec_guardClear (a : Fin 4) (s : State) :
    exec (.guardClear a) s = act (·.guardDue a) (·.clearGuard a) s := rfl

section
variable {s : State} {a : Fin 4}

theorem State.starveDue_iff {c : AxisCfg} (hc : s.axisCfg a = some c) :
    s.starveDue a = true ↔ (s.axis a).state = .waitPower ∧ c.powerWait ≤ (s.axis a).waitTimer := by
  simp [State.starveDue, hc]

theorem restState_eq (m : Option Move) : restState m = if m = some .home then .unhomed else .idle := by
  rcases m with _ | (_ | _) <;> rfl

/-- An axis at rest without its move is idle (R158). -/
theorem Axis.idle_of_rest (x : Axis) (m : Option Move) :
    Axis.idle { x with state := restState m, move := none } = true := by
  rcases m with _ | (_ | _) <;> rfl

/-- An axis that gives up its move reports itself idle and leaves the admission line (R152). -/
theorem State.starve_eq (hs : (s.axis a).state = .waitPower) :
    s.starve a =
      (((s.report .motionStarved a.val).setAxis a
        { s.axis a with state := restState (s.axis a).move, move := none }).post
          [.axisReport a true s.sce.nextAwait]).leaveLine a := by
  have hmoved : restState (s.axis a).move ≠ (s.axis a).state := by
    rw [hs, restState_eq]
    split <;> decide
  simp only [State.starve, State.putAxis_eq, State.report_axis, State.report_sce, Axis.idle_of_rest,
    if_neg hmoved]

/-! ### An abort (R157) -/

theorem State.abortAxis_moving
    (h : (s.axis a).state = .moving ∨ (s.axis a).state = .homing ∨ (s.axis a).state = .stopping) :
    (s.abortAxis a).axis a = { s.axis a with state := .stopping, stopKind := some .abort } ∧
      (s.abortAxis a).lgv = s.lgv := by
  rcases h with h | h | h <;> simp [State.abortAxis, h, State.axis_putAxis_self]

theorem State.abortAxis_waiting (h : (s.axis a).state = .waitPower ∨ (s.axis a).state = .held) :
    (s.abortAxis a).axis a = { s.axis a with state := restState (s.axis a).move, move := none } := by
  rcases h with h | h <;> simp [State.abortAxis, h, State.axis_putAxis_self]

theorem State.not_mem_abortAxis (h : (s.axis a).state = .waitPower) : a ∉ (s.abortAxis a).lgv.line := by
  simp only [State.abortAxis, h]
  exact State.not_mem_leaveLine _ a

theorem State.abortAxis_still
    (h : (s.axis a).state = .unhomed ∨ (s.axis a).state = .idle ∨ (s.axis a).state = .fault) :
    s.abortAxis a = s := by
  rcases h with h | h | h <;> simp [State.abortAxis, h]

end

/-- Settles O49: the timers' commands by their effects, and a guard's change by what each axis makes of it. -/
theorem axisTimersRunOut : Obligations.AxisTimersRunOut := by
  unfold Obligations.AxisTimersRunOut
  refine ⟨fun s a c hc => ⟨fun hs hw rest hrest => ?_, fun hg hact ht hs => ?_⟩,
    fun s i c hc hk hd hs hl => exec_inputChange_due hc (by simp [hk]) hd hs
      (State.changeInput_guard (s := s.tick) (l := false) hc hk hl),
    fun s i c hc hk hd hs hl => exec_inputChange_due hc (by simp [hk]) hd hs
      (State.changeInput_guard (s := s.tick) (l := true) hc hk hl),
    fun s i a k hk => ?_, fun s i a k hk => ?_, fun s a x hx => ?_⟩
  · subst hrest
    refine ((exec_motionStarved a s).trans (act_may ((State.starveDue_iff hc).2 ⟨hs, hw⟩))).trans ?_
    rw [State.starve_eq (s := s.tick) hs, restState_eq]
    rfl
  · exact gives_of_act (exec_guardClear a s) ((State.guardDue_iff hc).2 ⟨hg, hact, ht⟩)
      (State.clearGuard_notes (.inl hs)) rfl
  · obtain ⟨t, hst, htu⟩ := s.guardPresented_at i false a
    have hkt : t.axisCfg a = some k := hst.axisCfg.trans hk
    refine ⟨fun hno => ?_, fun hm hact ht hg => ?_⟩
    · rw [htu.axis, State.guardStep_leaves hkt (by rwa [hst.guardActive, hst.axis]), hst.axis]
    · rw [State.guardStep_clears hkt hm (by rwa [hst.axis]) (by rwa [hst.guardActive])
        (by rwa [hst.axis])] at htu
      rw [htu.axis, htu.line]
      refine ⟨fun hs => ?_, fun m hs hh hmove => ?_⟩
      · rw [State.clearGuard_notes (by rwa [hst.axis, hst.held]), State.axis_setAxis_self, hst.axis]
      · rw [State.clearGuard_joins (by rw [hst.axis]; exact hs) (by rw [hst.held]; exact hh)
          (by rw [hst.axis]; exact hmove), State.axis_joinLine_self, State.joinLine_line,
          State.axis_setAxis_self, hst.axis, ← hmove]
        exact ⟨rfl, List.mem_append_right _ (List.mem_singleton_self a)⟩
  · obtain ⟨t, hst, htu⟩ := s.guardPresented_at i true a
    have hkt : t.axisCfg a = some k := hst.axisCfg.trans hk
    rw [htu.axis, ← hst.axis]
    exact ⟨fun hm => by rw [State.guardStep_rises hkt hm, State.axis_guardFalls],
      fun hm => by rw [State.guardStep_unnamed hkt hm]⟩
  · subst hx
    refine ⟨State.resume_of_not, fun m hs hm hh hg => ?_, State.abortAxis_moving,
      fun h => ⟨?_, State.not_mem_abortAxis⟩, State.abortAxis_still⟩
    · rw [State.resume_joins hs hm hh hg, State.axis_joinLine_self, State.joinLine_line, ← hm]
      exact ⟨rfl, rfl⟩
    · rw [State.abortAxis_waiting h, restState_eq]

end Sys2Proof.Machine
end

section
/-! PROOFS. The ends of a run's states (R72 to R76): what becomes of its claims, its slot, its origin and its
successor. -/

namespace Sys2Proof.Machine

/-! ### What the claims and the wanters of a state are read from -/

/-- The runs of `t`, with their claims and what a new run takes from the state, are those of `s`. -/
structure SameRuns (s t : State) : Prop where
  slots : t.sce.slots = s.sce.slots
  claims : t.sce.claims = s.sce.claims
  nextRun : t.sce.nextRun = s.sce.nextRun
  cfg : t.cfg = s.cfg
  clk : t.clk = s.clk
  instant : t.instant = s.instant

section
variable {s t u : State}

theorem SameRuns.refl (s : State) : SameRuns s s := ⟨rfl, rfl, rfl, rfl, rfl, rfl⟩

theorem SameRuns.trans (h : SameRuns s t) (g : SameRuns t u) : SameRuns s u :=
  ⟨g.slots.trans h.slots, g.claims.trans h.claims, g.nextRun.trans h.nextRun, g.cfg.trans h.cfg,
    g.clk.trans h.clk, g.instant.trans h.instant⟩

theorem SameRuns.slot (h : SameRuns s t) (i : Fin 4) : t.slot i = s.slot i := by
  rw [State.slot, State.slot, h.slots]

theorem SameRuns.holder (h : SameRuns s t) (r : Fin 6) : t.holder r = s.holder r := by
  rw [State.holder, State.holder, h.claims]

theorem SameRuns.sceneEntry (h : SameRuns s t) (n : Fin 64) : t.sceneEntry n = s.sceneEntry n := by
  rw [State.sceneEntry, State.sceneEntry, h.cfg]

theorem SameRuns.isFree (h : SameRuns s t) (r : Fin 6) : t.isFree r = s.isFree r := by
  have hrun : t.runWants r = s.runWants r := funext fun i => by
    rw [State.runWants, State.runWants, h.slot, h.holder]
  have hsuccessor : t.successorWants r = s.successorWants r := funext fun i => by
    rw [State.successorWants, State.successorWants, h.slot]
  rw [State.isFree, State.isFree, State.wanter, State.wanter, h.holder, hrun, hsuccessor]

theorem State.report_sameRuns (s : State) (k : FaultKind) (n : Nat) (d : DropSort) :
    SameRuns s (s.report k n d) := by
  rw [State.report_eq]
  exact ⟨rfl, rfl, rfl, rfl, rfl, rfl⟩

theorem State.enqueue_sameRuns (s : State) (m : OutMsg) (o : Origin) : SameRuns s (s.enqueue m o) := by
  obtain ⟨-, h⟩ | ⟨-, h | h⟩ := s.enqueue_cases m o
  · rw [h]
    exact ⟨rfl, rfl, rfl, rfl, rfl, rfl⟩
  · rw [h]
    exact .refl s
  · rw [h]
    exact s.report_sameRuns _ _ _

/-! ### The origin of a request is told (R52, R64, R99) -/

/-- A latched START is answered, and the latch is empty again (R98, R99). -/
theorem State.told_order {l : Latch} (hl : s.sce.latch = some l) (hk : l.kind = .start) (n : Fin 64)
    (st : Fin 32) (d : Disposition) :
    s.told n (.order st) d =
      (s.onSce fun e => { e with latch := none }).enqueue
        (.answer l.sender 0x01#8 d.answer.1 d.answer.2 [BitVec.ofNat 8 n.val, d.code] false) .sce := by
  simp only [State.told, hl, hk, if_true, State.complete, State.answer]
  rfl

/-- Telling an origin touches no run. -/
theorem State.told_sameRuns (s : State) (n : Fin 64) (o : ReqOrigin) (d : Disposition) :
    SameRuns s (s.told n o d) := by
  cases o with
  | order st =>
    cases hl : s.sce.latch with
    | none => simp only [State.told, hl]; exact .refl s
    | some l =>
      by_cases hk : l.kind = .start
      · rw [State.told_order hl hk]
        exact SameRuns.trans (t := s.onSce fun e => { e with latch := none })
          ⟨rfl, rfl, rfl, rfl, rfl, rfl⟩ (State.enqueue_sameRuns _ _ _)
      · simp only [State.told, hl, if_neg hk]; exact .refl s
  | button | presence | cue | chain | opening => exact ⟨rfl, rfl, rfl, rfl, rfl, rfl⟩

theorem State.toldIf_sameRuns (s : State) (tell : Bool) (n : Fin 64) (o : ReqOrigin) (d : Disposition) :
    SameRuns s (s.toldIf tell n o d) := by
  cases tell
  · exact .refl s
  · exact s.told_sameRuns n o d

end

/-! ### Claim sets and held resources -/

theorem mem_placesOf (c : Claims) (r : Fin 6) : r ∈ placesOf c ↔ c.getLsbD r.val = true := by
  have hall : r ∈ [(0 : Fin 6), 1, 2, 3, 4, 5] := by revert r; decide
  rw [placesOf, List.mem_filter, and_iff_right hall]

theorem all_placesOf_iff (c : Claims) (p : Fin 6 → Bool) :
    (placesOf c).all p = true ↔ ∀ r : Fin 6, c.getLsbD r.val = true → p r = true := by
  simp only [List.all_eq_true, mem_placesOf]

section
variable (s : State) (i : Fin 4)

theorem State.mem_heldBy (r : Fin 6) : r ∈ s.heldBy i ↔ s.holder r = some i := by
  have hall : r ∈ [(0 : Fin 6), 1, 2, 3, 4, 5] := by revert r; decide
  rw [State.heldBy, List.mem_filter, and_iff_right hall, decide_eq_true_eq]

theorem State.heldBy_eq_nil_iff : s.heldBy i = [] ↔ ∀ r : Fin 6, s.holder r ≠ some i := by
  simp only [List.eq_nil_iff_forall_not_mem, State.mem_heldBy, ne_eq]

/-! ### A slot releases what it holds (R71, R78) -/

variable {s} {i}

/-- A run that wants a resource is in CLAIMING (R67). -/
theorem State.wanter_run {r : Fin 6} {k : Fin 4} (h : s.wanter r = some (.run k)) :
    (s.slot k).state = .claiming := by
  unfold State.wanter at h
  split at h
  · rename_i j hj
    obtain rfl : j = k := by simpa using h
    have hwants := List.find?_some hj
    simp only [State.runWants, Bool.and_eq_true, decide_eq_true_eq] at hwants
    exact hwants.1.1
  · simp at h

theorem State.holder_releaseClaim_ne {r q : Fin 6} (hq : q ≠ r) :
    (s.releaseClaim i r).holder q = s.holder q := by
  have hnone := s.holder_setClaim_ne none hq
  unfold State.releaseClaim
  dsimp only
  split
  · split
    · exact (State.holder_setClaim_ne _ _ hq).trans hnone
    · exact hnone
    · exact hnone
  · rfl

/-- A released resource passes to a run in CLAIMING at most, so not back to a slot that is not. -/
theorem State.holder_releaseClaim_self (r : Fin 6) (hi : (s.slot i).state ≠ .claiming) :
    (s.releaseClaim i r).holder r ≠ some i := by
  have hnone : (s.setClaim r none).holder r ≠ some i := by simp
  unfold State.releaseClaim
  dsimp only
  split
  · split
    · rename_i k hk
      have hki : k ≠ i := by
        rintro rfl
        exact hi (State.wanter_run (s := s.setClaim r none) hk)
      have hself := (s.setClaim r none).holder_setClaim_self r (some k)
      exact fun h => hki (Option.some.inj (hself.symm.trans h))
    · exact hnone
    · exact hnone
  · assumption

/-- A slot that is not in CLAIMING holds nothing once it has released all it held. -/
theorem State.holder_releaseAll {xs : List (Fin 6)} (hi : (s.slot i).state ≠ .claiming)
    (hx : ∀ r, s.holder r = some i → r ∈ xs) (r : Fin 6) :
    (forEach xs (fun r s => s.releaseClaim i r) s).holder r ≠ some i := by
  induction xs generalizing s with
  | nil => exact fun h => by simpa using hx r h
  | cons x xs ih =>
    refine ih (s := s.releaseClaim i x) (by rwa [State.releaseClaim_slot]) fun q hq => ?_
    have hqx : q ≠ x := fun h => State.holder_releaseClaim_self x hi (h ▸ hq)
    rw [State.holder_releaseClaim_ne hqx] at hq
    exact (List.mem_cons.1 (hx q hq)).resolve_left hqx

theorem State.slot_releaseAll (xs : List (Fin 6)) (j : Fin 4) :
    (forEach xs (fun r s => s.releaseClaim i r) s).slot j = s.slot j :=
  forEach_induct (P := fun u => u.slot j = s.slot j)
    (fun r u hu => (u.releaseClaim_slot i r j).trans hu) xs s rfl

/-! ### Free resources are mapped to a run (R73) -/

theorem State.holder_forEach_map (free : Fin 6 → Bool) (xs : List (Fin 6)) (q : Fin 6) :
    (forEach xs (fun r s => if free r then s.setClaim r (some i) else s) s).holder q =
      if q ∈ xs ∧ free q = true then some i else s.holder q := by
  induction xs generalizing s with
  | nil => simp [forEach]
  | cons x xs ih =>
    refine (ih (s := if free x then s.setClaim x (some i) else s)).trans ?_
    by_cases hqx : q = x
    · subst hqx
      cases hf : free q <;> simp
    · cases hf : free x <;> simp [hqx, State.holder_setClaim_ne]

theorem State.holder_mapFree (free : Fin 6 → Bool) (r : Fin 6) :
    (s.mapFree i free).holder r =
      if (s.slot i).claims.getLsbD r.val = true ∧ free r = true then some i else s.holder r := by
  rw [State.mapFree, State.holder_forEach_map]
  simp only [mem_placesOf]

theorem State.slot_mapFree (free : Fin 6 → Bool) (j : Fin 4) : (s.mapFree i free).slot j = s.slot j :=
  forEach_induct (P := fun u => u.slot j = s.slot j)
    (fun r u hu => by split <;> exact hu) _ s rfl

theorem State.sceneEntry_mapFree (free : Fin 6 → Bool) (n : Fin 64) :
    (s.mapFree i free).sceneEntry n = s.sceneEntry n :=
  forEach_induct (P := fun u => u.sceneEntry n = s.sceneEntry n)
    (fun r u hu => by split <;> exact hu) _ s rfl

/-! ### Scene reads are asked for (R72, R83) -/

theorem State.askPort_sce (who : Requester) (address count : Nat) :
    (s.askPort who address count).sce = s.sce := by
  unfold State.askPort
  dsimp only
  split
  · rfl
  · rw [State.arbitrate_eq]
    rfl

theorem State.askRead_sce (kind : ReadKind) (address count : Nat) :
    (s.askRead i kind address count).sce =
      (s.setSlot i { s.slot i with read := .wanted kind }).sce := by
  rw [State.askRead, State.askPort_sce]

/-- The initial read is wanted where the scene has an entry. -/
theorem State.askInitial_sce :
    (s.askInitial i).sce =
      if (s.sceneEntry (s.slot i).scene).isSome then
        (s.setSlot i { s.slot i with read := .wanted .initial }).sce
      else s.sce := by
  unfold State.askInitial
  cases s.sceneEntry (s.slot i).scene with
  | none => rfl
  | some e => exact State.askRead_sce _ _ _

theorem State.holder_askInitial (r : Fin 6) : (s.askInitial i).holder r = s.holder r := by
  rw [State.holder, State.askInitial_sce]
  split <;> rfl

theorem State.slot_askInitial_ne {j : Fin 4} (h : j ≠ i) : (s.askInitial i).slot j = s.slot j := by
  rw [State.slot, State.askInitial_sce]
  split
  · exact s.slot_setSlot_ne _ h
  · rfl

theorem State.slot_askInitial_self :
    (s.askInitial i).slot i =
      { s.slot i with
        read := if (s.sceneEntry (s.slot i).scene).isSome then .wanted .initial else (s.slot i).read } := by
  rw [State.slot, State.askInitial_sce]
  split
  · exact s.slot_setSlot_self i _
  · rfl

theorem State.slot_askRead_self (kind : ReadKind) (address count : Nat) :
    (s.askRead i kind address count).slot i = { s.slot i with read := .wanted kind } := by
  rw [State.slot, State.askRead_sce]
  exact s.slot_setSlot_self i _

/-- A run that starts again is RUNNING at scene time 0, before its first cue, its window empty (R66, R75). -/
theorem State.slot_rewind_self (s : State) (i : Fin 4) : ∃ read,
    (s.rewind i).slot i =
      { s.slot i with
        state := .running, sceneTime := 0#32, nextCue := 0, unread := 0, window := [], await := none
        stopReason := none, read := read } := by
  unfold State.rewind State.askReload
  dsimp only
  split
  · split
    · exact ⟨_, by rw [State.slot_askRead_self, State.slot_setSlot_self]⟩
    · exact ⟨_, s.slot_setSlot_self i _⟩
  · exact ⟨_, s.slot_setSlot_self i _⟩

/-! ### A run enters CLAIMING (R73) -/

section
variable (n : Fin 64) (p : Fin 4) (c : Claims) (o : ReqOrigin) (tell : Bool)

theorem State.startClaiming_eq :
    s.startClaiming i n p c o tell =
      (((s.enterRun i (s.newRun .claiming n p c o tell)).mapFree i s.isFree).askInitial i).post
        [.slotTest i] := rfl

theorem State.slot_startClaiming_self :
    (s.startClaiming i n p c o tell).slot i =
      { s.newRun .claiming n p c o tell with
        read := if (s.sceneEntry n).isSome then .wanted .initial else .none } := by
  have hrun : (s.enterRun i (s.newRun .claiming n p c o tell)).slot i = s.newRun .claiming n p c o tell :=
    s.slot_setSlot_self i _
  rw [State.startClaiming_eq, State.slot_post, State.slot_askInitial_self, State.slot_mapFree,
    State.sceneEntry_mapFree, hrun]
  rfl

theorem State.slot_startClaiming_ne {j : Fin 4} (h : j ≠ i) :
    (s.startClaiming i n p c o tell).slot j = s.slot j := by
  rw [State.startClaiming_eq, State.slot_post, State.slot_askInitial_ne h, State.slot_mapFree]
  exact s.slot_setSlot_ne _ h

/-- The wanted resources that are free are mapped to the run; no other claim changes. -/
theorem State.holder_startClaiming (r : Fin 6) :
    (s.startClaiming i n p c o tell).holder r =
      if c.getLsbD r.val = true ∧ s.isFree r = true then some i else s.holder r := by
  have hclaims : ((s.enterRun i (s.newRun .claiming n p c o tell)).slot i).claims = c :=
    congrArg Slot.claims (s.slot_setSlot_self i _)
  have hmap := (s.enterRun i (s.newRun .claiming n p c o tell)).holder_mapFree (i := i) s.isFree r
  rw [hclaims] at hmap
  exact (State.holder_askInitial r).trans hmap

end

/-! ### A slot goes FREE (R76) -/

/-- The slot is FREE with every field cleared, and what waits for that is to be tested. -/
def State.emptied (s : State) (i : Fin 4) : State :=
  (s.setSlot i Slot.clear).post [.latchTest, .restartTest, .serve]

/-- The empty slot has released what it held, and an origin still to be told is told FAILED. -/
def State.vacated (s : State) (i : Fin 4) : State :=
  (forEach (s.heldBy i) (fun r s => s.releaseClaim i r) (s.emptied i)).toldIf (s.slot i).tell
    (s.slot i).scene (s.slot i).origin .failed

theorem State.goFree_alone (h : (s.slot i).successor = none) : s.goFree i = s.vacated i := by
  simp only [State.goFree, h]
  rfl

theorem State.goFree_succeeded {u : Successor} (h : (s.slot i).successor = some u) :
    s.goFree i = (s.vacated i).startClaiming i u.scene u.priority u.claims u.origin u.tell := by
  simp only [State.goFree, h]
  rfl

theorem State.vacated_of_nothing_held (h : ∀ r : Fin 6, s.holder r ≠ some i) :
    s.vacated i =
      (s.emptied i).toldIf (s.slot i).tell (s.slot i).scene (s.slot i).origin .failed := by
  rw [State.vacated, (s.heldBy_eq_nil_iff i).2 h]
  rfl

theorem State.slot_emptied_self : (s.emptied i).slot i = Slot.clear := s.slot_setSlot_self i _

theorem State.slot_vacated_self : (s.vacated i).slot i = Slot.clear := by
  rw [State.vacated, (State.toldIf_sameRuns _ _ _ _ _).slot, State.slot_releaseAll,
    State.slot_emptied_self]

theorem State.holder_vacated (r : Fin 6) : (s.vacated i).holder r ≠ some i := by
  rw [State.vacated, (State.toldIf_sameRuns _ _ _ _ _).holder]
  refine State.holder_releaseAll (s := s.emptied i) ?_ (fun q hq => (s.mem_heldBy i q).2 hq) r
  rw [State.slot_emptied_self]
  decide

/-- A slot that held nothing and is untold goes FREE and leaves no more to do than to empty it. -/
theorem State.goFree_untold (ht : (s.slot i).tell = false) (hu : (s.slot i).successor = none)
    (hh : ∀ r : Fin 6, s.holder r ≠ some i) : s.goFree i = s.emptied i := by
  rw [State.goFree_alone hu, State.vacated_of_nothing_held hh, ht]
  rfl

/-! ### A run enters RUNNING for the first time (R72, R73) -/

theorem State.enterRunning_untold (h : (s.slot i).tell = false) :
    s.enterRunning i =
      (s.setSlot i { s.slot i with state := .running, tell := false }).post [.refillCues i, .runCues i] := by
  simp only [State.enterRunning, h, State.toldIf, Bool.false_eq_true, if_false]

theorem State.enterRunning_told (h : (s.slot i).tell = true) :
    s.enterRunning i =
      ((s.setSlot i { s.slot i with state := .running, tell := false }).told (s.slot i).scene
        (s.slot i).origin .started).post [.refillCues i, .runCues i] := by
  simp only [State.enterRunning, h, State.toldIf, if_true]

/-! ### The commands that end a state -/

theorem exec_claimingComplete (i : Fin 4) (s : State) :
    exec (.claimingComplete i) s = act (·.mayRun i) (·.enterRunning i) s := rfl

theorem exec_endingResourcesIdle (i : Fin 4) (s : State) :
    exec (.endingResourcesIdle i) s = act (·.endingIdle i) (·.endRun i) s := rfl

theorem exec_slotGoesFree (i : Fin 4) (s : State) :
    exec (.slotGoesFree i) s = act (·.stoppedOut i) (·.goFree i) s := rfl

theorem State.mayRun_iff :
    s.mayRun i = true ↔
      ((s.slot i).state = .loading ∨ (s.slot i).state = .claiming) ∧ (s.slot i).loaded = true ∧
        (∀ r : Fin 6, (s.slot i).claims.getLsbD r.val = true → s.holder r = some i) ∧ s.held = false := by
  simp only [State.mayRun, State.allMapped, Bool.and_eq_true, Bool.or_eq_true, decide_eq_true_eq,
    all_placesOf_iff, Bool.not_eq_true', and_assoc]

theorem State.endingIdle_iff :
    s.endingIdle i = true ↔
      (s.slot i).state = .ending ∧
        ∀ r : Fin 6, (s.slot i).claims.getLsbD r.val = true → s.resourceIdle r = true := by
  simp only [State.endingIdle, Bool.and_eq_true, decide_eq_true_eq, all_placesOf_iff]

theorem State.stoppedOut_iff :
    s.stoppedOut i = true ↔
      (s.slot i).state = .stopping ∧ (∀ r : Fin 6, s.holder r ≠ some i) ∧ (s.slot i).read = .none := by
  simp only [State.stoppedOut, Bool.and_eq_true, decide_eq_true_eq, List.isEmpty_iff,
    State.heldBy_eq_nil_iff, and_assoc]

theorem State.endRun_goes_free
    (h : s.loops (s.slot i).scene = false ∨ (s.slot i).stopReason ≠ none) :
    s.endRun i = s.goFree i := by
  refine if_neg ?_
  rw [Bool.and_eq_true, Option.isNone_iff_eq_none]
  rintro ⟨hl, hr⟩
  rcases h with h | h
  · simp [hl] at h
  · exact h hr

theorem State.endRun_rewinds (hl : s.loops (s.slot i).scene = true) (hr : (s.slot i).stopReason = none) :
    s.endRun i = s.rewind i := by
  simp [State.endRun, hl, hr]

end

/-- Settles O25: each command by its effect, a slot that goes FREE by what it releases and tells, and its
successor by what a run that enters CLAIMING takes. -/
theorem runStatesEnd : Obligations.RunStatesEnd := by
  unfold Obligations.RunStatesEnd
  refine ⟨fun s i ht hu => ⟨fun hs hl hc hh => ?_, fun hs hc hr => ?_, fun hs h0 hc hend => ?_,
      fun hs hidle hend => ⟨?_, ?_, ?_⟩, fun hs hidle hloop hr => ⟨?_, ?_⟩⟩,
    fun s i ht hs hl hc hh => ?_, fun s i hs hc hr base told hbase htold => ⟨?_, fun hu => ?_, fun u hu => ?_⟩,
    fun s n => ⟨fun i d => rfl, fun st l hl hk t ht => ?_⟩⟩
  · rw [exec_claimingComplete, act_may (State.mayRun_iff.2 ⟨hs, hl, hc, hh⟩),
      State.enterRunning_untold (by exact ht)]
    rfl
  · rw [exec_slotGoesFree, act_may (State.stoppedOut_iff.2 ⟨hs, hc, hr⟩),
      State.goFree_untold (s := s.tick) ht hu hc]
    rfl
  · have hidle : ∀ r : Fin 6, (s.slot i).claims.getLsbD r.val = true → s.resourceIdle r = true :=
      fun r hr => by simp [h0] at hr
    rw [exec_endingResourcesIdle, act_may (State.endingIdle_iff.2 ⟨hs, hidle⟩),
      State.endRun_goes_free (by exact hend), State.goFree_untold (s := s.tick) ht hu hc]
    rfl
  · rw [exec_endingResourcesIdle, act_may (State.endingIdle_iff.2 ⟨hs, hidle⟩),
      State.endRun_goes_free (by exact hend)]
  · rw [State.goFree_alone hu, State.slot_vacated_self]
  · rw [State.goFree_alone hu]
    exact State.holder_vacated
  · rw [exec_endingResourcesIdle, act_may (State.endingIdle_iff.2 ⟨hs, hidle⟩),
      State.endRun_rewinds (by exact hloop) (by exact hr)]
  · obtain ⟨read, hslot⟩ := s.slot_rewind_self i
    rw [hslot]
    exact ⟨rfl, rfl, rfl, rfl⟩
  · rw [exec_claimingComplete, act_may (State.mayRun_iff.2 ⟨hs, hl, hc, hh⟩),
      State.enterRunning_told (by exact ht)]
    rfl
  · rw [exec_slotGoesFree, act_may (State.stoppedOut_iff.2 ⟨hs, hc, hr⟩)]
  · rw [State.goFree_alone hu, State.vacated_of_nothing_held hc, htold, hbase]
    rfl
  · have hruns : SameRuns (s.emptied i) (s.vacated i) := by
      rw [State.vacated_of_nothing_held hc]
      exact State.toldIf_sameRuns _ _ _ _ _
    rw [State.goFree_succeeded hu, hbase]
    refine ⟨?_, List.mem_append_left _ (List.mem_singleton_self _), fun j hj => ?_, fun r => ?_⟩
    · rw [State.slot_startClaiming_self, hruns.sceneEntry, State.newRun, hruns.clk, hruns.nextRun,
        hruns.instant]
      rfl
    · rw [State.slot_startClaiming_ne _ _ _ _ _ hj, hruns.slot]
      exact s.slot_setSlot_ne _ hj
    · rw [State.holder_startClaiming, hruns.isFree, hruns.holder]
      rfl
  · subst ht
    exact ⟨State.told_order hl hk n st .started, State.told_order hl hk n st .failed⟩

end Sys2Proof.Machine
end

section
/-! PROOFS. The request queue in service order, and what a full queue does (R69). -/

namespace Sys2Proof.Machine

/-- A request stands behind the entries of its own and higher priority and before all others. -/
theorem insertRequest_splits (q : Request) : ∀ {l : List Request}, InServiceOrder l →
    ∃ before after, insertRequest q l = before ++ q :: after ∧ l = before ++ after ∧
      (∀ r ∈ before, q.priority ≤ r.priority) ∧ ∀ r ∈ after, r.priority < q.priority
  | [], _ => ⟨[], [], rfl, rfl, nofun, nofun⟩
  | x :: rest, h => by
    obtain ⟨hx, hrest⟩ := List.pairwise_cons.1 h
    by_cases hq : q.priority ≤ x.priority
    · obtain ⟨before, after, hins, hl, hbefore, hafter⟩ := insertRequest_splits q hrest
      refine ⟨x :: before, after, ?_, congrArg (x :: ·) hl, List.forall_mem_cons.2 ⟨hq, hbefore⟩, hafter⟩
      rw [insertRequest, if_pos hq, hins, List.cons_append]
    · refine ⟨[], x :: rest, if_neg hq, rfl, nofun, List.forall_mem_cons.2 ⟨not_le.1 hq, fun r hr => ?_⟩⟩
      exact lt_of_le_of_lt (hx r hr) (not_le.1 hq)

theorem insertRequest_perm (q : Request) {l : List Request} (h : InServiceOrder l) :
    (insertRequest q l).Perm (q :: l) := by
  obtain ⟨before, after, hins, rfl, -⟩ := insertRequest_splits q h
  rw [hins]
  exact List.perm_middle

theorem insertRequest_inServiceOrder (q : Request) {l : List Request} (h : InServiceOrder l) :
    InServiceOrder (insertRequest q l) := by
  obtain ⟨before, after, hins, rfl, hbefore, hafter⟩ := insertRequest_splits q h
  obtain ⟨hb, ha, hba⟩ := List.pairwise_append.1 h
  rw [hins]
  refine List.pairwise_append.2 ⟨hb, List.pairwise_cons.2 ⟨fun r hr => (hafter r hr).le, ha⟩, fun r hr => ?_⟩
  exact List.forall_mem_cons.2 ⟨hbefore r hr, hba r hr⟩

section
variable {s : State} {e : SceneEntry} {last : Request}

theorem State.join_room (n : Fin 64) (o : ReqOrigin) (h : s.sce.queue.length < 8) :
    s.join n e o =
      (s.onSce fun x =>
        { x with
          queue := insertRequest
            { scene := n, priority := e.priority, origin := o, joined := s.beats, patience := e.patience }
            x.queue }).told n o .queued := by
  simp only [State.join, h, if_true]

theorem State.join_evicts (n : Fin 64) (o : ReqOrigin) (h : s.sce.queue.length = 8)
    (hlast : s.sce.queue.getLast? = some last) (hp : last.priority < e.priority) :
    s.join n e o =
      ((s.onSce fun x =>
        { x with
          queue := insertRequest
            { scene := n, priority := e.priority, origin := o, joined := s.beats, patience := e.patience }
            x.queue.dropLast }).report .queueDrop last.scene.val .requestQueue).told n o .queued := by
  simp only [State.join, h, lt_irrefl, if_false, hlast, hp, if_true]

theorem State.join_drops (n : Fin 64) (o : ReqOrigin) (h : s.sce.queue.length = 8)
    (hlast : s.sce.queue.getLast? = some last) (hp : e.priority ≤ last.priority) :
    s.join n e o = (s.report .queueDrop n.val .requestQueue).told n o .dropped := by
  simp only [State.join, h, lt_irrefl, if_false, hlast, not_lt.2 hp]

end

/-- Settles O23: an entry goes in where the priorities fall below its own, and a full queue turns on its last
entry. -/
theorem requestQueueInServiceOrder : Obligations.RequestQueueInServiceOrder := by
  unfold Obligations.RequestQueueInServiceOrder
  refine ⟨fun q l h => ⟨insertRequest_inServiceOrder q h, insertRequest_perm q h, insertRequest_splits q h⟩,
    fun s n e o q hq => ?_⟩
  subst hq
  exact ⟨State.join_room n o, fun last hfull hlast =>
    ⟨State.join_evicts n o hfull hlast, State.join_drops n o hfull hlast⟩⟩

end Sys2Proof.Machine
end

section
/-! PROOFS. Scene reads that complete (R72, R73, R83, R175). -/

namespace Sys2Proof.Machine

theorem exec_sceneReadComplete (smin : List Byte) (s : State) :
    exec (.sceneReadComplete smin) s =
      act (·.mayComplete Requester.isInitial smin) (·.completeTransfer smin) s := rfl

theorem exec_refillReadComplete (smin : List Byte) (s : State) :
    exec (.refillReadComplete smin) s =
      act (·.mayComplete Requester.isLater smin) (·.completeTransfer smin) s := rfl

section
variable {s : State}

theorem State.inTransfer_of_busy {t : Transfer} {retried : Bool} (h : s.smp.state = .busy t retried) :
    s.inTransfer = some t := by
  simp only [State.inTransfer, h]

/-- A transfer can complete once all its bytes have come after the mark. -/
theorem State.mayComplete_of_busy {pick : Requester → Bool} {t : Transfer} {retried : Bool}
    {skipped data : List Byte} (h : s.smp.state = .busy t retried) (hp : pick t.who = true)
    (hm : dataStart ∉ skipped) (hn : t.count ≤ data.length) :
    s.mayComplete pick (skipped ++ dataStart :: data) = true := by
  simp only [State.mayComplete, State.inTransfer_of_busy h, hp, afterMark_append data hm, hn, decide_true,
    Bool.and_self]

/-- A scene read that completes hands its run the requested bytes that follow the mark, the port READY. -/
theorem State.completeTransfer_scene {i : Fin 4} {run address count at_ : Nat} {kind : ReadKind}
    {retried : Bool} {skipped data : List Byte}
    (h : s.smp.state =
      .busy { who := .scene i run kind, address := address, count := count, instant := at_ } retried)
    (hm : dataStart ∉ skipped) :
    s.completeTransfer (skipped ++ dataStart :: data) =
      s.portReady.readDone i run kind (data.take count) := by
  simp only [State.completeTransfer, State.inTransfer_of_busy h, afterMark_append data hm]

variable {i : Fin 4} {kind : ReadKind}

theorem State.readDone_initial (data : List Byte) (hs : (s.slot i).state ≠ .free)
    (hr : (s.slot i).read = .wanted kind) (hk : kind = .initial) :
    s.readDone i (s.slot i).run kind data = s.takeInitial i data := by
  subst hk
  simp [State.readDone, hs, hr]

theorem State.readDone_later (data : List Byte) (hs : (s.slot i).state ≠ .free)
    (hr : (s.slot i).read = .wanted kind) (hk : kind = .refill ∨ kind = .reload) :
    s.readDone i (s.slot i).run kind data = s.takeCues i data := by
  rcases hk with rfl | rfl <;> simp [State.readDone, hs, hr]

variable {e : SceneEntry} {data : List Byte}

/-- A header that names the scene and its cue count: the first cues are loaded (R72). -/
theorem State.takeInitial_good (he : s.sceneEntry (s.slot i).scene = some e)
    (hn : field data 0 1 = (s.slot i).scene.val) (hc : field data 1 1 = e.cueCount) :
    s.takeInitial i data =
      (s.setSlot i
        { s.slot i with
          read := .none, loaded := true, unread := min 8 e.cueCount
          window := loadCues (min 8 e.cueCount) 0 (data.drop 2) }).post [.slotTest i] := by
  simp only [State.takeInitial, he, hn, hc, decide_true, Bool.and_self, if_true]
  rfl

/-- A header that disagrees with the directory: SCENE_RECORD_BAD, and the slot goes FREE (R72). -/
theorem State.takeInitial_bad (he : s.sceneEntry (s.slot i).scene = some e)
    (h : field data 0 1 ≠ (s.slot i).scene.val ∨ field data 1 1 ≠ e.cueCount) :
    s.takeInitial i data = (s.report .sceneRecordBad (s.slot i).scene.val).goFree i := by
  have hno : (field data 0 1 = (s.slot i).scene.val && field data 1 1 = e.cueCount : Bool) = false := by
    rw [Bool.and_eq_false_iff, decide_eq_false_iff_not, decide_eq_false_iff_not]
    exact h
  simp only [State.takeInitial, he, hno, Bool.false_eq_true, if_false]

end

/-- Settles O24: the port is READY before the run takes its bytes; an initial read's header decides, a later
read's cues join the window. -/
theorem sceneReadsFillTheWindow : Obligations.SceneReadsFillTheWindow := by
  unfold Obligations.SceneReadsFillTheWindow
  intro s i kind address count at_ timer retried waiting sent skipped data hsmp hmark hcount hstate hread
    e he ready hready smin hsmin
  have hbusy : s.smp.state =
      .busy { who := .scene i (s.slot i).run kind, address := address, count := count, instant := at_ }
        retried := by rw [hsmp]
  have hport : s.tick.portReady = ready := by
    rw [hready]
    show { s.tick with smp := { s.smp with state := .ready, timer := 0 } } = _
    rw [hsmp]
  have hdone : s.tick.completeTransfer smin =
      ready.readDone i (ready.slot i).run kind (data.take count) := by
    rw [hsmin, ← hport]
    exact State.completeTransfer_scene (s := s.tick) hbusy hmark
  have hslot : ready.slot i = s.slot i := by rw [← hport]; rfl
  have hentry : ready.sceneEntry (ready.slot i).scene = some e := by rw [hslot, ← hport]; exact he
  have hmay : ∀ pick : Requester → Bool, pick (.scene i (s.slot i).run kind) = true →
      s.mayComplete pick smin = true := fun pick hp => by
    rw [hsmin]
    exact State.mayComplete_of_busy hbusy hp hmark hcount
  rw [← hslot] at hstate hread ⊢
  refine ⟨fun hk hn hc => ?_, fun hk hbad => ?_, fun hk => ?_⟩
  · rw [exec_sceneReadComplete, act_may (hmay _ (by rw [hk]; rfl)), hdone,
      State.readDone_initial _ hstate hread hk, State.takeInitial_good hentry hn hc]
  · rw [exec_sceneReadComplete, act_may (hmay _ (by rw [hk]; rfl)), hdone,
      State.readDone_initial _ hstate hread hk, State.takeInitial_bad hentry hbad]
  · rw [exec_refillReadComplete, act_may (hmay _ (by rcases hk with rfl | rfl <;> rfl)), hdone,
      State.readDone_later _ hstate hread hk]
    rfl

end Sys2Proof.Machine
end

section
/-! PROOFS. What the stop of a run touches (R76): the voices and the axes that it holds, its claims and its
own slot. -/

namespace Sys2Proof.Machine

/-! ### Rounds that each read and write one place -/

/-- After rounds over distinct places, each of which writes its own place alone, every place has had its
round. -/
theorem forEach_reads {α β : Type} [DecidableEq α] {read : State → α → β} {f : α → State → State}
    {g : α → β → β} (hself : ∀ a s, read (f a s) a = g a (read s a))
    (hne : ∀ a b s, b ≠ a → read (f a s) b = read s b) :
    ∀ {xs : List α}, xs.Nodup → ∀ (s : State) (b : α),
      read (forEach xs f s) b = if b ∈ xs then g b (read s b) else read s b
  | [], _, s, b => by simp [forEach]
  | x :: xs, hx, s, b => by
    obtain ⟨hnot, hxs⟩ := List.nodup_cons.1 hx
    show read (forEach xs f (f x s)) b = _
    rw [forEach_reads hself hne hxs]
    by_cases hb : b = x
    · subst hb
      simp [hnot, hself]
    · simp [hb, hne x b s hb]

theorem mem_allSlots (i : Fin 4) : i ∈ allSlots := by revert i; decide

theorem nodup_allSlots : allSlots.Nodup := by decide

/-! ### Clips -/

/-- What a stop of clips leaves: the runs and the axes as they were, and no more clips waiting than did. -/
structure ClipsOnly (s t : State) : Prop where
  sce : t.sce = s.sce
  mte : t.mte = s.mte
  queue : ∀ v, (t.voice v).queue.Sublist (s.voice v).queue

section
variable {s₀ s t : State}

theorem ClipsOnly.refl (s : State) : ClipsOnly s s := ⟨rfl, rfl, fun _ => .refl _⟩

theorem ClipsOnly.trans (h : ClipsOnly s₀ s) (g : ClipsOnly s t) : ClipsOnly s₀ t :=
  ⟨g.sce.trans h.sce, g.mte.trans h.mte, fun v => (g.queue v).trans (h.queue v)⟩

/-- Whatever writes no run, no axis and no voice. -/
theorem ClipsOnly.of_same (h : ClipsOnly s₀ s) (hs : t.sce = s.sce) (hm : t.mte = s.mte)
    (hn : t.nre = s.nre) : ClipsOnly s₀ t :=
  h.trans ⟨hs, hm, fun v => by cases v <;> simp only [State.voice, hn] <;> exact .refl _⟩

theorem ClipsOnly.ite {c : Prop} [Decidable c] {u : State} (ht : ClipsOnly s₀ t) (hu : ClipsOnly s₀ u) :
    ClipsOnly s₀ (if c then t else u) := by
  split
  · exact ht
  · exact hu

theorem State.post_clipsOnly (xs : List Signal) (h : ClipsOnly s₀ s) : ClipsOnly s₀ (s.post xs) :=
  h.of_same rfl rfl rfl

/-- A voice that is given no clip. -/
theorem State.setVoice_clipsOnly (v : Voice) {x : VoiceRec}
    (hx : x.queue.Sublist (s.voice v).queue) (h : ClipsOnly s₀ s) : ClipsOnly s₀ (s.setVoice v x) := by
  refine h.trans ⟨s.setVoice_sce v x, s.setVoice_mte v x, fun w => ?_⟩
  cases v <;> cases w
  · exact hx
  · exact .refl _
  · exact .refl _
  · exact hx

theorem State.onVoice_clipsOnly (v : Voice) {f : VoiceRec → VoiceRec}
    (hf : ∀ x, (f x).queue.Sublist x.queue) (h : ClipsOnly s₀ s) : ClipsOnly s₀ (s.onVoice v f) :=
  State.setVoice_clipsOnly v (hf _) h

theorem State.talking_clipsOnly (b : Bool) (h : ClipsOnly s₀ s) :
    ClipsOnly s₀ (s.onNre fun n => { n with talking := b }) :=
  h.trans ⟨rfl, rfl, fun v => by cases v <;> exact .refl _⟩

theorem State.earlyRequest_clipsOnly (h : ClipsOnly s₀ s) : ClipsOnly s₀ s.earlyRequest :=
  h.of_same rfl rfl rfl

theorem State.enqueue_clipsOnly (m : OutMsg) (o : Origin) (h : ClipsOnly s₀ s) :
    ClipsOnly s₀ (s.enqueue m o) := by
  obtain ⟨-, he⟩ | ⟨-, he | he⟩ := s.enqueue_cases m o
  · rw [he]
    exact h.of_same rfl rfl rfl
  · rw [he]
    exact h
  · rw [he, State.report_eq]
    exact h.of_same rfl rfl rfl

theorem State.askPort_clipsOnly (who : Requester) (address count : Nat) (h : ClipsOnly s₀ s) :
    ClipsOnly s₀ (s.askPort who address count) := by
  unfold State.askPort
  dsimp only
  split
  · exact State.post_clipsOnly _ h
  · rw [State.arbitrate_eq]
    exact h.of_same rfl rfl rfl

theorem State.refill_clipsOnly (v : Voice) (h : ClipsOnly s₀ s) : ClipsOnly s₀ (s.refill v) := by
  unfold State.refill
  dsimp only
  repeat' split
  all_goals first
    | exact h
    | exact State.askPort_clipsOnly _ _ _ (State.setVoice_clipsOnly v (.refl _) h)

theorem State.primeTest_clipsOnly (v : Voice) (h : ClipsOnly s₀ s) : ClipsOnly s₀ (s.primeTest v) :=
  .ite (State.setVoice_clipsOnly v (.refl _) h) h

theorem State.enterPriming_clipsOnly (v : Voice) (air : AirMark) (h : ClipsOnly s₀ s) :
    ClipsOnly s₀ (s.enterPriming v air) :=
  State.primeTest_clipsOnly v (State.refill_clipsOnly v
    (State.onVoice_clipsOnly v (fun _ => .refl _) h))

theorem State.judgeAir_clipsOnly (v : Voice) (h : ClipsOnly s₀ s) : ClipsOnly s₀ (s.judgeAir v) := by
  unfold State.judgeAir
  dsimp only
  repeat' split
  · exact h
  · exact State.enqueue_clipsOnly _ _ (State.setVoice_clipsOnly v (.refl _) h)
  · exact State.setVoice_clipsOnly v (.refl _) h
  · exact h

theorem State.startHead_clipsOnly (v : Voice) (h : ClipsOnly s₀ s) : ClipsOnly s₀ (s.startHead v) := by
  unfold State.startHead
  dsimp only
  split
  · exact State.post_clipsOnly _ (State.setVoice_clipsOnly v (.refl _) h)
  · rename_i c rest hc
    have hrest : rest.Sublist (s.voice v).queue := by
      rw [hc]
      exact List.sublist_cons_self c rest
    split
    · exact State.enterPriming_clipsOnly v _ (State.setVoice_clipsOnly v hrest h)
    · split
      · exact State.enterPriming_clipsOnly v _ (State.setVoice_clipsOnly v hrest h)
      · exact State.judgeAir_clipsOnly v (State.setVoice_clipsOnly v hrest h)

theorem State.stopCurrent_clipsOnly (v : Voice) (h : ClipsOnly s₀ s) : ClipsOnly s₀ (s.stopCurrent v) := by
  have hgate : ClipsOnly s₀
      (((s.setVoice v { s.voice v with current := none }).startHead v).post [.drained v]) :=
    State.post_clipsOnly _ (State.startHead_clipsOnly v (State.setVoice_clipsOnly v (.refl _) h))
  unfold State.stopCurrent
  dsimp only
  split
  · exact h
  · exact hgate
  · exact hgate
  · exact State.setVoice_clipsOnly v (by rw [VoiceRec.tailStop_queue]) h

theorem State.stopNext_clipsOnly (v : Voice) (h : ClipsOnly s₀ s) : ClipsOnly s₀ (s.stopNext v) := by
  unfold State.stopNext
  split
  · exact h
  · exact State.post_clipsOnly _ (State.onVoice_clipsOnly v
      (fun x => by rw [VoiceRec.dropNext_queue]) h)

theorem State.shareAir_clipsOnly (v : Voice) (h : ClipsOnly s₀ s) : ClipsOnly s₀ (s.shareAir v) := by
  unfold State.shareAir
  split
  · exact State.enterPriming_clipsOnly v _ h
  · exact State.enterPriming_clipsOnly v _ h
  · exact h

theorem State.syncTalking_clipsOnly (h : ClipsOnly s₀ s) : ClipsOnly s₀ s.syncTalking := by
  have hflag := State.earlyRequest_clipsOnly
    (State.talking_clipsOnly (s.nre.a.talks || s.nre.b.talks) h)
  exact .ite h (.ite (State.shareAir_clipsOnly _ (State.shareAir_clipsOnly _ hflag)) hflag)

/-- The clips of the run leave the voice's queue before anything else is stopped (R132). -/
theorem State.stopForRun_filters (s : State) (v : Voice) (i : Fin 4) :
    ClipsOnly (s.onVoice v fun x => { x with queue := x.queue.filter fun q => q.owner ≠ i })
      (s.stopForRun v i) := by
  have hfilter := ClipsOnly.refl
    (s.onVoice v fun x => { x with queue := x.queue.filter fun q => q.owner ≠ i })
  refine State.syncTalking_clipsOnly (.ite (State.stopCurrent_clipsOnly v ?_) ?_)
  all_goals exact .ite (State.stopNext_clipsOnly v hfilter) hfilter

theorem State.stopForRun_clipsOnly (v : Voice) (i : Fin 4) (h : ClipsOnly s₀ s) :
    ClipsOnly s₀ (s.stopForRun v i) :=
  (State.onVoice_clipsOnly v (fun _ => List.filter_sublist) h).trans (s.stopForRun_filters v i)

/-- A stop for a run leaves no clip of the run in the voice's queue. -/
theorem State.stopForRun_owner (s : State) (v : Voice) (i : Fin 4) :
    ∀ q ∈ ((s.stopForRun v i).voice v).queue, q.owner ≠ i := by
  intro q hq
  have hmem := ((s.stopForRun_filters v i).queue v).subset hq
  rw [State.voice_onVoice_self] at hmem
  simpa using (List.mem_filter.1 hmem).2

/-- Both voices are stopped for a run where it holds them: nothing but voices is touched, and no clip of the
run waits for a voice that was stopped. -/
theorem State.stopForRun_both (s : State) (i : Fin 4) (p : Voice → Prop) [DecidablePred p] {t u : State}
    (ht : t = if p .a then s.stopForRun .a i else s) (hu : u = if p .b then t.stopForRun .b i else t) :
    ClipsOnly s u ∧ ∀ v, p v → ∀ q ∈ (u.voice v).queue, q.owner ≠ i := by
  have hst : ClipsOnly s t := by
    rw [ht]
    exact .ite (State.stopForRun_clipsOnly .a i (.refl s)) (.refl s)
  have htu : ClipsOnly t u := by
    rw [hu]
    exact .ite (State.stopForRun_clipsOnly .b i (.refl t)) (.refl t)
  refine ⟨hst.trans htu, fun v hv => ?_⟩
  cases v with
  | a =>
    rw [if_pos hv] at ht
    exact fun q hq => s.stopForRun_owner .a i q (ht ▸ (htu.queue .a).subset hq)
  | b =>
    rw [if_pos hv] at hu
    rw [hu]
    exact t.stopForRun_owner .b i

end

/-! ### Aborts -/

/-- What an abort makes of an axis (R157). -/
def Axis.aborted (x : Axis) : Axis :=
  match x.state with
  | .moving => { x with state := .stopping, stopKind := some .abort }
  | .homing => { x with state := .stopping, stopKind := some .abort }
  | .stopping => { x with stopKind := some .abort }
  | .waitPower => { x with state := restState x.move, move := none }
  | .held => { x with state := restState x.move, move := none }
  | _ => x

section
variable (s : State) (a : Fin 4)

theorem State.axis_abortAxis_self : (s.abortAxis a).axis a = (s.axis a).aborted := by
  unfold State.abortAxis Axis.aborted
  dsimp only
  split <;> simp [State.axis_putAxis_self, *]

variable {s} {a}

/-- What an abort of another axis leaves: the runs, the voices, and every axis but `a`. -/
structure AxisOnly (a : Fin 4) (s t : State) : Prop where
  sce : t.sce = s.sce
  nre : t.nre = s.nre
  axis : ∀ b, b ≠ a → t.axis b = s.axis b

theorem AxisOnly.trans {t u : State} (h : AxisOnly a s t) (g : AxisOnly a t u) : AxisOnly a s u :=
  ⟨g.sce.trans h.sce, g.nre.trans h.nre, fun b hb => (g.axis b hb).trans (h.axis b hb)⟩

theorem State.setAxis_axisOnly (x : Axis) : AxisOnly a s (s.setAxis a x) :=
  ⟨rfl, rfl, fun _ hb => s.axis_setAxis_ne x hb⟩

theorem State.putAxis_axisOnly (x : Axis) : AxisOnly a s (s.putAxis a x) := by
  rw [State.putAxis_eq]
  exact (State.setAxis_axisOnly x).trans ⟨rfl, rfl, fun _ _ => rfl⟩

theorem State.leaveLine_axisOnly : AxisOnly a s (s.leaveLine a) := by
  unfold State.leaveLine
  split <;> exact ⟨rfl, rfl, fun _ _ => rfl⟩

theorem State.abortAxis_axisOnly : AxisOnly a s (s.abortAxis a) := by
  unfold State.abortAxis
  dsimp only
  split
  · exact State.putAxis_axisOnly _
  · exact State.putAxis_axisOnly _
  · exact State.setAxis_axisOnly _
  · exact (State.putAxis_axisOnly _).trans State.leaveLine_axisOnly
  · exact State.putAxis_axisOnly _
  · exact ⟨rfl, rfl, fun _ _ => rfl⟩

end

/-- The round of an axis in a stop of the resources `held`. -/
def State.abortHeld (held : List (Fin 6)) (a : Fin 4) (s : State) : State :=
  if axisPlace a ∈ held then s.abortAxis a else s

section
variable (held : List (Fin 6)) (s : State) (a : Fin 4)

theorem State.axis_abortHeld_self :
    (s.abortHeld held a).axis a = if axisPlace a ∈ held then (s.axis a).aborted else s.axis a := by
  unfold State.abortHeld
  split
  · exact s.axis_abortAxis_self a
  · rfl

theorem State.abortHeld_axisOnly : AxisOnly a s (s.abortHeld held a) := by
  unfold State.abortHeld
  split
  · exact State.abortAxis_axisOnly
  · exact ⟨rfl, rfl, fun _ _ => rfl⟩

theorem State.axis_abortAll :
    (forEach allAxes (fun b u => u.abortHeld held b) s).axis a =
      if axisPlace a ∈ held then (s.axis a).aborted else s.axis a :=
  (forEach_reads (read := State.axis) (g := fun b x => if axisPlace b ∈ held then x.aborted else x)
    (fun b u => u.axis_abortHeld_self held b) (fun b c u => (u.abortHeld_axisOnly held b).axis c)
    nodup_allSlots s a).trans (if_pos (mem_allSlots a))

theorem State.abortAll_keeps :
    (forEach allAxes (fun b u => u.abortHeld held b) s).sce = s.sce ∧
      (forEach allAxes (fun b u => u.abortHeld held b) s).nre = s.nre :=
  forEach_induct (P := fun u => u.sce = s.sce ∧ u.nre = s.nre)
    (fun b u hu => ⟨(u.abortHeld_axisOnly held b).sce.trans hu.1, (u.abortHeld_axisOnly held b).nre.trans hu.2⟩)
    _ s ⟨rfl, rfl⟩

end

/-! ### The resources of a run that stops -/

/-- What the stop of the resources of slot `i` leaves: the runs, no clip of the run where it holds the voice,
and its axes aborted (R76). -/
structure ResourcesStopped (s : State) (i : Fin 4) (t : State) : Prop where
  sce : t.sce = s.sce
  clips : ∀ v, s.holder (voicePlace v) = some i → ∀ q ∈ (t.voice v).queue, q.owner ≠ i
  axis : ∀ a, t.axis a = if s.holder (axisPlace a) = some i then (s.axis a).aborted else s.axis a

section
variable (s : State) (i : Fin 4)

theorem State.stopResources_stopped : ResourcesStopped s i (s.stopResources i) := by
  obtain ⟨hclips, howner⟩ := s.stopForRun_both i (fun v => voicePlace v ∈ s.heldBy i) rfl rfl
  generalize hu : (if voicePlace .b ∈ s.heldBy i then _ else _ : State) = u at hclips howner
  have hstop : s.stopResources i = forEach allAxes (fun b w => w.abortHeld (s.heldBy i) b) u := by
    rw [← hu]
    rfl
  obtain ⟨hsce, hnre⟩ := u.abortAll_keeps (s.heldBy i)
  rw [hstop]
  refine ⟨hsce.trans hclips.sce, fun v hv q hq => ?_, fun a => ?_⟩
  · refine howner v ((s.mem_heldBy i _).2 hv) q ?_
    cases v <;> simpa only [State.voice, hnre] using hq
  · have haxis : u.axis a = s.axis a := by rw [State.axis, State.axis, hclips.mte]
    simp only [State.axis_abortAll, State.mem_heldBy, haxis]

/-! ### What is idle is released -/

/-- A release writes the claims and the agenda alone. -/
theorem State.releaseClaim_eq (r : Fin 6) :
    s.releaseClaim i r =
      { s with
        sce := { s.sce with claims := (s.releaseClaim i r).sce.claims }
        agenda := (s.releaseClaim i r).agenda } := by
  unfold State.releaseClaim
  dsimp only
  split
  · split <;> rfl
  · rfl

/-- `t` is `s` but for its claims and its agenda. -/
abbrev ClaimsOnly (s t : State) : Prop :=
  t = { s with sce := { s.sce with claims := t.sce.claims }, agenda := t.agenda }

/-- The round of a resource in the release of what is idle. -/
def State.releaseIfIdle (i : Fin 4) (r : Fin 6) (s : State) : State :=
  if s.resourceIdle r then s.releaseClaim i r else s

theorem State.releaseIfIdle_claimsOnly (r : Fin 6) : ClaimsOnly s (s.releaseIfIdle i r) := by
  unfold State.releaseIfIdle
  split
  · exact s.releaseClaim_eq i r
  · rfl

variable {s} in
theorem ClaimsOnly.resourceIdle {t : State} (h : ClaimsOnly s t) (r : Fin 6) :
    t.resourceIdle r = s.resourceIdle r := by
  rw [h]
  rfl

variable {s} in
theorem ClaimsOnly.slot {t : State} (h : ClaimsOnly s t) (j : Fin 4) : t.slot j = s.slot j := by
  rw [h]
  rfl

variable {s} in
theorem ClaimsOnly.trans {t u : State} (h : ClaimsOnly s t) (g : ClaimsOnly t u) : ClaimsOnly s u := by
  have hu : u = { t with sce := { t.sce with claims := u.sce.claims }, agenda := u.agenda } := g
  rw [h] at hu
  exact hu

theorem State.releaseIdle_claimsOnly : ClaimsOnly s (s.releaseIdle i) :=
  forEach_induct (P := ClaimsOnly s)
    (fun r u (hu : ClaimsOnly s u) => hu.trans (u.releaseIfIdle_claimsOnly i r)) _ s rfl

variable {s} {i}

/-- What a slot that is not in CLAIMING still holds after the release, it held before, and it is not idle. -/
theorem State.holder_releaseIdle_of {xs : List (Fin 6)} (hi : (s.slot i).state ≠ .claiming)
    (hx : ∀ r, s.holder r = some i → r ∈ xs ∨ s.resourceIdle r = false) {r : Fin 6}
    (h : (forEach xs (fun r u => u.releaseIfIdle i r) s).holder r = some i) :
    s.holder r = some i ∧ s.resourceIdle r = false := by
  induction xs generalizing s with
  | nil => exact ⟨h, (hx r h).resolve_left List.not_mem_nil⟩
  | cons x xs ih =>
    have honly := s.releaseIfIdle_claimsOnly i x
    have hback : ∀ q, (s.releaseIfIdle i x).holder q = some i →
        s.holder q = some i ∧ (q = x → s.resourceIdle q = false) := by
      intro q hq
      unfold State.releaseIfIdle at hq
      split at hq
      · by_cases hqx : q = x
        · subst hqx
          exact absurd hq (State.holder_releaseClaim_self q hi)
        · exact ⟨(State.holder_releaseClaim_ne hqx).symm.trans hq, fun h => absurd h hqx⟩
      · rename_i hidle
        exact ⟨hq, fun h => by rw [h]; simpa using hidle⟩
    have hrest : ∀ q, (s.releaseIfIdle i x).holder q = some i →
        q ∈ xs ∨ (s.releaseIfIdle i x).resourceIdle q = false := by
      intro q hq
      obtain ⟨hs, hqx⟩ := hback q hq
      rw [honly.resourceIdle]
      rcases hx q hs with hm | hm
      · rcases List.mem_cons.1 hm with rfl | hm
        · exact .inr (hqx rfl)
        · exact .inl hm
      · exact .inr hm
    obtain ⟨hheld, hidle⟩ := ih (s := s.releaseIfIdle i x) (by rwa [honly.slot]) hrest h
    exact ⟨(hback r hheld).1, by rwa [honly.resourceIdle] at hidle⟩

end

/-! ### The stop of a run (R76) -/

section
variable (s : State) (i : Fin 4) (reason : StopReason)

theorem Slot.stop_eq (x : Slot) :
    x.stop reason =
      { x with
        state := .stopping, stopReason := some (x.stopReason.getD reason), await := none
        read := if x.read = .none then .none else .discard false } := by
  unfold Slot.stop
  cases x.stopReason <;> cases x.read <;> rfl

theorem RunState.stoppable_iff (x : RunState) : x.stoppable = true ↔ x ≠ .free ∧ x ≠ .stopping := by
  cases x <;> decide

variable {s} {i} {reason}

theorem State.stopRun_of_not (h : (s.slot i).state = .free ∨ (s.slot i).state = .stopping) :
    s.stopRun i reason = s := by
  rcases h with h | h <;> simp [State.stopRun, h, RunState.stoppable]

theorem State.stopRun_stops (h : (s.slot i).state.stoppable = true) :
    s.stopRun i reason =
      (((s.onSlot i (·.stop reason)).post [.slotTest i]).stopResources i).releaseIdle i := if_pos h

variable (s) (i) in
/-- Stopping resources and releasing what is idle writes no more of the Scene Engine than the claims. -/
theorem State.stopAndRelease_sce :
    ((s.stopResources i).releaseIdle i).sce =
      { s.sce with claims := ((s.stopResources i).releaseIdle i).sce.claims } := by
  rw [State.releaseIdle_claimsOnly, (s.stopResources_stopped i).sce]

variable (s) (i) in
theorem State.slot_stopAndRelease (j : Fin 4) :
    ((s.stopResources i).releaseIdle i).slot j = s.slot j := by
  rw [State.slot, State.stopAndRelease_sce]
  rfl

theorem State.slot_stopRun_ne {j : Fin 4} (h : j ≠ i) : (s.stopRun i reason).slot j = s.slot j := by
  unfold State.stopRun
  split
  · rw [State.slot_stopAndRelease, State.slot_post, State.slot_onSlot_ne _ _ h]
  · rfl

theorem State.slot_stopRun_self :
    (s.stopRun i reason).slot i =
      if (s.slot i).state.stoppable then (s.slot i).stop reason else s.slot i := by
  unfold State.stopRun
  split
  · rw [State.slot_stopAndRelease, State.slot_post, State.slot_onSlot_self]
  · rfl

theorem State.stopRun_queue : (s.stopRun i reason).sce.queue = s.sce.queue := by
  unfold State.stopRun
  split
  · rw [State.stopAndRelease_sce]
    rfl
  · rfl

/-- No clip of a stopped run waits for a voice that it holds (R76, R132). -/
theorem State.stopRun_clips (h : (s.slot i).state.stoppable = true) {v : Voice}
    (hv : s.holder (voicePlace v) = some i) : ∀ q ∈ ((s.stopRun i reason).voice v).queue, q.owner ≠ i := by
  rw [State.stopRun_stops h, State.releaseIdle_claimsOnly]
  exact (State.stopResources_stopped _ i).clips v hv

/-- The axes that a stopped run holds are aborted, the others go on (R76, R157). -/
theorem State.axis_stopRun (h : (s.slot i).state.stoppable = true) (a : Fin 4) :
    (s.stopRun i reason).axis a =
      if s.holder (axisPlace a) = some i then (s.axis a).aborted else s.axis a := by
  rw [State.stopRun_stops h, State.releaseIdle_claimsOnly]
  exact (State.stopResources_stopped _ i).axis a

/-- What a stopped run still holds, it held before, and it is not idle (R76). -/
theorem State.holder_stopRun (h : (s.slot i).state.stoppable = true) {r : Fin 6}
    (hr : (s.stopRun i reason).holder r = some i) :
    s.holder r = some i ∧ (s.stopRun i reason).resourceIdle r = false := by
  rw [State.stopRun_stops h] at hr ⊢
  have hstop := ((s.onSlot i (·.stop reason)).post [.slotTest i]).stopResources_stopped i
  generalize hu : State.stopResources _ i = u at hstop hr ⊢
  have hslot : u.slot i = (s.slot i).stop reason := by
    rw [State.slot, hstop.sce]
    exact s.slot_onSlot_self i (·.stop reason)
  have hholder : ∀ q, u.holder q = s.holder q := fun q => by
    rw [State.holder, hstop.sce]
    rfl
  obtain ⟨hheld, hidle⟩ := State.holder_releaseIdle_of (s := u) (i := i)
    (by rw [hslot, Slot.stop_eq]; exact RunState.noConfusion)
    (fun q hq => .inl ((u.mem_heldBy i q).2 hq)) hr
  rw [hholder] at hheld
  rw [(u.releaseIdle_claimsOnly i).resourceIdle]
  exact ⟨hheld, hidle⟩

end

end Sys2Proof.Machine
end

section
/-! PROOFS. Stops for a scene and for every scene, and the orders that the latch holds (R76, R77, R97 to
R99). -/

namespace Sys2Proof.Machine

section
variable {s : State}

/-! ### Telling an origin and dropping a successor (R64, R68, R77) -/

theorem State.enqueue_sce (s : State) (m : OutMsg) (o : Origin) : (s.enqueue m o).sce = s.sce :=
  (State.enqueue_clipsOnly m o (.refl s)).sce

/-- Telling an origin writes no more of the Scene Engine than the order latch (R52, R99). -/
theorem State.told_sce (s : State) (n : Fin 64) (o : ReqOrigin) (d : Disposition) :
    (s.told n o d).sce = { s.sce with latch := (s.told n o d).sce.latch } := by
  cases o with
  | order st =>
    cases hl : s.sce.latch with
    | none => simp only [State.told, hl]; rw [← hl]
    | some l =>
      by_cases hk : l.kind = .start
      · rw [State.told_order hl hk, State.enqueue_sce]
        rfl
      · simp only [State.told, hl, if_neg hk]; rw [← hl]
  | button | presence | cue | chain | opening => rfl

theorem State.toldIf_sce (s : State) (tell : Bool) (n : Fin 64) (o : ReqOrigin) (d : Disposition) :
    (s.toldIf tell n o d).sce = { s.sce with latch := (s.toldIf tell n o d).sce.latch } := by
  cases tell
  · rfl
  · exact s.told_sce n o d

theorem State.dropSuccessor_of_none {i : Fin 4} (h : (s.slot i).successor = none) :
    s.dropSuccessor i = s := by
  simp only [State.dropSuccessor, h]

theorem State.dropSuccessor_queue (s : State) (i : Fin 4) :
    (s.dropSuccessor i).sce.queue = s.sce.queue := by
  unfold State.dropSuccessor
  split
  · rfl
  · rw [State.post_sce, State.toldIf_sce]
    rfl

theorem State.slot_dropSuccessor_ne {i j : Fin 4} (h : j ≠ i) : (s.dropSuccessor i).slot j = s.slot j := by
  unfold State.dropSuccessor
  split
  · rfl
  · rw [State.slot_post, (State.toldIf_sameRuns _ _ _ _ _).slot, State.slot_onSlot_ne _ _ h]

theorem State.slot_dropSuccessor_self (s : State) (i : Fin 4) :
    (s.dropSuccessor i).slot i = { s.slot i with successor := none } := by
  cases h : (s.slot i).successor with
  | none => rw [State.dropSuccessor_of_none h, ← h]
  | some u =>
    simp only [State.dropSuccessor, h]
    rw [State.slot_post, (State.toldIf_sameRuns _ _ _ _ _).slot, State.slot_onSlot_self]

/-! ### The slot of a scene -/

theorem State.slotOf_some {n : Fin 64} {i : Fin 4} (h : s.slotOf n = some i) :
    (s.slot i).state ≠ .free ∧ (s.slot i).scene = n := by
  have hi := List.find?_some h
  rwa [Bool.and_eq_true, decide_eq_true_eq, decide_eq_true_eq] at hi

/-- Where a scene runs is read from the states and the scenes of the slots. -/
theorem State.slotOf_congr {t : State} (n : Fin 64) (hs : ∀ i, (t.slot i).state = (s.slot i).state)
    (hn : ∀ i, (t.slot i).scene = (s.slot i).scene) : t.slotOf n = s.slotOf n := by
  simp only [State.slotOf, hs, hn]

/-! ### A stop for one scene (R77) -/

/-- The entry of a scene leaves the queue, a service event, where it stood there. -/
def State.unqueued (s : State) (n : Fin 64) : State :=
  if s.sce.queue.any fun q => q.scene = n then (s.unqueue n).post [.serve] else s

/-- The round of a slot in the stop for a scene: a successor that plays it is dropped. -/
def State.dropScene (n : Fin 64) (i : Fin 4) (s : State) : State :=
  match (s.slot i).successor with
  | some u => if u.scene = n then (s.dropSuccessor i).serveFreed u.claims else s
  | none => s

/-- The slot that the round leaves. -/
def Slot.withoutSuccessor (n : Fin 64) (x : Slot) : Slot :=
  { x with successor := x.successor.filter fun u => decide (u.scene ≠ n) }

/-- Nothing of a scene waits: its entry and its successors are gone, its run goes on. -/
def State.unwaited (s : State) (n : Fin 64) : State :=
  forEach allSlots (fun i s => s.dropScene n i) (s.unqueued n)

theorem State.stopScene_in {n : Fin 64} {i : Fin 4} (reason : StopReason)
    (h : (s.unwaited n).slotOf n = some i) :
    s.stopScene n reason = (s.unwaited n).stopRun i reason := by
  unfold State.stopScene
  dsimp only
  generalize hu : forEach allSlots _ _ = u
  have hunwaited : s.unwaited n = u := hu
  rw [hunwaited] at h ⊢
  rw [h]

theorem State.stopScene_out {n : Fin 64} (reason : StopReason) (h : (s.unwaited n).slotOf n = none) :
    s.stopScene n reason = s.unwaited n := by
  unfold State.stopScene
  dsimp only
  generalize hu : forEach allSlots _ _ = u
  have hunwaited : s.unwaited n = u := hu
  rw [hunwaited] at h ⊢
  rw [h]

theorem State.serveFreed_sce (s : State) (c : Claims) : (s.serveFreed c).sce = s.sce := by
  unfold State.serveFreed
  split <;> rfl

theorem State.slot_serveFreed (s : State) (c : Claims) (j : Fin 4) : (s.serveFreed c).slot j = s.slot j := by
  rw [State.slot, State.serveFreed_sce]
  rfl

theorem State.slot_dropScene_ne (n : Fin 64) (i j : Fin 4) (s : State) (h : j ≠ i) :
    (s.dropScene n i).slot j = s.slot j := by
  unfold State.dropScene
  split
  · split
    · rw [State.slot_serveFreed, State.slot_dropSuccessor_ne h]
    · rfl
  · rfl

theorem State.slot_dropScene_self (n : Fin 64) (i : Fin 4) (s : State) :
    (s.dropScene n i).slot i = (s.slot i).withoutSuccessor n := by
  unfold State.dropScene Slot.withoutSuccessor
  cases hu : (s.slot i).successor with
  | none => simp only [Option.filter_none]; rw [← hu]
  | some u =>
    by_cases hn : u.scene = n
    · simp [hn, Option.filter, State.slot_serveFreed, State.slot_dropSuccessor_self]
    · simp only [hn, if_false, ne_eq, not_false_eq_true, decide_true, Option.filter_some, if_true]
      rw [← hu]

theorem State.slot_unwaited (s : State) (n : Fin 64) (i : Fin 4) :
    (s.unwaited n).slot i = (s.slot i).withoutSuccessor n := by
  have hqueued : (s.unqueued n).slot i = s.slot i := by
    unfold State.unqueued
    split <;> rfl
  rw [State.unwaited, forEach_reads (read := State.slot) (g := fun _ x => x.withoutSuccessor n)
    (State.slot_dropScene_self n) (State.slot_dropScene_ne n) nodup_allSlots, if_pos (mem_allSlots i),
    hqueued]

theorem State.unwaited_queue (s : State) (n : Fin 64) :
    (s.unwaited n).sce.queue = s.sce.queue.filter fun q => decide (q.scene ≠ n) := by
  have hrest : ∀ u : State,
      (forEach allSlots (fun i s => s.dropScene n i) u).sce.queue = u.sce.queue := fun u => by
    refine forEach_induct (P := fun w => w.sce.queue = u.sce.queue) (fun i w hw => ?_) _ u rfl
    unfold State.dropScene
    split
    · split
      · rw [State.serveFreed_sce, State.dropSuccessor_queue, hw]
      · exact hw
    · exact hw
  rw [State.unwaited, hrest, State.unqueued]
  split
  · rfl
  · rename_i hno
    refine (List.filter_eq_self.2 fun q hq => ?_).symm
    simp only [List.any_eq_true, not_exists, not_and, decide_eq_true_eq] at hno
    simpa using hno q hq

theorem State.slotOf_unwaited (s : State) (n m : Fin 64) : (s.unwaited n).slotOf m = s.slotOf m :=
  State.slotOf_congr m (fun i => by rw [State.slot_unwaited]; rfl) fun i => by
    rw [State.slot_unwaited]; rfl

theorem State.stopScene_queue (s : State) (n : Fin 64) (reason : StopReason) :
    (s.stopScene n reason).sce.queue = s.sce.queue.filter fun q => decide (q.scene ≠ n) := by
  cases h : (s.unwaited n).slotOf n with
  | none => rw [State.stopScene_out reason h, State.unwaited_queue]
  | some i => rw [State.stopScene_in reason h, State.stopRun_queue, State.unwaited_queue]

theorem State.slot_stopScene_self {n : Fin 64} {i : Fin 4} (reason : StopReason)
    (h : s.slotOf n = some i) :
    (s.stopScene n reason).slot i =
      if (s.slot i).state.stoppable then ((s.slot i).withoutSuccessor n).stop reason
      else (s.slot i).withoutSuccessor n := by
  rw [State.stopScene_in reason (by rwa [State.slotOf_unwaited]), State.slot_stopRun_self,
    State.slot_unwaited]
  rfl

theorem State.slot_stopScene_ne {n : Fin 64} {i : Fin 4} (reason : StopReason)
    (h : s.slotOf n ≠ some i) :
    (s.stopScene n reason).slot i = (s.slot i).withoutSuccessor n := by
  cases hj : (s.unwaited n).slotOf n with
  | none => rw [State.stopScene_out reason hj, State.slot_unwaited]
  | some j =>
    have hij : i ≠ j := by
      rintro rfl
      exact h (by rwa [State.slotOf_unwaited] at hj)
    rw [State.stopScene_in reason hj, State.slot_stopRun_ne hij, State.slot_unwaited]

/-- A stop for a scene leaves no successor that plays it, and no new one. -/
theorem State.successor_stopScene {n : Fin 64} {i : Fin 4} {reason : StopReason} {u : Successor}
    (h : ((s.stopScene n reason).slot i).successor = some u) :
    u.scene ≠ n ∧ (s.slot i).successor = some u := by
  have hwithout : ((s.slot i).withoutSuccessor n).successor = some u := by
    by_cases hi : s.slotOf n = some i
    · rw [State.slot_stopScene_self reason hi] at h
      split at h
      · exact h
      · exact h
    · rwa [State.slot_stopScene_ne reason hi] at h
  obtain ⟨hu, hscene⟩ := Option.filter_eq_some_iff.1 hwithout
  exact ⟨of_decide_eq_true hscene, hu⟩

/-- A scene that is gone has nothing to stop. -/
theorem State.stopScene_gone {n : Fin 64} (reason : StopReason) (h : s.gone n = true) :
    s.stopScene n reason = s := by
  obtain ⟨⟨hslot, hsucc⟩, hqueue⟩ :
      (s.slotOf n = none ∧ s.isSuccessor n = false) ∧ (s.sce.queue.any fun q => q.scene = n) = false := by
    simpa only [State.gone, Bool.and_eq_true, Bool.not_eq_true', Option.isNone_iff_eq_none] using h
  have hround : ∀ i, s.dropScene n i = s := fun i => by
    unfold State.dropScene
    split
    · rename_i u hu
      have hno := List.any_eq_false.1 hsucc i (mem_allSlots i)
      rw [hu] at hno
      exact if_neg (by simpa using hno)
    · rfl
  have hunwaited : s.unwaited n = s := by
    rw [State.unwaited, State.unqueued, hqueue]
    exact forEach_induct (P := (· = s)) (fun i u hu => by rw [hu, hround]) _ s rfl
  rw [State.stopScene_out reason (by rwa [State.slotOf_unwaited]), hunwaited]

/-! ### A stop for every scene (R77, R81) -/

/-- Nothing waits: the queue is empty and no slot has a successor. -/
def State.noneWaits (s : State) : State :=
  forEach allSlots (fun i s => s.dropSuccessor i) (s.onSce fun x => { x with queue := [] })

theorem State.slot_noneWaits (s : State) (i : Fin 4) :
    s.noneWaits.slot i = { s.slot i with successor := none } := by
  rw [State.noneWaits, forEach_reads (read := State.slot) (g := fun _ x => { x with successor := none })
    (fun i u => u.slot_dropSuccessor_self i) (fun _ _ _ h => State.slot_dropSuccessor_ne h)
    nodup_allSlots, if_pos (mem_allSlots i)]
  rfl

theorem State.noneWaits_queue (s : State) : s.noneWaits.sce.queue = [] :=
  forEach_induct (P := fun u => u.sce.queue = []) (fun i u hu => (u.dropSuccessor_queue i).trans hu) _ _ rfl

theorem State.stopEverything_eq (s : State) (reason : StopReason) :
    s.stopEverything reason = forEach allSlots (fun i u => u.stopRun i reason) s.noneWaits := rfl

theorem State.slot_stopEverything (s : State) (reason : StopReason) (i : Fin 4) :
    (s.stopEverything reason).slot i =
      if (s.slot i).state.stoppable then { (s.slot i).stop reason with successor := none }
      else { s.slot i with successor := none } := by
  rw [State.stopEverything_eq, forEach_reads (read := State.slot)
    (g := fun _ x => if x.state.stoppable then x.stop reason else x) (fun _ _ => State.slot_stopRun_self)
    (fun _ _ _ h => State.slot_stopRun_ne h) nodup_allSlots, if_pos (mem_allSlots i), State.slot_noneWaits]
  rfl

theorem State.stopEverything_queue (s : State) (reason : StopReason) :
    (s.stopEverything reason).sce.queue = [] := by
  rw [State.stopEverything_eq]
  exact forEach_induct (P := fun u => u.sce.queue = []) (fun i u hu => State.stopRun_queue.trans hu) _ _
    s.noneWaits_queue

/-- Where every slot is FREE and nothing waits there is nothing to stop. -/
theorem State.stopEverything_idle (reason : StopReason) (hq : s.sce.queue = [])
    (h : ∀ i, (s.slot i).state = .free ∧ (s.slot i).successor = none) : s.stopEverything reason = s := by
  have hnone : s.noneWaits = s := by
    refine forEach_induct (P := (· = s)) (fun i u hu => ?_) _ _ ?_
    · rw [hu]
      exact State.dropSuccessor_of_none (h i).2
    · show { s with sce := { s.sce with queue := [] } } = s
      rw [← hq]
  rw [State.stopEverything_eq, hnone]
  refine forEach_induct (P := (· = s)) (fun i u hu => ?_) _ s rfl
  rw [hu]
  exact State.stopRun_of_not (.inl (h i).1)

end

/-! ### An order is taken (R97, R98) -/

theorem exec_start (peer own : Byte) (ops : List Byte) (s : State) :
    exec (.start peer own ops) s = act State.inReception (·.frame peer (State.order .start own ops)) s := rfl

theorem exec_stop (peer own : Byte) (ops : List Byte) (s : State) :
    exec (.stop peer own ops) s = act State.inReception (·.frame peer (State.order .stop own ops)) s := rfl

theorem exec_stopAll (peer own : Byte) (ops : List Byte) (s : State) :
    exec (.stopAll peer own ops) s =
      act State.inReception (·.frame peer (State.order .stopAll own ops)) s := rfl

theorem exec_restart (peer own : Byte) (ops : List Byte) (s : State) :
    exec (.restart peer own ops) s =
      act State.inReception (·.frame peer (State.order .restart own ops)) s := rfl

/-- The order is in the latch (R98). -/
def State.withLatch (s : State) (kind : OrderKind) (ops : List Byte) (sender : Fin 32) : State :=
  s.onSce fun e => { e with latch := some { kind := kind, operands := ops, sender := sender } }

section
variable {s : State} {sender : Fin 32} {kind : OrderKind} {ops : List Byte} {o : Order}

/-- An order that passes the tests of R97 is latched and carried out. -/
theorem State.order_taken (h : s.TakesOrder sender) (ho : orderOf kind ops = some o) :
    s.heard.order kind (BitVec.ofNat 8 s.sul.number.val) ops sender =
      (s.heard.withLatch kind ops sender).carryOut sender o := by
  obtain ⟨-, -, hset, hlatch, hrestart, hstation, -⟩ := h
  have htarget : (BitVec.ofNat 8 s.sul.number.val).toNat = s.heard.sul.number.val := by
    rw [BitVec.toNat_ofNat]
    exact Nat.mod_eq_of_lt (lt_trans s.sul.number.isLt (by decide))
  have hbusy : s.heard.latchBusy = false := by
    show (s.sce.latch.isSome || s.sul.restarting) = false
    rw [hlatch, hrestart]
    rfl
  have hfault : (decide (s.heard.sul.station = .configFault) && !kind.inFault) = false := by
    rw [show s.heard.sul.station = s.sul.station from rfl, decide_eq_false hstation, Bool.false_and]
  have hpermitted : inSet s.heard.orderSet sender.val = true := hset
  simp only [State.order, htarget, if_true, hpermitted, State.testOrder, hbusy, hfault,
    Bool.false_eq_true, if_false, ho]
  rfl

theorem State.frame_order_taken (h : s.TakesOrder sender) (ho : orderOf kind ops = some o) :
    act State.inReception (·.frame (BitVec.ofNat 8 sender.val)
        (State.order kind (BitVec.ofNat 8 s.sul.number.val) ops)) s =
      .next ((s.heard.withLatch kind ops sender).carryOut sender o).finish := by
  obtain ⟨hrec, hpeer, -⟩ := id h
  rw [act_may (State.inReception_of_receiving hrec), State.frame_heard _ hrec hpeer,
    State.order_taken h ho]

/-! ### An order that is complete at once (R77, R98) -/

/-- The one signal of an instant is taken, and nothing more comes of it. -/
theorem State.finish_one {u w : State} {x : Signal} (ha : u.agenda = []) (hx : u.handle x = w)
    (hw : w.agenda = []) : (u.post [x]).finish = w.atEnd := by
  have hu : { u with agenda := [] } = u := by rw [← ha]
  have hfuel : settleFuel = 4095 + 1 := rfl
  have hsettle : State.settle settleFuel (u.post [x]) = w := by
    rw [hfuel]
    show State.settle 4095 (State.handle { u with agenda := [] ++ u.agenda } x) = w
    rw [ha, List.nil_append, hu, hx, State.settle_nil _ hw]
  rw [← State.finish_atEnd hw]
  unfold State.finish
  rw [hsettle, State.settle_nil _ hw]

/-- A stop that is complete is answered DONE, and the latch is empty as it was before. -/
theorem State.latchTest_done (h : s.TakesOrder sender)
    (hdone : (s.heard.withLatch kind ops sender).stopComplete = true) :
    (s.heard.withLatch kind ops sender).latchTest = s.heard.doneAnswer sender kind [] := by
  obtain ⟨-, -, -, hlatch, -, -, hroom⟩ := h
  have hempty : ((s.heard.withLatch kind ops sender).onSce fun e => { e with latch := none }) = s.heard := by
    show { s.heard with sce := { s.sce with latch := none } } = s.heard
    rw [← hlatch]
    rfl
  rw [State.latchTest, if_pos hdone]
  show (((s.heard.withLatch kind ops sender).onSce fun e => { e with latch := none }).enqueue
    (.answer sender kind.code outcomeDone reasonNone [] false) .sce) = _
  rw [hempty, State.enqueue_of_room (by exact hroom)]
  rfl

theorem State.answerRestart_room (h : s.bus.queue.length < 8) (target : Fin 32) :
    s.answerRestart target =
      s.onBus (·.place (.answer target OrderKind.restart.code outcomeDone reasonNone [] true) .sce) := by
  have hroom : s.outboundRoom = true := decide_eq_true h
  simp only [State.answerRestart, hroom, if_true, State.enqueue_of_room h]

theorem orderOf_scene (n : Fin 64) :
    orderOf .start [BitVec.ofNat 8 n.val] = some (.start n) ∧
      orderOf .stop [BitVec.ofNat 8 n.val] = some (.stop n) := by
  revert n
  decide

theorem State.stopComplete_stop {n : Fin 64} (h : s.gone n = true) :
    (s.withLatch .stop [BitVec.ofNat 8 n.val] sender).stopComplete = true := by
  show (match orderOf .stop [BitVec.ofNat 8 n.val] with
    | some (.stop n) => s.gone n
    | some .stopAll => s.allFree && s.sce.queue.isEmpty
    | _ => false) = true
  rw [(orderOf_scene n).2]
  exact h

theorem State.stopComplete_stopAll (hfree : ∀ i, (s.slot i).state = .free) (hq : s.sce.queue = []) :
    (s.withLatch .stopAll [] sender).stopComplete = true := by
  show (s.allFree && s.sce.queue.isEmpty) = true
  rw [hq]
  simp [State.allFree, hfree]

end

/-- Settles O34: each order by what carrying it out is, a stopped run by what it touches, and the stops for a
scene and for every scene slot by slot. -/
theorem ordersHeldByTheLatch : Obligations.OrdersHeldByTheLatch := by
  unfold Obligations.OrdersHeldByTheLatch
  refine ⟨fun s sender htakes own peer hown hpeer latched hlatched => ?_, fun s i reason => ⟨?_, ?_⟩,
    fun s reason => ⟨fun n => ⟨?_, ?_, ?_, ?_⟩, s.stopEverything_queue reason, fun i => ⟨?_, ?_, ?_⟩⟩⟩
  · subst hown hpeer
    have hlatched : ∀ k ops, latched k ops = s.heard.withLatch k ops sender := hlatched
    simp only [hlatched]
    obtain ⟨hstart, hstop⟩ : (∀ n : Fin 64, orderOf .start [BitVec.ofNat 8 n.val] = some (.start n)) ∧
      ∀ n : Fin 64, orderOf .stop [BitVec.ofNat 8 n.val] = some (.stop n) :=
        ⟨fun n => (orderOf_scene n).1, fun n => (orderOf_scene n).2⟩
    have hquiet : ∀ k ops, (s.heard.withLatch k ops sender).agenda = [] := fun _ _ => rfl
    refine ⟨fun n => ?_, fun n => ⟨?_, fun hgone => ?_⟩, ⟨?_, fun hfree hq => ?_⟩, ?_⟩
    · rw [exec_start, State.frame_order_taken htakes (hstart n)]
      rfl
    · rw [exec_stop, State.frame_order_taken htakes (hstop n)]
      rfl
    · show exec _ s = _
      rw [exec_stop, State.frame_order_taken htakes (hstop n), State.carryOut,
        State.stopScene_gone .order (by exact hgone),
        State.finish_one (x := .latchTest) (hquiet _ _) (State.latchTest_done htakes (State.stopComplete_stop hgone)) rfl]
    · rw [exec_stopAll, State.frame_order_taken htakes rfl]
      rfl
    · show exec _ s = _
      rw [exec_stopAll, State.frame_order_taken htakes rfl, State.carryOut,
        State.stopEverything_idle .all (by exact hq) (by exact hfree),
        State.finish_one (x := .latchTest) (hquiet _ _)
          (State.latchTest_done htakes (State.stopComplete_stopAll (fun i => (hfree i).1) hq)) rfl]
    · obtain ⟨-, -, -, -, -, -, hroom⟩ := id htakes
      show exec _ s = _
      rw [exec_restart, State.frame_order_taken htakes rfl, State.carryOut,
        State.answerRestart_room (by exact hroom), State.finish_atEnd rfl]
  · exact State.stopRun_of_not
  · intro hfree hstopping
    have hstop : (s.slot i).state.stoppable = true := (RunState.stoppable_iff _).2 ⟨hfree, hstopping⟩
    refine ⟨?_, fun j hj => State.slot_stopRun_ne hj, fun v hv => State.stopRun_clips hstop hv,
      fun a ha => ?_, fun a ha => ?_, fun r hr => State.holder_stopRun hstop hr⟩
    · rw [State.slot_stopRun_self, if_pos hstop, Slot.stop_eq]
    · rw [State.axis_stopRun hstop, if_pos ha, State.axis_abortAxis_self]
    · rw [State.axis_stopRun hstop, if_neg ha]
  · exact s.stopScene_queue n reason
  · exact fun i u hu => State.successor_stopScene hu
  · intro i hi hs
    have hstop : (s.slot i).state.stoppable = true :=
      (RunState.stoppable_iff _).2 ⟨(State.slotOf_some hi).1, hs⟩
    rw [State.slot_stopScene_self reason hi, if_pos hstop, Slot.stop_eq]
    exact ⟨rfl, rfl⟩
  · intro i hi
    rw [State.slot_stopScene_ne reason hi]
    rfl
  · rw [State.slot_stopEverything]
    split <;> rfl
  · intro hfree
    rw [State.slot_stopEverything, hfree]
    exact hfree
  · intro hfree
    rw [State.slot_stopEverything]
    split
    · rw [Slot.stop_eq]
    · rename_i hno
      exact not_not.1 fun hs => hno ((RunState.stoppable_iff _).2 ⟨hfree, hs⟩)

end Sys2Proof.Machine
end

section
/-! PROOFS. Where a request finds its place (R67, R68): which resources are free, the slot that is FREE, and
the slot that is chosen before the others. -/

namespace Sys2Proof.Machine

/-! ### The lowest slot -/

theorem find?_allSlots_eq_some_iff {p : Fin 4 → Bool} {i : Fin 4} :
    allSlots.find? p = some i ↔ p i = true ∧ ∀ j, j < i → p j = false := by
  have hfour : ∀ (a b c d : Bool) (i : Fin 4),
      allSlots.find? (![a, b, c, d] ·) = some i ↔
        ![a, b, c, d] i = true ∧ ∀ j, j < i → ![a, b, c, d] j = false := by decide
  have hp : p = ![p 0, p 1, p 2, p 3] := by funext j; fin_cases j <;> rfl
  rw [hp]
  exact hfour (p 0) (p 1) (p 2) (p 3) i

theorem find?_allSlots_eq_none_iff {p : Fin 4 → Bool} : allSlots.find? p = none ↔ ∀ i, p i = false := by
  simp [mem_allSlots]

section
variable {s : State}

theorem State.freeSlot_eq_some_iff {i : Fin 4} :
    s.freeSlot = some i ↔ (s.slot i).state = .free ∧ ∀ j, j < i → (s.slot j).state ≠ .free := by
  simp only [State.freeSlot, find?_allSlots_eq_some_iff, decide_eq_true_eq, decide_eq_false_iff_not, ne_eq]

theorem State.freeSlot_eq_none_iff : s.freeSlot = none ↔ ∀ i, (s.slot i).state ≠ .free := by
  simp only [State.freeSlot, find?_allSlots_eq_none_iff, decide_eq_false_iff_not, ne_eq]

/-! ### Free resources (R67) -/

theorem State.successorWants_eq_false_iff {r : Fin 6} {i : Fin 4} :
    s.successorWants r i = false ↔
      ∀ u, (s.slot i).successor = some u → u.claims.getLsbD r.val = false := by
  unfold State.successorWants
  cases (s.slot i).successor <;> simp

theorem State.wanter_eq_none_iff {r : Fin 6} :
    s.wanter r = none ↔ ∀ i, s.runWants r i = false ∧ s.successorWants r i = false := by
  unfold State.wanter
  split
  · rename_i i hi
    have hwants := List.find?_some hi
    exact ⟨nofun, fun h => by rw [(h i).1] at hwants; exact nomatch hwants⟩
  · rename_i hrun
    rw [Option.map_eq_none_iff, find?_allSlots_eq_none_iff]
    exact ⟨fun h i => ⟨find?_allSlots_eq_none_iff.1 hrun i, h i⟩, fun h i => (h i).2⟩

/-- A resource that no slot holds is wanted by a run in CLAIMING whenever that run has it among its claims. -/
theorem State.runWants_eq_false_iff {r : Fin 6} {i : Fin 4} (h : s.holder r = none) :
    s.runWants r i = false ↔ ((s.slot i).state = .claiming → (s.slot i).claims.getLsbD r.val = false) := by
  simp [State.runWants, h]

theorem State.isFree_iff (r : Fin 6) :
    s.isFree r = true ↔ s.holder r = none ∧
      ∀ j, ((s.slot j).state = .claiming → (s.slot j).claims.getLsbD r.val = false) ∧
        ∀ u, (s.slot j).successor = some u → u.claims.getLsbD r.val = false := by
  rw [State.isFree, Bool.and_eq_true, Option.isNone_iff_eq_none, Option.isNone_iff_eq_none,
    State.wanter_eq_none_iff]
  refine and_congr_right fun h => forall_congr' fun i => ?_
  rw [State.runWants_eq_false_iff h, State.successorWants_eq_false_iff]

/-! ### The place of a request that pre-empts or succeeds (R68) -/

theorem State.placeBefore_iff {i j : Fin 4} :
    s.placeBefore i j = true ↔
      (s.slot i).priority.val < (s.slot j).priority.val ∨
        (s.slot i).priority.val = (s.slot j).priority.val ∧
          ((s.slot j).leftFree < (s.slot i).leftFree ∨
            (s.slot i).leftFree = (s.slot j).leftFree ∧ j.val < i.val) := by
  simp only [State.placeBefore, Bool.or_eq_true, Bool.and_eq_true, decide_eq_true_eq, Fin.lt_def,
    Fin.ext_iff]

theorem State.placeBefore_trans {i j k : Fin 4} (hij : s.placeBefore i j = true)
    (hjk : s.placeBefore j k = true) : s.placeBefore i k = true := by
  rw [State.placeBefore_iff] at *
  omega

theorem State.placeBefore_total {i j : Fin 4} (h : s.placeBefore i j = false) :
    i = j ∨ s.placeBefore j i = true := by
  rw [← Bool.not_eq_true, State.placeBefore_iff] at h
  rw [State.placeBefore_iff, Fin.ext_iff]
  omega

/-- The best place of a list is in it, and before every other slot of it. -/
theorem State.bestPlace_best {m : Fin 4} : ∀ {l : List (Fin 4)}, s.bestPlace l = some m →
    m ∈ l ∧ ∀ j ∈ l, j = m ∨ s.placeBefore m j = true
  | [], h => nomatch h
  | i :: rest, h => by
    unfold State.bestPlace at h
    cases hrest : s.bestPlace rest with
    | none =>
      rw [hrest] at h
      have hnil : rest = [] := by
        cases rest with
        | nil => rfl
        | cons k rest =>
          simp only [State.bestPlace] at hrest
          split at hrest
          · exact nomatch hrest
          · split at hrest <;> exact nomatch hrest
      obtain rfl : i = m := Option.some.inj h
      subst hnil
      exact ⟨List.mem_singleton_self i, fun j hj => .inl (List.mem_singleton.1 hj)⟩
    | some k =>
      rw [hrest] at h
      obtain ⟨hk, hbest⟩ := State.bestPlace_best hrest
      cases hik : s.placeBefore i k with
      | true =>
        obtain rfl : i = m := by simpa [hik] using h
        refine ⟨List.mem_cons_self, fun j hj => ?_⟩
        rcases List.mem_cons.1 hj with rfl | hj
        · exact .inl rfl
        · rcases hbest j hj with rfl | hkj
          · exact .inr hik
          · exact .inr (State.placeBefore_trans hik hkj)
      | false =>
        obtain rfl : k = m := by simpa [hik] using h
        refine ⟨List.mem_cons_of_mem i hk, fun j hj => ?_⟩
        rcases List.mem_cons.1 hj with rfl | hj
        · exact State.placeBefore_total hik
        · exact hbest j hj

/-- The place is the lowest FREE slot, else the lowest in STOPPING without successor, else the slot of lowest
priority below the request's, the latest out of FREE, the highest. -/
theorem State.placeFor_cases {k i : Fin 4} (h : s.placeFor k = some i) :
    ((s.slot i).state = .free ∧ ∀ j, (s.slot j).state = .free → i ≤ j) ∨
    ((∀ j, (s.slot j).state ≠ .free) ∧ (s.slot i).state = .stopping ∧ (s.slot i).successor = none ∧
      ∀ j, (s.slot j).state = .stopping → (s.slot j).successor = none → i ≤ j) ∨
    ((∀ j, (s.slot j).state ≠ .free) ∧
      (∀ j, (s.slot j).state = .stopping → (s.slot j).successor ≠ none) ∧
      (s.slot i).state ≠ .stopping ∧ (s.slot i).priority < k ∧
      ∀ j, (s.slot j).state ≠ .stopping → (s.slot j).priority < k →
        (s.slot i).priority ≤ (s.slot j).priority ∧
        ((s.slot i).priority = (s.slot j).priority → (s.slot j).leftFree ≤ (s.slot i).leftFree ∧
          ((s.slot j).leftFree = (s.slot i).leftFree → j ≤ i))) := by
  unfold State.placeFor at h
  split at h
  · rename_i f hf
    obtain rfl := Option.some.inj h
    obtain ⟨hfree, hlow⟩ := State.freeSlot_eq_some_iff.1 hf
    exact .inl ⟨hfree, fun j hj => not_lt.1 fun hji => hlow j hji hj⟩
  · rename_i hnone
    have hfull := State.freeSlot_eq_none_iff.1 hnone
    split at h
    · rename_i f hf
      obtain rfl := Option.some.inj h
      simp only [find?_allSlots_eq_some_iff, Bool.and_eq_true, decide_eq_true_eq,
        Option.isNone_iff_eq_none] at hf
      obtain ⟨⟨hstopping, hsucc⟩, hlow⟩ := hf
      refine .inr (.inl ⟨hfull, hstopping, hsucc, fun j hj hju => not_lt.1 fun hji => ?_⟩)
      have hno := hlow j hji
      rw [hj, hju] at hno
      exact nomatch hno
    · rename_i hno
      rw [find?_allSlots_eq_none_iff] at hno
      obtain ⟨hi, hbest⟩ := State.bestPlace_best h
      have hmem : ∀ j, j ∈ allSlots.filter (fun i => (s.slot i).state.stoppable && (s.slot i).priority < k) ↔
          (s.slot j).state ≠ .stopping ∧ (s.slot j).priority < k := fun j => by
        rw [List.mem_filter, and_iff_right (mem_allSlots j), Bool.and_eq_true, decide_eq_true_eq,
          RunState.stoppable_iff, and_iff_right (hfull j)]
      obtain ⟨hstopping, hprio⟩ := (hmem i).1 hi
      refine .inr (.inr ⟨hfull, fun j hj hju => ?_, hstopping, hprio, fun j hj hjk => ?_⟩)
      · have hnot := hno j
        rw [hj, hju] at hnot
        exact nomatch hnot
      · rcases hbest j ((hmem j).2 ⟨hj, hjk⟩) with rfl | hbefore
        · exact ⟨le_rfl, fun _ => ⟨le_rfl, fun _ => le_rfl⟩⟩
        · rw [State.placeBefore_iff] at hbefore
          simp only [Fin.le_def, Fin.ext_iff]
          omega

end

end Sys2Proof.Machine
end

section
/-! PROOFS. The disposition of scene requests (R64 to R71): the first test that fits, a restart in place, a run
that starts in LOADING, pre-emption and succession, and the service of the queue. -/

namespace Sys2Proof.Machine

section
variable {s : State} {n : Fin 64} {o : ReqOrigin} {e : SceneEntry} {i : Fin 4}

/-! ### The first test that fits (R64 to R66) -/

theorem State.dispose_hidden (h : s.sul.station.runsShow = false) :
    s.dispose n o = s.told n o .refused := by
  simp only [State.dispose, h, Bool.not_false, if_true]

theorem State.dispose_absent (h : s.sul.station.runsShow = true) (he : s.sceneEntry n = none) :
    s.dispose n o = (if o.isOrder = true then s else s.report .cueInvalid n.val).told n o .refused := by
  simp only [State.dispose, h, he, Bool.not_true, Bool.false_eq_true, if_false]

theorem State.dispose_in_slot (h : s.sul.station.runsShow = true) (he : s.sceneEntry n = some e)
    (hi : s.slotOf n = some i) : s.dispose n o = s.disposeInSlot i n e.lockout o := by
  simp only [State.dispose, h, he, hi, Bool.not_true, Bool.false_eq_true, if_false]

theorem State.dispose_successor (h : s.sul.station.runsShow = true) (he : s.sceneEntry n = some e)
    (hi : s.slotOf n = none) (hu : s.isSuccessor n = true) :
    s.dispose n o = s.told n o (waitingOutcome e.lockout) := by
  simp only [State.dispose, h, he, hi, hu, Bool.not_true, Bool.false_eq_true, if_false, if_true]

theorem State.dispose_queued (h : s.sul.station.runsShow = true) (he : s.sceneEntry n = some e)
    (hi : s.slotOf n = none) (hu : s.isSuccessor n = false) {q : Request} (hq : q ∈ s.sce.queue)
    (hn : q.scene = n) :
    s.dispose n o =
      (s.onSce fun x =>
        { x with
          queue := x.queue.map fun r => if r.scene = n then { r with origin := o } else r }).told n o
        .merged := by
  have hany : (s.sce.queue.any fun q => q.scene = n) = true :=
    List.any_eq_true.2 ⟨q, hq, decide_eq_true hn⟩
  simp only [State.dispose, h, he, hi, hu, hany, Bool.not_true, Bool.false_eq_true, if_false, if_true]
  rfl

theorem State.dispose_new (h : s.sul.station.runsShow = true) (he : s.sceneEntry n = some e)
    (hi : s.slotOf n = none) (hu : s.isSuccessor n = false) (hq : ∀ q ∈ s.sce.queue, q.scene ≠ n) :
    s.dispose n o = s.disposeNew n e o := by
  have hany : (s.sce.queue.any fun q => q.scene = n) = false :=
    List.any_eq_false.2 fun q hm => by simpa using hq q hm
  simp only [State.dispose, h, he, hi, hu, hany, Bool.not_true, Bool.false_eq_true, if_false]

theorem State.disposeInSlot_stopping (lockout : Nat) (h : (s.slot i).state = .stopping) :
    s.disposeInSlot i n lockout o = s.told n o .ignored := by
  simp only [State.disposeInSlot, h]

theorem State.disposeInSlot_waits (lockout : Nat)
    (h : (s.slot i).state = .loading ∨ (s.slot i).state = .claiming) :
    s.disposeInSlot i n lockout o = s.told n o (waitingOutcome lockout) := by
  rcases h with h | h <;> simp only [State.disposeInSlot, h]

theorem State.disposeInSlot_begun (lockout : Nat)
    (h : (s.slot i).state = .running ∨ (s.slot i).state = .waiting ∨ (s.slot i).state = .ending) :
    s.disposeInSlot i n lockout o =
      if (s.slot i).sceneTime.toNat < lockout then s.told n o .ignored
      else (s.restartInPlace i).told n o .restarted := by
  rcases h with h | h | h <;> simp only [State.disposeInSlot, h]

/-! ### Restart in place (R66) -/

/-- What the work for one run leaves: every other slot, the claims and the axes. -/
structure SlotOnly (i : Fin 4) (s t : State) : Prop where
  slot : ∀ j, j ≠ i → t.slot j = s.slot j
  claims : t.sce.claims = s.sce.claims
  mte : t.mte = s.mte

theorem SlotOnly.trans {t u : State} (h : SlotOnly i s t) (g : SlotOnly i t u) : SlotOnly i s u :=
  ⟨fun j hj => (g.slot j hj).trans (h.slot j hj), g.claims.trans h.claims, g.mte.trans h.mte⟩

theorem State.setSlot_slotOnly (x : Slot) : SlotOnly i s (s.setSlot i x) :=
  ⟨fun _ hj => s.slot_setSlot_ne x hj, rfl, rfl⟩

theorem State.askRead_slotOnly (kind : ReadKind) (address count : Nat) :
    SlotOnly i s (s.askRead i kind address count) :=
  have hport := State.askPort_clipsOnly (.scene i (s.slot i).run kind) (address % addressSpace) count
    (.refl (s.setSlot i { s.slot i with read := .wanted kind }))
  (State.setSlot_slotOnly _).trans
    ⟨fun j _ => by rw [State.slot, State.askRead, hport.sce]; rfl, congrArg Sce.claims hport.sce, hport.mte⟩

theorem State.rewind_slotOnly : SlotOnly i s (s.rewind i) := by
  unfold State.rewind State.askReload
  dsimp only
  split
  · split
    · exact (State.setSlot_slotOnly _).trans (State.askRead_slotOnly _ _ _)
    · exact State.setSlot_slotOnly _
  · exact State.setSlot_slotOnly _

/-- The run asks for its reload read at once, or when the read in flight has ended (R66, R83). -/
theorem State.slot_rewind_entry (he : s.sceneEntry (s.slot i).scene = some e) :
    (s.rewind i).slot i =
      { s.slot i with
        state := .running, sceneTime := 0#32, nextCue := 0, unread := 0, window := [], await := none
        stopReason := none
        read := if (s.slot i).read = .none then .wanted .reload else .discard true } := by
  unfold State.rewind
  dsimp only
  split
  · rename_i hread
    rw [State.askReload, State.slot_setSlot_self]
    have hentry : (s.setSlot i
        { s.slot i with
          state := .running, sceneTime := 0#32, nextCue := 0, unread := 0, window := [], await := none
          stopReason := none }).sceneEntry (s.slot i).scene = some e := he
    simp only [hentry]
    rw [State.slot_askRead_self, State.slot_setSlot_self, hread, if_pos rfl]
  · rename_i hread
    rw [State.slot_setSlot_self, if_neg hread]

theorem State.restartInPlace_clips (s : State) (i : Fin 4) :
    ClipsOnly (s.rewind i) (s.restartInPlace i) ∧
      ∀ v, (s.slot i).claims.getLsbD (voicePlace v).val = true →
        ∀ q ∈ ((s.restartInPlace i).voice v).queue, q.owner ≠ i :=
  (s.rewind i).stopForRun_both i (fun v => (s.slot i).claims.getLsbD (voicePlace v).val = true) rfl rfl

/-- Restart in place rewinds the run and stops its clips; nothing else of the runs or the axes changes. -/
theorem State.restartInPlace_slotOnly : SlotOnly i s (s.restartInPlace i) := by
  obtain ⟨hclips, -⟩ := s.restartInPlace_clips i
  refine State.rewind_slotOnly.trans ⟨fun j _ => ?_, congrArg Sce.claims hclips.sce, hclips.mte⟩
  rw [State.slot, hclips.sce]
  rfl

theorem State.slot_restartInPlace (s : State) (i : Fin 4) :
    (s.restartInPlace i).slot i = (s.rewind i).slot i := by
  rw [State.slot, (s.restartInPlace_clips i).1.sce]
  rfl

/-! ### A scene in no slot and no queue entry (R67, R68) -/

theorem State.blocked_iff {p : Fin 4} {c : Claims} :
    s.blocked p c = true ↔ ∃ q ∈ s.sce.queue, p ≤ q.priority ∧
      ∃ f, s.sceneEntry q.scene = some f ∧ c &&& f.claims ≠ 0#6 := by
  simp only [State.blocked, List.any_eq_true, Bool.and_eq_true, decide_eq_true_eq]
  refine exists_congr fun q => and_congr_right fun _ => and_congr_right fun _ => ?_
  cases s.sceneEntry q.scene <;> simp [shares]

/-- The claims are free, and so is a slot. -/
theorem State.startsIn_free {c : Claims} (hi : s.freeSlot = some i)
    (hr : ∀ r : Fin 6, c.getLsbD r.val = true → s.isFree r = true) : s.startsIn false c = some i := by
  have hall : (placesOf c).all s.isFree = true := (all_placesOf_iff c s.isFree).2 hr
  simp only [State.startsIn, hall, Bool.not_false, Bool.and_self, if_true, hi]

/-- A claim is not free, or no slot is. -/
theorem State.startsIn_none {c : Claims} {b : Bool}
    (h : (∃ r : Fin 6, c.getLsbD r.val = true ∧ s.isFree r = false) ∨ ∀ j, (s.slot j).state ≠ .free) :
    s.startsIn b c = none := by
  rcases h with ⟨r, hr, hf⟩ | hfull
  · have hall : (placesOf c).all s.isFree = false :=
      List.all_eq_false.2 ⟨r, (mem_placesOf c r).2 hr, by rw [hf]; exact Bool.false_ne_true⟩
    simp only [State.startsIn, hall, Bool.and_false, Bool.false_eq_true, if_false]
  · rw [State.startsIn, State.freeSlot_eq_none_iff.2 hfull, ite_self]

theorem State.preemptsIn_place (h : ∀ w ∈ s.contenders e.claims, s.contenderPriority w < e.priority.val)
    (hi : s.placeFor e.priority = some i) : s.preemptsIn false e = some i := by
  have hall : ((s.contenders e.claims).all fun w => s.contenderPriority w < e.priority.val) = true :=
    List.all_eq_true.2 fun w hw => decide_eq_true (h w hw)
  simp only [State.preemptsIn, hall, Bool.not_false, Bool.and_self, if_true, hi]

theorem State.preemptsIn_none {b : Bool}
    (h : (∃ w ∈ s.contenders e.claims, e.priority.val ≤ s.contenderPriority w) ∨
      s.placeFor e.priority = none) : s.preemptsIn b e = none := by
  rcases h with ⟨w, hw, hp⟩ | hnone
  · have hall : ((s.contenders e.claims).all fun w => s.contenderPriority w < e.priority.val) = false :=
      List.all_eq_false.2 ⟨w, hw, by simpa using hp⟩
    simp only [State.preemptsIn, hall, Bool.and_false, Bool.false_eq_true, if_false]
  · rw [State.preemptsIn, hnone, ite_self]

theorem State.disposeNew_holds_off (h : s.held = true ∨ s.sul.station ≠ .active) :
    s.disposeNew n e o = s.join n e o := by
  have hoff : (s.held || decide (s.sul.station ≠ .active)) = true := by
    rw [Bool.or_eq_true, decide_eq_true_eq]
    exact h
  simp only [State.disposeNew, hoff, if_true]

/-- A station that is ACTIVE and out of hold turns to the resources and the slots. -/
theorem State.not_held_off (hh : s.held = false) (ha : s.sul.station = .active) :
    (s.held || decide (s.sul.station ≠ .active)) = false := by
  rw [hh, Bool.false_or, decide_eq_false_iff_not, not_not]
  exact ha

theorem State.disposeNew_starts (hh : s.held = false) (ha : s.sul.station = .active)
    (h : s.startsIn (s.blocked e.priority e.claims) e.claims = some i) :
    s.disposeNew n e o = s.startLoading i n e.priority e.claims o true := by
  simp only [State.disposeNew, State.not_held_off hh ha, Bool.false_eq_true, if_false, h]

theorem State.disposeNew_preempts (hh : s.held = false) (ha : s.sul.station = .active)
    (h : s.startsIn (s.blocked e.priority e.claims) e.claims = none)
    (hp : s.preemptsIn (s.blocked e.priority e.claims) e = some i) :
    s.disposeNew n e o = s.preempt i n e o true := by
  simp only [State.disposeNew, State.not_held_off hh ha, Bool.false_eq_true, if_false, h, hp]

theorem State.disposeNew_joins (hh : s.held = false) (ha : s.sul.station = .active)
    (h : s.startsIn (s.blocked e.priority e.claims) e.claims = none)
    (hp : s.preemptsIn (s.blocked e.priority e.claims) e = none) :
    s.disposeNew n e o = s.join n e o := by
  simp only [State.disposeNew, State.not_held_off hh ha, Bool.false_eq_true, if_false, h, hp]

/-! ### A run enters LOADING (R67) -/

section
variable (n : Fin 64) (p : Fin 4) (c : Claims) (o : ReqOrigin) (tell : Bool)

/-- The run is in its slot, every claim mapped to it, its read still to be asked for. -/
def State.mapped (s : State) (i : Fin 4) (x : Slot) : State :=
  (s.enterRun i x).mapFree i fun _ => true

theorem State.startLoading_eq :
    s.startLoading i n p c o tell = (s.mapped i (s.newRun .loading n p c o tell)).askInitial i := rfl

theorem State.mapFree_claimsOnly (free : Fin 6 → Bool) : ClaimsOnly s (s.mapFree i free) :=
  forEach_induct (P := ClaimsOnly s)
    (fun r u (hu : ClaimsOnly s u) => hu.trans (by split <;> rfl)) _ s rfl

/-- On a BUSY port a scene read waits for the arbiter (R166). -/
theorem State.askRead_waiting {x : Transfer} {b : Bool} (hb : s.smp.state = .busy x b) (kind : ReadKind)
    (address count : Nat) :
    (s.askRead i kind address count).smp.waiting =
      s.smp.waiting ++
        [{ who := .scene i (s.slot i).run kind, address := address % addressSpace, count := count
           instant := s.instant }] := by
  rw [State.askRead, State.askPort_busy _ _ _ (by exact hb)]
  rfl

theorem State.slot_mapped_self (x : Slot) : (s.mapped i x).slot i = x := by
  rw [State.mapped, State.slot_mapFree]
  exact s.slot_setSlot_self i x

theorem State.slot_startLoading_ne {j : Fin 4} (h : j ≠ i) :
    (s.startLoading i n p c o tell).slot j = s.slot j := by
  rw [State.startLoading_eq, State.slot_askInitial_ne h, State.mapped, State.slot_mapFree]
  exact s.slot_setSlot_ne _ h

theorem State.holder_startLoading (r : Fin 6) :
    (s.startLoading i n p c o tell).holder r =
      if c.getLsbD r.val = true then some i else s.holder r := by
  have hclaims : ((s.enterRun i (s.newRun .loading n p c o tell)).slot i).claims = c :=
    congrArg Slot.claims (s.slot_setSlot_self i _)
  rw [State.startLoading_eq, State.holder_askInitial, State.mapped, State.holder_mapFree, hclaims]
  simp only [and_true]
  rfl

variable {n}

theorem State.slot_startLoading_self (he : s.sceneEntry n = some e) :
    (s.startLoading i n p c o tell).slot i =
      { s.newRun .loading n p c o tell with read := .wanted .initial } := by
  rw [State.startLoading_eq, State.slot_askInitial_self, State.slot_mapped_self, State.mapped,
    State.sceneEntry_mapFree]
  have hentry : (s.enterRun i (s.newRun .loading n p c o tell)).sceneEntry
      (s.newRun .loading n p c o tell).scene = some e := he
  rw [hentry]
  rfl

/-- On a BUSY port the initial read waits: the header and up to 8 cues (R72, R176). -/
theorem State.startLoading_waiting (he : s.sceneEntry n = some e) {x : Transfer} {b : Bool}
    (hb : s.smp.state = .busy x b) :
    (s.startLoading i n p c o tell).smp.waiting =
      s.smp.waiting ++
        [{ who := .scene i s.sce.nextRun .initial, address := e.address % 16777216
           count := 2 + 10 * min 8 e.cueCount, instant := s.instant }] := by
  have hentry : (s.mapped i (s.newRun .loading n p c o tell)).sceneEntry
      (s.newRun .loading n p c o tell).scene = some e := by
    rw [State.mapped, State.sceneEntry_mapFree]
    exact he
  have hparts : (s.mapped i (s.newRun .loading n p c o tell)).smp = s.smp ∧
      (s.mapped i (s.newRun .loading n p c o tell)).instant = s.instant := by
    rw [State.mapped, State.mapFree_claimsOnly]
    exact ⟨rfl, rfl⟩
  obtain ⟨hsmp, hinstant⟩ := hparts
  rw [State.startLoading_eq, State.askInitial, State.slot_mapped_self]
  simp only [hentry]
  rw [State.askRead_waiting (by rw [hsmp, hb]), hsmp, hinstant, State.slot_mapped_self]
  rfl

end

/-! ### Pre-emption and succession (R68) -/

/-- The slots whose successors are contenders. -/
def successorsAmong (cs : List Wanter) : List (Fin 4) := allSlots.filter fun i => cs.contains (.successor i)

/-- The runs that a request with these contenders and this place sends to STOPPING. -/
def State.stoppedBy (s : State) (cs : List Wanter) (place : Fin 4) : List (Fin 4) :=
  (victims cs place).filter fun i => (s.slot i).state.stoppable

/-- The contenders have given way: successors are dropped and runs are in STOPPING. -/
def State.yielded (s : State) (cs : List Wanter) (place : Fin 4) : State :=
  forEach (s.stoppedBy cs place) (fun i s => s.onSlot i (·.stop .preempted))
    (forEach (successorsAmong cs) (fun i s => s.dropSuccessor i) s)

theorem mem_successorsAmong {cs : List Wanter} {j : Fin 4} :
    j ∈ successorsAmong cs ↔ .successor j ∈ cs := by
  rw [successorsAmong, List.mem_filter, and_iff_right (mem_allSlots j), List.contains_iff_mem]

theorem State.mem_stoppedBy {cs : List Wanter} {place j : Fin 4} :
    j ∈ s.stoppedBy cs place ↔ (.run j ∈ cs ∨ j = place) ∧ (s.slot j).state.stoppable = true := by
  rw [State.stoppedBy, victims, List.mem_filter, List.mem_filter, and_iff_right (mem_allSlots j),
    Bool.or_eq_true, List.contains_iff_mem, decide_eq_true_eq]

theorem nodup_successorsAmong (cs : List Wanter) : (successorsAmong cs).Nodup := nodup_allSlots.filter _

theorem State.nodup_stoppedBy (s : State) (cs : List Wanter) (place : Fin 4) :
    (s.stoppedBy cs place).Nodup := (nodup_allSlots.filter _).filter _

/-- What giving way makes of each slot. -/
theorem State.slot_yielded (s : State) (cs : List Wanter) (place j : Fin 4) :
    (s.yielded cs place).slot j =
      if j ∈ s.stoppedBy cs place then
        (if j ∈ successorsAmong cs then { s.slot j with successor := none } else s.slot j).stop .preempted
      else if j ∈ successorsAmong cs then { s.slot j with successor := none } else s.slot j := by
  have hdrop := forEach_reads (read := State.slot) (f := fun i s => s.dropSuccessor i)
    (g := fun _ x => { x with successor := none }) (fun i u => u.slot_dropSuccessor_self i)
    (fun _ _ _ h => State.slot_dropSuccessor_ne h) (nodup_successorsAmong cs) s j
  have hstop := forEach_reads (read := State.slot) (f := fun i s => s.onSlot i (·.stop .preempted))
    (g := fun _ x => x.stop .preempted) (fun i u => u.slot_onSlot_self i _)
    (fun _ _ u h => u.slot_onSlot_ne _ h) (s.nodup_stoppedBy cs place)
    (forEach (successorsAmong cs) (fun i s => s.dropSuccessor i) s) j
  rw [hdrop] at hstop
  exact hstop

theorem State.yielded_keeps (s : State) (cs : List Wanter) (place : Fin 4) :
    Keeps s (s.yielded cs place) :=
  forEach_keeps (forEach_keeps (.refl s) fun i u => State.dropSuccessor_keeps i (.refl u))
    fun i u => State.onSlot_keeps i _ (.refl u)

/-- The request has its place: a run in CLAIMING in a FREE slot, or the successor of a run. -/
def State.placed (s : State) (place : Fin 4) (n : Fin 64) (e : SceneEntry) (o : ReqOrigin) (tell : Bool) :
    State :=
  if (s.slot place).state = .free then
    (s.yielded (s.contenders e.claims) place).startClaiming place n e.priority e.claims o tell
  else
    (s.yielded (s.contenders e.claims) place).onSlot place fun x =>
      { x with
        successor := some
          { scene := n, priority := e.priority, claims := e.claims, origin := o, tell := tell } }

/-- What follows the placing of the request writes no slot. -/
theorem State.slot_preempt (s : State) (place : Fin 4) (n : Fin 64) (e : SceneEntry) (o : ReqOrigin)
    (tell : Bool) (j : Fin 4) :
    (s.preempt place n e o tell).slot j = (s.placed place n e o tell).slot j := by
  have hrest : ∀ (xs : List (Fin 4)) (u : State),
      (forEach xs (fun i w => ((w.post [.slotTest i]).stopResources i).releaseIdle i) u).slot j =
        u.slot j := fun xs u =>
    forEach_induct (P := fun w => w.slot j = u.slot j)
      (fun i w hw => ((w.post [.slotTest i]).slot_stopAndRelease i j).trans hw) xs u rfl
  unfold State.preempt
  dsimp only
  rw [hrest, State.slot_serveFreed, State.placed]
  simp only [decide_eq_true_eq]
  rfl

section
variable (place : Fin 4) (n : Fin 64) (o : ReqOrigin) (tell : Bool) {j : Fin 4}

theorem State.slot_preempt_ne (h : j ≠ place) :
    (s.preempt place n e o tell).slot j = (s.yielded (s.contenders e.claims) place).slot j := by
  rw [State.slot_preempt, State.placed]
  split
  · exact State.slot_startClaiming_ne n e.priority e.claims o tell h
  · exact State.slot_onSlot_ne _ _ h

/-- In a FREE place the request's run enters CLAIMING. -/
theorem State.slot_preempt_free (h : (s.slot place).state = .free) :
    ((s.preempt place n e o tell).slot place).state = .claiming ∧
      ((s.preempt place n e o tell).slot place).scene = n ∧
      ((s.preempt place n e o tell).slot place).priority = e.priority ∧
      ((s.preempt place n e o tell).slot place).claims = e.claims ∧
      ((s.preempt place n e o tell).slot place).origin = o ∧
      ((s.preempt place n e o tell).slot place).startTime = s.clk.showTime := by
  rw [State.slot_preempt, State.placed, if_pos h, State.slot_startClaiming_self]
  exact ⟨rfl, rfl, rfl, rfl, rfl, congrArg Clock.showTime (s.yielded_keeps _ place).clk⟩

/-- In any other place the request becomes the successor. -/
theorem State.slot_preempt_taken (h : (s.slot place).state ≠ .free) :
    (s.preempt place n e o tell).slot place =
      { (s.yielded (s.contenders e.claims) place).slot place with
        successor := some
          { scene := n, priority := e.priority, claims := e.claims, origin := o, tell := tell } } := by
  rw [State.slot_preempt, State.placed, if_neg h, State.slot_onSlot_self]

/-- A run that gives way is in STOPPING with the first reason it was given. -/
theorem State.slot_yielded_stopped {cs : List Wanter} (hj : .run j ∈ cs ∨ j = place)
    (hs : (s.slot j).state.stoppable = true) :
    ((s.yielded cs place).slot j).state = .stopping ∧
      ((s.yielded cs place).slot j).stopReason = some ((s.slot j).stopReason.getD .preempted) := by
  rw [State.slot_yielded, if_pos (State.mem_stoppedBy.2 ⟨hj, hs⟩), Slot.stop_eq]
  split <;> exact ⟨rfl, rfl⟩

theorem State.slot_preempt_stopped (hj : .run j ∈ s.contenders e.claims ∨ j = place)
    (hs : (s.slot j).state.stoppable = true) :
    ((s.preempt place n e o tell).slot j).state = .stopping ∧
      ((s.preempt place n e o tell).slot j).stopReason =
        some ((s.slot j).stopReason.getD .preempted) := by
  have hyield := State.slot_yielded_stopped (cs := s.contenders e.claims) place hj hs
  by_cases hp : j = place
  · subst hp
    rw [State.slot_preempt_taken j n o tell ((RunState.stoppable_iff _).1 hs).1]
    exact hyield
  · rw [State.slot_preempt_ne place n o tell hp]
    exact hyield

theorem State.slot_preempt_dropped (hp : j ≠ place) (hj : .successor j ∈ s.contenders e.claims) :
    ((s.preempt place n e o tell).slot j).successor = none := by
  rw [State.slot_preempt_ne place n o tell hp, State.slot_yielded,
    if_pos (mem_successorsAmong.2 hj)]
  split
  · rw [Slot.stop_eq]
  · rfl

theorem State.slot_preempt_bystander (hp : j ≠ place) (hr : .run j ∉ s.contenders e.claims)
    (hu : .successor j ∉ s.contenders e.claims) :
    (s.preempt place n e o tell).slot j = s.slot j := by
  have hstop : j ∉ s.stoppedBy (s.contenders e.claims) place := fun h =>
    (State.mem_stoppedBy.1 h).1.elim hr hp
  rw [State.slot_preempt_ne place n o tell hp, State.slot_yielded, if_neg hstop,
    if_neg (fun h => hu (mem_successorsAmong.1 h))]

end

/-! ### The service of the queue (R71) -/

theorem State.serve_off (h : s.sul.station ≠ .active ∨ s.held = true) : s.serve = s := by
  have hoff : (decide (s.sul.station = .active) && !s.held) = false := by
    rw [Bool.and_eq_false_iff, decide_eq_false_iff_not, Bool.not_eq_false']
    exact h
  simp only [State.serve, hoff, Bool.false_eq_true, if_false]

theorem State.serve_on (ha : s.sul.station = .active) (hh : s.held = false) :
    s.serve = State.serveFrom s.sce.queue 0#6 s := by
  simp only [State.serve, ha, hh, decide_true, Bool.not_false, Bool.and_self, if_true]

section
variable {q : Request} {rest : List Request} {waited : Claims} (he : s.sceneEntry q.scene = some e)
include he

theorem State.serveFrom_starts (h : s.startsIn (shares e.claims waited) e.claims = some i) :
    State.serveFrom (q :: rest) waited s =
      State.serveFrom rest waited
        ((s.unqueue q.scene).startLoading i q.scene q.priority e.claims q.origin false) := by
  simp only [State.serveFrom, he, h]

theorem State.serveFrom_preempts (h : s.startsIn (shares e.claims waited) e.claims = none)
    (hp : s.preemptsIn (shares e.claims waited) e = some i) :
    State.serveFrom (q :: rest) waited s =
      State.serveFrom rest waited ((s.unqueue q.scene).preempt i q.scene e q.origin false) := by
  simp only [State.serveFrom, he, h, hp]

theorem State.serveFrom_waits (h : s.startsIn (shares e.claims waited) e.claims = none)
    (hp : s.preemptsIn (shares e.claims waited) e = none) :
    State.serveFrom (q :: rest) waited s = State.serveFrom rest (waited ||| e.claims) s := by
  simp only [State.serveFrom, he, h, hp]

end

theorem shares_eq_true {a b : Claims} (h : a &&& b ≠ 0#6) : shares a b = true := decide_eq_true h

theorem shares_eq_false {a b : Claims} (h : a &&& b = 0#6) : shares a b = false :=
  decide_eq_false (not_not.2 h)

end

/-! ### The statement -/

theorem Station.runsShow_eq_false {x : Station}
    (h : x = .reset ∨ x = .loading ∨ x = .configFault) : x.runsShow = false := by
  rcases h with rfl | rfl | rfl <;> rfl

/-- Settles O22: each test by the lemma that says what follows it. -/
theorem requestDispositions : Obligations.RequestDispositions := by
  unfold Obligations.RequestDispositions
  refine ⟨fun s n o => ⟨fun h => State.dispose_hidden (Station.runsShow_eq_false h),
      State.dispose_absent, fun e hshow he => ⟨fun i hi hs => ?_, fun i hi hs hlock => ?_, fun hi hu q hq hn => ?_,
        fun hi hu hq hoff => ?_⟩⟩,
    fun s n o e hshow he => ⟨fun i hi => ⟨fun hs => ?_, fun hs hlock => ?_⟩, fun hi hu => ?_,
      fun hi hu hq hheld hactive => ?_⟩,
    fun s r => State.isFree_iff r, fun s k i => State.placeFor_cases,
    fun s => ⟨State.serve_off, State.serve_on, rfl, fun q rest waited e he => ⟨fun hw => ?_, fun hw => ?_⟩⟩⟩
  · rw [State.dispose_in_slot hshow he hi, State.disposeInSlot_stopping _ hs]
  · rw [State.dispose_in_slot hshow he hi, State.disposeInSlot_begun _ hs, if_pos hlock]
  · exact State.dispose_queued hshow he hi hu hq hn
  · rw [State.dispose_new hshow he hi hu hq, State.disposeNew_holds_off hoff]
  · rw [State.dispose_in_slot hshow he hi, State.disposeInSlot_waits _ hs]
    rfl
  · obtain ⟨-, hscene⟩ := State.slotOf_some hi
    obtain ⟨-, hclips⟩ := s.restartInPlace_clips i
    have honly : SlotOnly i s (s.restartInPlace i) := State.restartInPlace_slotOnly
    refine ⟨s.restartInPlace i, ?_, ?_, honly.slot, honly.claims, honly.mte, hclips .a, hclips .b⟩
    · rw [State.dispose_in_slot hshow he hi, State.disposeInSlot_begun _ hs, if_neg (not_lt.2 hlock)]
    · rw [State.slot_restartInPlace, State.slot_rewind_entry (by rw [hscene]; exact he)]
  · exact State.dispose_successor hshow he hi hu
  · rw [State.dispose_new hshow he hi hu hq]
    refine ⟨fun hblocked => ?_, fun hclear => ?_⟩
    · rw [← State.blocked_iff] at hblocked
      exact State.disposeNew_joins hheld hactive (by rw [hblocked]; rfl) (by rw [hblocked]; rfl)
    · have hblocked : s.blocked e.priority e.claims = false := by
        rw [← Bool.not_eq_true, State.blocked_iff]
        rintro ⟨q, hq, hp, f, hf, hne⟩
        exact hne (hclear q hq hp f hf)
      refine ⟨fun i hfree hlow hclaims => ?_, fun hno => ⟨fun hjoin => ?_, fun i hlower hplace => ?_⟩⟩
      · rw [State.disposeNew_starts hheld hactive
          (by rw [hblocked]; exact State.startsIn_free (State.freeSlot_eq_some_iff.2 ⟨hfree, hlow⟩) hclaims)]
        exact ⟨State.slot_startLoading_self _ _ _ _ he, fun j hj => State.slot_startLoading_ne _ _ _ _ _ hj,
          State.holder_startLoading _ _ _ _ _, fun x b => State.startLoading_waiting _ _ _ _ he⟩
      · exact State.disposeNew_joins hheld hactive (State.startsIn_none hno) (State.preemptsIn_none hjoin)
      · rw [State.disposeNew_preempts hheld hactive (State.startsIn_none hno)
          (by rw [hblocked]; exact State.preemptsIn_place hlower hplace)]
        refine ⟨State.slot_preempt_free i n o true, fun htaken => ?_,
          fun j hs hj => State.slot_preempt_stopped i n o true hj hs,
          fun j => State.slot_preempt_dropped i n o true,
          fun j => State.slot_preempt_bystander i n o true⟩
        rw [State.slot_preempt_taken i n o true htaken]
  · have hshares := shares_eq_true hw
    exact State.serveFrom_waits he (by rw [hshares]; rfl) (by rw [hshares]; rfl)
  · have hshares := shares_eq_false hw
    refine ⟨fun i hfree hlow hclaims => ?_, fun hno => ⟨fun i hlower hplace => ?_, fun hwait => ?_⟩⟩
    · exact State.serveFrom_starts he
        (by rw [hshares]; exact State.startsIn_free (State.freeSlot_eq_some_iff.2 ⟨hfree, hlow⟩) hclaims)
    · exact State.serveFrom_preempts he (State.startsIn_none hno)
        (by rw [hshares]; exact State.preemptsIn_place hlower hplace)
    · exact State.serveFrom_waits he (State.startsIn_none hno) (State.preemptsIn_none hwait)

end Sys2Proof.Machine
end

section
/-! PROOFS. Entry to CONFIG_FAULT (R80, R96, R116, R128, R146, R159, R171): what each block makes of it. -/

namespace Sys2Proof.Machine

section
variable {s : State}

/-! ### A voice that is IDLE does nothing -/

theorem VoiceRec.talks_idle {x : VoiceRec} (h : x.state = .idle) : x.talks = false := by
  simp only [VoiceRec.talks, h]

theorem State.backOff_idle {v : Voice} (h : (s.voice v).state = .idle) : s.backOff v = s := by
  simp [State.backOff, h]

theorem State.judgeAir_idle {v : Voice} (h : (s.voice v).state = .idle) : s.judgeAir v = s :=
  State.judgeAir_of_not_waiting (by rw [h]; exact VoiceState.noConfusion)

theorem State.refill_idle {v : Voice} (h : (s.voice v).state = .idle) : s.refill v = s := by
  simp [State.refill, VoiceRec.mayRefill, h]

theorem State.primeTest_idle {v : Voice} (h : (s.voice v).state = .idle) : s.primeTest v = s := by
  simp [State.primeTest, h]

/-- A presentation of the air finds no voice that waits (R43, R133, R134). -/
theorem State.presentAir_idle (h : ∀ v, (s.voice v).state = .idle) (st : Fin 32) (talk : Bool) :
    s.presentAir st talk = s := by
  have hpresented : ∀ v, s.airPresented v talk = s := fun v => by
    unfold State.airPresented
    cases talk
    · exact State.judgeAir_idle (h v)
    · simp only [if_true, State.backOff_idle (h v), State.judgeAir_idle (h v)]
  rw [State.presentAir, hpresented, hpresented, ite_self]

/-- With both voices IDLE the talking flag goes down, with an early request at most (R144). -/
theorem State.syncTalking_idle (h : ∀ v, (s.voice v).state = .idle) :
    ∃ b, s.syncTalking = { s with nre := { s.nre with talking := false }, bus := b } := by
  have ha : s.nre.a.talks = false := VoiceRec.talks_idle (h .a)
  have hb : s.nre.b.talks = false := VoiceRec.talks_idle (h .b)
  simp only [State.syncTalking, ha, hb, Bool.or_self]
  split
  · rename_i ht
    exact ⟨s.bus, by rw [ht]⟩
  · exact ⟨s.bus.raiseEarly, rfl⟩

/-! ### The blocks on entry -/

/-- The voices are as after power-on reset, the lights dark, the governor idle, the axes at rest (R116, R128,
R146, R159). -/
theorem State.faultShow_exists (s : State) : ∃ b,
    s.faultShow =
      { s with
        nre := { s.nre.faulted with talking := false }
        lte := { s.lte with channels := Vector.replicate 16 Channel.clear }
        lgv := s.lgv.idleAll, mte := vmap Axis.disabled s.mte, bus := b } := by
  obtain ⟨b, hsync⟩ := (s.onNre Nre.faulted).syncTalking_idle (fun v => by cases v <;> rfl)
  refine ⟨b, ?_⟩
  rw [State.faultShow, hsync]
  rfl

theorem State.idleGroups_exists (s : State) : ∃ v g, s.idleGroups = { s with viu := v, agenda := g } := by
  refine forEach_induct (P := fun u => ∃ v g, u = { s with viu := v, agenda := g }) (fun g u hu => ?_) _ s
    ⟨_, _, rfl⟩
  split
  · exact hu
  · obtain ⟨v, g, rfl⟩ := hu
    exact ⟨_, _, rfl⟩

/-- Without settings in force there is no local hold (R160). -/
theorem State.syncLocalHold_exists (hc : s.cfg = none) : ∃ b,
    s.syncLocalHold = { s with hld := { s.hld with localHold := false }, bus := b } := by
  have hsources : s.localSources = false := by simp [State.localSources, State.configured, hc]
  simp only [State.syncLocalHold, hsources]
  split
  · rename_i hl
    exact ⟨s.bus, by rw [hl]⟩
  · exact ⟨s.bus.raiseEarly, rfl⟩

/-- No hold is in effect, and the order hold source is kept (R161, R162). -/
theorem State.faultInputs_exists (hc : s.cfg = none) : ∃ v g b,
    s.faultInputs =
      { s with viu := v, agenda := g, bus := b, hld := { s.hld.faulted with localHold := false } } := by
  obtain ⟨v, g, hgroups⟩ := (s.onViu fun u =>
    { u with inputs := Vector.replicate 8 InputRec.clear, judgeGroups := false }).idleGroups_exists
  obtain ⟨b, hhold⟩ := State.syncLocalHold_exists
    (s := { s with viu := v, agenda := g, hld := s.hld.faulted }) hc
  refine ⟨v, g, b, ?_⟩
  rw [State.faultInputs, hgroups]
  exact hhold

/-- With the voices IDLE the entries that leave the Peer Table are presented by signals alone (R39, R41). -/
theorem State.dropStale_exists (h : ∀ v, (s.voice v).state = .idle) : ∃ p g,
    s.dropStale = { s with ptb := p, agenda := g } := by
  refine forEach_induct (P := fun u => ∃ p g, u = { s with ptb := p, agenda := g }) (fun e u hu => ?_) _ _
    ⟨_, _, rfl⟩
  obtain ⟨p, g, rfl⟩ := hu
  refine ⟨p, .peerSeen e.station :: g, ?_⟩
  rw [State.presentGone, State.presentAir_idle (s := { s with ptb := p, agenda := g }) (by exact h)]
  rfl

/-- Without settings in force a regular boundary leaves no allowance and no load (R27, R118, R128). -/
theorem State.regularBoundary_exists (hc : s.cfg = none) : ∃ b : Bus, b.request.isSome = true ∧
    s.regularBoundary = { s with bus := b, lgv := { s.lgv with allowance := 0, granted := 0 } } := by
  have hrecompute : (s.onBus fun b => { b with period := some 0 }).recompute =
      (s.onBus fun b => { b with period := some 0 }).onLgv fun l => { l with allowance := 0, granted := 0 } := by
    simp only [State.recompute, State.onBus_cfg, hc]
  refine ⟨Bus.raiseRegular { s.bus with period := some 0 }, ?_, ?_⟩
  · unfold Bus.raiseRegular Bus.raise
    cases hr : s.bus.request with
    | none => rfl
    | some n => simp [hr]
  · rw [State.regularBoundary, hrecompute]
    rfl

theorem State.faultBus_exists (hc : s.cfg = none) (hv : ∀ v, (s.voice v).state = .idle) :
    ∃ (b : Bus) (p : List Peer) (g : List Signal), b.request.isSome = true ∧
      s.faultBus =
        { s with bus := b, ptb := p, agenda := g, lgv := { s.lgv with allowance := 0, granted := 0 } } := by
  obtain ⟨p, g, hdrop⟩ := State.dropStale_exists
    (s := s.onBus fun b => if b.rateState = .rateSet then b else b.learn) hv
  obtain ⟨b, hb, hboundary⟩ := State.regularBoundary_exists
    (s := { s with bus := if s.bus.rateState = .rateSet then s.bus else s.bus.learn, ptb := p, agenda := g })
    hc
  refine ⟨b, p, g, hb, ?_⟩
  rw [State.faultBus, hdrop]
  exact hboundary

/-- What entry to CONFIG_FAULT makes of a state: nothing of the show is left but the runs' slots (R171). -/
theorem State.enterFault_exists (s : State) :
    ∃ (v : Viu) (g : List Signal) (b : Bus) (p : List Peer), b.request.isSome = true ∧
      s.enterFault =
        { s with
          cfg := none, csc := []
          sul := { s.sul with station := .configFault, restarting := false, phase := .idle }
          sce := { s.sce with queue := [], flags := 0#4 }
          nre := { s.nre.faulted with talking := false }
          lte := { s.lte with channels := Vector.replicate 16 Channel.clear }
          lgv := { s.lgv.idleAll with allowance := 0, granted := 0 }
          mte := vmap Axis.disabled s.mte
          hld := { s.hld.faulted with localHold := false }
          viu := v, agenda := g, bus := b, ptb := p } := by
  obtain ⟨r, d, m, hflags⟩ := s.faultStation.clearFlags_exists
  obtain ⟨b₁, hshow⟩ := s.faultStation.clearFlags.faultShow_exists
  have hcfg : s.faultStation.clearFlags.faultShow.cfg = none := by rw [hshow, hflags]; rfl
  obtain ⟨v, g₁, b₂, hinputs⟩ := State.faultInputs_exists hcfg
  have hcfg' : s.faultStation.clearFlags.faultShow.faultInputs.cfg = none := by rw [hinputs]; exact hcfg
  have hidle : ∀ w, (s.faultStation.clearFlags.faultShow.faultInputs.voice w).state = .idle := fun w => by
    rw [hinputs, hshow]
    cases w <;> rfl
  obtain ⟨b, p, g, hb, hbus⟩ := State.faultBus_exists hcfg' hidle
  refine ⟨v, g, b, p, hb, ?_⟩
  rw [State.enterFault, hbus, hinputs, hshow, hflags]
  rfl

/-! ### Dark and still -/

theorem State.channel_dark (l : Lte) (c : Fin 16) :
    ({ s with lte := { l with channels := Vector.replicate 16 Channel.clear } } : State).channel c =
      Channel.clear := by
  simp [State.channel]

theorem State.axis_vmap (f : Axis → Axis) (a : Fin 4) : (s.onMte f).axis a = f (s.axis a) :=
  vmap_getElem f s.mte a

theorem Lgv.compose_idleAll (l : Lgv) : { l.idleAll with allowance := 0, granted := 0 }.compose = 0 := rfl

end

end Sys2Proof.Machine
end

section
/-! PROOFS. A dark and still station stays so (R171): what every function of the state makes of it, signal by
signal and command by command. -/

namespace Sys2Proof.Machine

/-! ### What a dark and still state says -/

section
variable {s : State}

theorem State.DarkAndStill.settings (h : s.DarkAndStill) : s.cfg = none := h.1

theorem State.DarkAndStill.requests (h : s.DarkAndStill) : s.sce.queue = [] := h.2.1

theorem State.DarkAndStill.free (h : s.DarkAndStill) (i : Fin 4) : (s.slot i).state = .free :=
  (h.2.2.1 i).1

theorem State.DarkAndStill.alone (h : s.DarkAndStill) (i : Fin 4) : (s.slot i).successor = none :=
  (h.2.2.1 i).2

/-- A voice at rest: IDLE, with no clip in it and none waiting. -/
abbrev VoiceRec.AtRest (x : VoiceRec) : Prop :=
  x.state = .idle ∧ x.current = none ∧ x.next = none ∧ x.queue = []

/-- An axis at rest, with no move. -/
abbrev Axis.AtRest (x : Axis) : Prop := x.state = .unhomed ∧ x.v = 0 ∧ x.move = none

/-- The clauses of `DarkAndStill`, the voices one by one. -/
theorem State.darkAndStill_iff : s.DarkAndStill ↔
    s.cfg = none ∧ s.sce.queue = [] ∧
      (∀ i : Fin 4, (s.slot i).state = .free ∧ (s.slot i).successor = none) ∧
      (∀ c : Fin 16, (s.channel c).output = 0) ∧ s.nre.audio = 0#16 ∧
      (∀ v, (s.voice v).AtRest) ∧ ∀ a : Fin 4, (s.axis a).AtRest := by
  have hvoices : (∀ x ∈ [s.nre.a, s.nre.b], x.AtRest) ↔ ∀ v, (s.voice v).AtRest := by
    rw [List.forall_mem_cons, List.forall_mem_singleton]
    exact ⟨fun h v => by cases v; exacts [h.1, h.2], fun h => ⟨h .a, h .b⟩⟩
  rw [← hvoices]

theorem State.DarkAndStill.voice (h : s.DarkAndStill) (v : Voice) : (s.voice v).AtRest := by
  obtain ⟨-, -, -, -, -, hvoices, -⟩ := State.darkAndStill_iff.1 h
  exact hvoices v

theorem State.DarkAndStill.idle (h : s.DarkAndStill) (v : Voice) : (s.voice v).state = .idle :=
  (h.voice v).1

theorem State.DarkAndStill.axis (h : s.DarkAndStill) (a : Fin 4) : (s.axis a).AtRest := by
  obtain ⟨-, -, -, -, -, -, haxes⟩ := State.darkAndStill_iff.1 h
  exact haxes a

theorem State.DarkAndStill.sceneEntry (h : s.DarkAndStill) (n : Fin 64) : s.sceneEntry n = none := by
  simp only [State.sceneEntry, h.settings]

theorem State.DarkAndStill.axisCfg (h : s.DarkAndStill) (a : Fin 4) : s.axisCfg a = none := by
  simp only [State.axisCfg, h.settings, Option.map_none]

theorem State.DarkAndStill.inputCfg (h : s.DarkAndStill) (i : Fin 8) : s.inputCfg i = none := by
  simp only [State.inputCfg, h.settings, Option.map_none]

theorem State.DarkAndStill.configured (h : s.DarkAndStill) : s.configured = false := by
  simp only [State.configured, h.settings, Option.isSome_none]

/-! ### Writing one block -/

/-- A voice that stays at rest. -/
theorem State.setVoice_dark (v : Voice) {x : VoiceRec} (hx : x.AtRest) (h : s.DarkAndStill) :
    (s.setVoice v x).DarkAndStill := by
  obtain ⟨hcfg, hqueue, hslots, hlights, haudio, hvoices, haxes⟩ := State.darkAndStill_iff.1 h
  refine State.darkAndStill_iff.2 ?_
  cases v
  · exact ⟨hcfg, hqueue, hslots, hlights, haudio, fun w => by cases w; exacts [hx, hvoices .b], haxes⟩
  · exact ⟨hcfg, hqueue, hslots, hlights, haudio, fun w => by cases w; exacts [hvoices .a, hx], haxes⟩

/-- Axes that stay at rest. -/
theorem State.onMte_dark {f : Axis → Axis} (hf : ∀ x, x.AtRest → (f x).AtRest) (h : s.DarkAndStill) :
    (s.onMte f).DarkAndStill := by
  obtain ⟨hcfg, hqueue, hslots, hlights, haudio, hvoices, haxes⟩ := State.darkAndStill_iff.1 h
  refine State.darkAndStill_iff.2 ⟨hcfg, hqueue, hslots, hlights, haudio, hvoices, fun a => ?_⟩
  rw [State.axis_vmap]
  exact hf _ (haxes a)

/-- Channels that stay dark. -/
theorem State.onLte_dark {f : Lte → Lte} (hf : ∀ c : Fin 16, ((s.onLte f).channel c).output = 0)
    (h : s.DarkAndStill) : (s.onLte f).DarkAndStill := by
  obtain ⟨hcfg, hqueue, hslots, -, haudio, hvoices, haxes⟩ := State.darkAndStill_iff.1 h
  exact State.darkAndStill_iff.2 ⟨hcfg, hqueue, hslots, hf, haudio, hvoices, haxes⟩

/-- Slots that stay FREE and alone. -/
theorem State.onSlots_dark {f : Slot → Slot} (hf : ∀ x : Slot, x.state = .free → f x = x)
    (h : s.DarkAndStill) : (s.onSce fun e => { e with slots := vmap f e.slots }).DarkAndStill := by
  obtain ⟨hcfg, hqueue, hslots, hlights, haudio, hvoices, haxes⟩ := State.darkAndStill_iff.1 h
  refine State.darkAndStill_iff.2 ⟨hcfg, hqueue, fun i => ?_, hlights, haudio, hvoices, haxes⟩
  have hslot : (s.onSce fun e => { e with slots := vmap f e.slots }).slot i = s.slot i :=
    (vmap_getElem f s.sce.slots i).trans (hf _ (hslots i).1)
  rw [hslot]
  exact hslots i

/-- A queue of requests that stays empty. -/
theorem State.onQueue_dark {f : List Request → List Request} (hf : f [] = []) (h : s.DarkAndStill) :
    (s.onSce fun e => { e with queue := f e.queue }).DarkAndStill := by
  obtain ⟨hcfg, hqueue, hslots, hlights, haudio, hvoices, haxes⟩ := State.darkAndStill_iff.1 h
  refine State.darkAndStill_iff.2 ⟨hcfg, ?_, hslots, hlights, haudio, hvoices, haxes⟩
  show f s.sce.queue = []
  rw [hqueue, hf]

theorem State.DarkAndStill.ite {c : Prop} [Decidable c] {t : State} (hs : s.DarkAndStill)
    (ht : t.DarkAndStill) : (if c then s else t).DarkAndStill := by
  split
  · exact hs
  · exact ht

theorem forEach_dark {α : Type} {xs : List α} {f : α → State → State}
    (hf : ∀ x u, u.DarkAndStill → (f x u).DarkAndStill) (h : s.DarkAndStill) :
    (forEach xs f s).DarkAndStill := forEach_induct hf xs s h

/-! ### Requests of one block to another -/

theorem State.report_dark (k : FaultKind) (n : Nat) (d : DropSort) (h : s.DarkAndStill) :
    (s.report k n d).DarkAndStill := by
  rw [State.report_eq]
  exact h

theorem State.enqueue_dark (m : OutMsg) (o : Origin) (h : s.DarkAndStill) :
    (s.enqueue m o).DarkAndStill := by
  obtain ⟨-, he⟩ | ⟨-, he | he⟩ := s.enqueue_cases m o
  · rw [he]
    exact h
  · rw [he]
    exact h
  · rw [he]
    exact State.report_dark _ _ _ h

theorem State.arbitrate_dark (h : s.DarkAndStill) : s.arbitrate.DarkAndStill := by
  rw [State.arbitrate_eq]
  exact h

theorem State.askPort_dark (who : Requester) (address count : Nat) (h : s.DarkAndStill) :
    (s.askPort who address count).DarkAndStill := by
  unfold State.askPort
  dsimp only
  split
  · exact h
  · exact State.arbitrate_dark (s := s.onSmp _) h

theorem State.setFlag_dark (f : Fin 4) (v : Bool) (h : s.DarkAndStill) : (s.setFlag f v).DarkAndStill := by
  obtain ⟨r, d, m, hflag⟩ := s.setFlag_exists f v
  rw [hflag]
  exact h

theorem State.clearFlags_dark (h : s.DarkAndStill) : s.clearFlags.DarkAndStill := by
  obtain ⟨r, d, m, hflags⟩ := s.clearFlags_exists
  rw [hflags]
  exact h

theorem State.syncLocalHold_dark (h : s.DarkAndStill) : s.syncLocalHold.DarkAndStill := by
  obtain ⟨b, hsync⟩ := State.syncLocalHold_exists h.settings
  rw [hsync]
  exact h

theorem State.syncTalking_dark (h : s.DarkAndStill) : s.syncTalking.DarkAndStill := by
  obtain ⟨b, hsync⟩ := State.syncTalking_idle h.idle
  rw [hsync]
  exact h

theorem State.complete_dark (outcome reason : Byte) (data : List Byte) (h : s.DarkAndStill) :
    (s.complete outcome reason data).DarkAndStill := by
  unfold State.complete
  split
  · exact h
  · exact State.enqueue_dark (s := s.onSce _) _ _ h

theorem State.told_dark (n : Fin 64) (o : ReqOrigin) (d : Disposition) (h : s.DarkAndStill) :
    (s.told n o d).DarkAndStill := by
  unfold State.told
  split
  · exact h
  · split
    · exact .ite (State.complete_dark _ _ _ h) h
    · exact h
  · exact h

/-! ### CONFIG_FAULT -/

theorem State.enterFault_dark
    (h : ∀ i : Fin 4, (s.slot i).state = .free ∧ (s.slot i).successor = none) :
    s.enterFault.DarkAndStill := by
  obtain ⟨v, g, b, p, -, hfault⟩ := s.enterFault_exists
  rw [hfault]
  refine State.darkAndStill_iff.2 ⟨rfl, rfl, h, fun c => ?_, rfl, fun w => ?_, fun a => ?_⟩
  · exact congrArg Channel.output (State.channel_dark (s := s) s.lte c)
  · cases w <;> exact ⟨rfl, rfl, rfl, rfl⟩
  · have haxis := s.axis_vmap Axis.disabled a
    exact ⟨congrArg Axis.state haxis, congrArg Axis.v haxis, congrArg Axis.move haxis⟩

end

end Sys2Proof.Machine
end

section
/-! PROOFS. A dark and still station stays so, block by block: what each function does where no settings are in
force, no run plays and every voice and axis rests. -/

namespace Sys2Proof.Machine

section
variable {s : State}

/-! ### Slots, voices and axes at rest have nothing to do -/

theorem State.meetAwaits_free (h : ∀ i, (s.slot i).state = .free) (met : Await → Bool) :
    s.meetAwaits met = s :=
  State.meetAwaits_of_none_waiting fun i => by rw [h i]; decide

theorem State.resourceReport_free (h : ∀ i, (s.slot i).state = .free) (r : Fin 6) :
    s.resourceReport r = s := by
  unfold State.resourceReport
  split
  · rfl
  · rw [h]

theorem State.axisReport_free (h : ∀ i, (s.slot i).state = .free) (a : Fin 4) (idle : Bool) (before : Nat) :
    s.axisReport a idle before = s := by
  rw [State.axisReport, State.meetAwaits_free h, State.resourceReport_free h]

theorem State.DarkAndStill.runCues (h : s.DarkAndStill) (i : Fin 4) : s.runCues i = s := by
  have hlast : s.lastDone i = false := by simp [State.lastDone, h.free i]
  have hhead : s.headDue i = false := by
    unfold State.headDue
    split
    · rfl
    · simp [h.free i]
  simp [State.runCues, hlast, hhead]

theorem State.DarkAndStill.refillCues (h : s.DarkAndStill) (i : Fin 4) : s.refillCues i = s := by
  simp [State.refillCues, h.sceneEntry]

theorem State.DarkAndStill.testSlot (h : s.DarkAndStill) (i : Fin 4) : s.testSlot i = s := by
  simp [State.testSlot, State.mayRun, State.endingIdle, State.stoppedOut, h.free i]

theorem State.DarkAndStill.readDone (h : s.DarkAndStill) (i : Fin 4) (run : Nat) (kind : ReadKind)
    (data : List Byte) : s.readDone i run kind data = s := by
  simp [State.readDone, h.free i]

theorem State.DarkAndStill.readFailed (h : s.DarkAndStill) (i : Fin 4) (run : Nat) (kind : ReadKind) :
    s.readFailed i run kind = s := by
  simp [State.readFailed, h.free i]

theorem State.DarkAndStill.serve (h : s.DarkAndStill) : s.serve = s := by
  simp [State.serve, h.requests, State.serveFrom]

theorem State.DarkAndStill.examineLine (h : s.DarkAndStill) : s.examineLine = s := by
  simp [State.examineLine, h.settings]

theorem State.DarkAndStill.stopEverything (h : s.DarkAndStill) (reason : StopReason) :
    s.stopEverything reason = s :=
  State.stopEverything_idle reason h.requests fun i => ⟨h.free i, h.alone i⟩

theorem State.DarkAndStill.stopScene (h : s.DarkAndStill) (n : Fin 64) (reason : StopReason) :
    s.stopScene n reason = s := by
  refine State.stopScene_gone reason ?_
  simp [State.gone, State.slotOf, State.isSuccessor, h.requests, h.free, h.alone]

theorem State.DarkAndStill.resume (h : s.DarkAndStill) (a : Fin 4) : s.resume a = s :=
  State.resume_of_not (.inl (by rw [(h.axis a).1]; decide))

theorem State.DarkAndStill.abortAxis (h : s.DarkAndStill) (a : Fin 4) : s.abortAxis a = s :=
  State.abortAxis_still (.inl (h.axis a).1)

theorem State.DarkAndStill.axisPeriod (h : s.DarkAndStill) (a : Fin 4) : State.axisPeriod a s = s := by
  simp [State.axisPeriod, h.axisCfg]

theorem State.DarkAndStill.autoHome (h : s.DarkAndStill) (a : Fin 4) : s.autoHome a = s := by
  simp [State.autoHome, h.axisCfg]

theorem State.DarkAndStill.changeInput (h : s.DarkAndStill) (i : Fin 8) : s.changeInput i = s := by
  simp [State.changeInput, h.inputCfg]

theorem State.DarkAndStill.inputsBeat (h : s.DarkAndStill) (pins : Pins) : s.inputsBeat pins = s := by
  simp [State.inputsBeat, h.settings]

theorem State.DarkAndStill.lightingFrame (h : s.DarkAndStill) : s.lightingFrame = s := by
  simp [State.lightingFrame, h.settings]

theorem State.DarkAndStill.fallBack (h : s.DarkAndStill) : s.fallBack = s := by
  simp [State.fallBack, h.settings]

theorem State.DarkAndStill.stopNext (h : s.DarkAndStill) (v : Voice) : s.stopNext v = s := by
  obtain ⟨-, -, hnext, -⟩ := h.voice v
  simp [State.stopNext, hnext]

theorem State.DarkAndStill.chain (h : s.DarkAndStill) (v : Voice) : s.chain v = s := by
  obtain ⟨-, hcurrent, -, -⟩ := h.voice v
  simp [State.chain, hcurrent]

theorem State.DarkAndStill.voiceHoldEnds (h : s.DarkAndStill) (v : Voice) : s.voiceHoldEnds v = s := by
  simp [State.voiceHoldEnds, h.idle v]

theorem State.DarkAndStill.hearLong (h : s.DarkAndStill) (st : Fin 32) (cue : Byte) (at_ : ShowTime) :
    s.hearLong st cue at_ = s := by
  simp [State.hearLong, State.windows, h.settings, mapCue]

/-! ### What is not due -/

theorem State.DarkAndStill.awaitDue (h : s.DarkAndStill) (i : Fin 4) : s.awaitDue i = false := by
  simp [State.awaitDue, h.free i]

theorem State.DarkAndStill.cueDue (h : s.DarkAndStill) (i : Fin 4) : s.cueDue i = false := by
  unfold State.cueDue State.lastDone State.headDue
  split <;> simp [h.free i]

theorem State.DarkAndStill.mayPerform (h : s.DarkAndStill) (i : Fin 4) : s.mayPerform i = false := by
  simp [State.mayPerform, h.free i]

theorem State.DarkAndStill.mayRun (h : s.DarkAndStill) (i : Fin 4) : s.mayRun i = false := by
  simp [State.mayRun, h.free i]

theorem State.DarkAndStill.endingIdle (h : s.DarkAndStill) (i : Fin 4) : s.endingIdle i = false := by
  simp [State.endingIdle, h.free i]

theorem State.DarkAndStill.stoppedOut (h : s.DarkAndStill) (i : Fin 4) : s.stoppedOut i = false := by
  simp [State.stoppedOut, h.free i]

theorem State.DarkAndStill.grantDue (h : s.DarkAndStill) (v : Voice) : s.grantDue v = false := by
  simp [State.grantDue, h.idle v]

theorem State.DarkAndStill.quietDue (h : s.DarkAndStill) (v : Voice) : s.quietDue v = false := by
  simp [State.quietDue, h.idle v]

theorem State.DarkAndStill.clipEndDue (h : s.DarkAndStill) (v : Voice) : s.clipEndDue v = false := by
  simp [State.clipEndDue, h.idle v]

theorem State.DarkAndStill.tailEndDue (h : s.DarkAndStill) (v : Voice) : s.tailEndDue v = false := by
  simp [State.tailEndDue, h.idle v]

theorem State.DarkAndStill.guardDue (h : s.DarkAndStill) (a : Fin 4) : s.guardDue a = false := by
  simp [State.guardDue, h.axisCfg]

theorem State.DarkAndStill.starveDue (h : s.DarkAndStill) (a : Fin 4) : s.starveDue a = false := by
  simp [State.starveDue, h.axisCfg]

theorem State.DarkAndStill.holdBeginDue (h : s.DarkAndStill) : s.holdBeginDue = false := by
  simp [State.holdBeginDue, h.configured]

/-! ### The Show Clock, the Cue Scheduler and the Peer Table -/

theorem State.takePendingCues_dark (h : s.DarkAndStill) : s.takePendingCues.DarkAndStill := h

theorem State.joinPending_dark (q : PendingCue) (h : s.DarkAndStill) : (s.joinPending q).DarkAndStill := by
  unfold State.joinPending
  dsimp only
  split
  · exact h
  · split
    · exact h
    · split
      · exact State.report_dark (s := { s with csc := _ }) _ _ _ h
      · exact State.report_dark _ _ _ h

theorem State.hearShort_dark (st : Fin 32) (n : Fin 64) (at_ : ShowTime) (h : s.DarkAndStill) :
    (s.hearShort st n at_).DarkAndStill := by
  unfold State.hearShort State.hearCue
  dsimp only
  split
  · exact h
  · split
    · split
      · exact h
      · exact State.report_dark _ _ _ h
    · exact State.joinPending_dark _ h

theorem State.presentGone_dark (st : Fin 32) (h : s.DarkAndStill) : (s.presentGone st).DarkAndStill := by
  rw [State.presentGone, State.presentAir_idle h.idle]
  exact h

theorem State.expirePeer_dark (st : Fin 32) (h : s.DarkAndStill) : (s.expirePeer st).DarkAndStill := by
  unfold State.expirePeer
  refine State.presentGone_dark st ?_
  exact .ite (s := { s with ptb := _ }) h h

theorem State.holdReported_dark (h : s.DarkAndStill) : s.holdReported.DarkAndStill := h

theorem State.acceptBeacon_dark (st : Fin 32) (stamp : ShowTime) (e : Peer) (h : s.DarkAndStill) :
    (s.acceptBeacon st stamp e).DarkAndStill := by
  have hput : ({ s with ptb := putPeer e s.ptb } : State).DarkAndStill := h
  unfold State.acceptBeacon
  dsimp only
  rw [State.discipline_no_cfg _ _ hput.settings, State.presentAir_idle hput.idle]
  have hseen := State.syncTalking_dark (s := State.post { s with ptb := putPeer e s.ptb } [.peerSeen st]) hput
  exact .ite (s := State.holdReported _) (State.holdReported_dark hseen) hseen

/-! ### The Bay Bus Interface -/

theorem State.regularBoundary_dark (h : s.DarkAndStill) : s.regularBoundary.DarkAndStill := by
  obtain ⟨b, -, hboundary⟩ := State.regularBoundary_exists h.settings
  rw [hboundary]
  exact h

theorem State.adoptRate_dark (r : Rate) (h : s.DarkAndStill) : (s.adoptRate r).DarkAndStill := by
  unfold State.adoptRate
  exact .ite (State.regularBoundary_dark (s := State.onSul (State.onBus s _) _) h) h

theorem State.frameValid_dark (h : s.DarkAndStill) : s.frameValid.DarkAndStill := by
  unfold State.frameValid
  exact .ite (State.adoptRate_dark (s := State.onBus s _) _ h) h

/-- A frame whose dispatch keeps a station dark and still. -/
theorem State.frame_dark (sender : Byte) {dispatch : Fin 32 → State → State}
    (hd : ∀ st t, t.DarkAndStill → (dispatch st t).DarkAndStill) (h : s.DarkAndStill) :
    (s.frame sender dispatch).DarkAndStill :=
  State.frame_cases (P := State.DarkAndStill) s sender dispatch (State.frameValid_dark h)
    (State.report_dark _ _ _ (State.frameValid_dark h)) fun st _ => hd st _ (State.frameValid_dark h)

theorem State.doubt_dark (h : s.DarkAndStill) : s.doubt.DarkAndStill := by
  have hreport := State.report_dark (s := s.onBus fun b => { b with badRun := 0 }) .rateDoubt
    s.sul.number.val .plain h
  unfold State.doubt
  dsimp only
  rw [hreport.settings]
  exact hreport

theorem State.frameBad_dark (h : s.DarkAndStill) : s.frameBad.DarkAndStill := by
  unfold State.frameBad
  exact .ite (State.doubt_dark (s := State.onBus s _) h) h

theorem State.lineFallsIdle_dark (h : s.DarkAndStill) : s.lineFallsIdle.DarkAndStill := by
  have hbad : (if s.bus.receiving then s.frameBad else s).DarkAndStill := .ite (State.frameBad_dark h) h
  unfold State.lineFallsIdle
  exact .ite (s := State.onBus _ _) hbad hbad

theorem State.attempt_dark (h : s.DarkAndStill) : s.attempt.DarkAndStill := by
  unfold State.attempt State.begin
  split
  · dsimp only
    split <;> exact h
  · exact h

theorem State.talkLost_idle {v : Voice} (id : Nat) (h : (s.voice v).state = .idle) : s.talkLost v id = s := by
  rw [State.talkLost, State.backOff_idle h, ite_self]

theorem State.talkSent_idle {v : Voice} (id : Nat) (h : (s.voice v).state = .idle) : s.talkSent v id = s := by
  simp [State.talkSent, h]

theorem State.gaveUp_dark (m : OutMsg) (h : s.DarkAndStill) : (s.gaveUp m).DarkAndStill := by
  unfold State.gaveUp
  split
  · rw [State.talkLost_idle _ (h.idle _)]
    exact h
  · exact h
  · exact h

theorem State.giveUpEntry_dark (e : OutEntry) (h : s.DarkAndStill) : (s.giveUpEntry e).DarkAndStill :=
  State.gaveUp_dark _ (State.report_dark (s := State.onBus s _) _ _ _ h)

theorem State.giveUpBeacon_dark (h : s.DarkAndStill) : s.giveUpBeacon.DarkAndStill := by
  have hreport := State.report_dark
    (s := s.onBus fun b => { b with request := none, markedInFlight := false }) .busGiveUp
    s.sul.number.val .plain h
  unfold State.giveUpBeacon
  exact .ite (s := State.onBus _ _) hreport hreport

theorem State.giveUp_dark (h : s.DarkAndStill) : s.giveUp.DarkAndStill := by
  unfold State.giveUp
  cases s.bus.queue.find? fun e : OutEntry => 16 ≤ e.failed with
  | none =>
    dsimp only
    split
    · exact .ite (State.giveUpBeacon_dark h) h
    · exact h
  | some e =>
    have hentry := State.giveUpEntry_dark e h
    dsimp only
    split
    · exact .ite (State.giveUpBeacon_dark hentry) hentry
    · exact hentry

theorem State.jam_dark (h : s.DarkAndStill) : s.jam.DarkAndStill := by
  unfold State.jam
  split
  · exact h
  · exact .ite (s := State.onBus s _) h
      (.ite (State.giveUp_dark (s := State.onBus (State.onBus s _) _) h) h)

theorem State.reportSent_dark (m : OutMsg) (h : s.DarkAndStill) : (s.reportSent m).DarkAndStill := by
  unfold State.reportSent
  split
  · rw [State.talkSent_idle _ (h.idle _)]
    exact h
  · exact h
  · exact h
  · exact h

theorem State.sent_dark (h : s.DarkAndStill) : s.sent.DarkAndStill := by
  unfold State.sent
  split
  · exact h
  · dsimp only
    split
    · exact h
    · refine .ite (s := State.onBus s _) h ?_
      unfold State.entrySent
      split
      · exact State.reportSent_dark (s := State.onBus (State.onBus s _) _) _ h
      · exact h

theorem State.endSpacing_dark (h : s.DarkAndStill) : s.endSpacing.DarkAndStill := by
  unfold State.endSpacing
  exact .ite (s := State.onBus (State.onBus s _) _) h h

theorem State.hearTalk_dark (st : Fin 32) (h : s.DarkAndStill) : (s.hearTalk st).DarkAndStill := by
  unfold State.hearTalk
  simp only [State.backOff_idle (h.idle _), ite_self]
  exact .ite (.ite (s := State.earlyRequest s) h h) h

theorem State.talkFrame_dark (st : Fin 32) (voice : Byte) (h : s.DarkAndStill) :
    (s.talkFrame st voice).DarkAndStill := by
  unfold State.talkFrame
  split
  · exact State.hearTalk_dark st h
  · exact h

theorem State.shortFrame_dark (st : Fin 32) (target scene : Byte) (at_ : ShowTime) (h : s.DarkAndStill) :
    (s.shortFrame st target scene at_).DarkAndStill := by
  unfold State.shortFrame
  split
  · exact .ite (State.hearShort_dark _ _ _ h) h
  · exact h

/-! ### Requests, the queue and the order latch -/

theorem State.dispose_dark (n : Fin 64) (o : ReqOrigin) (h : s.DarkAndStill) :
    (s.dispose n o).DarkAndStill := by
  cases hshow : s.sul.station.runsShow with
  | false =>
    rw [State.dispose_hidden hshow]
    exact State.told_dark _ _ _ h
  | true =>
    rw [State.dispose_absent hshow (h.sceneEntry n)]
    exact State.told_dark _ _ _ (.ite h (State.report_dark _ _ _ h))

theorem State.expireRequest_dark (n : Fin 64) (h : s.DarkAndStill) : (s.expireRequest n).DarkAndStill :=
  State.report_dark (s := s.unqueue n) _ _ _ (State.onQueue_dark rfl h)

theorem State.latchTest_dark (h : s.DarkAndStill) : s.latchTest.DarkAndStill :=
  .ite (State.complete_dark _ _ _ h) h

theorem State.orderHold_dark (on : Bool) (h : s.DarkAndStill) : (s.orderHold on).DarkAndStill :=
  State.syncLocalHold_dark (s := s.onHld fun x => { x with orderHold := on }) h

theorem State.clearFaultList_dark (h : s.DarkAndStill) : s.clearFaultList.DarkAndStill := by
  have hclear : ({ s with flt := { entries := [], overflow := false } } : State).DarkAndStill := h
  have hsync := State.syncLocalHold_dark
    (State.onMte_dark (f := fun x => { x with showHold := false }) (fun _ hx => hx) hclear)
  unfold State.clearFaultList
  exact .ite (s := State.earlyRequest _) hsync hsync

theorem State.composePage_dark (page : Nat) (h : s.DarkAndStill) : (s.composePage page).DarkAndStill :=
  .ite (s := s.onLgv Lgv.note) h h

theorem State.answerRestart_dark (target : Fin 32) (h : s.DarkAndStill) :
    (s.answerRestart target).DarkAndStill := by
  have hqueued := State.enqueue_dark
    (.answer target OrderKind.restart.code outcomeDone reasonNone [] true) .sce h
  unfold State.answerRestart
  exact .ite (t := State.post _ _) hqueued hqueued

theorem State.carryOut_dark (sender : Fin 32) (o : Order) (h : s.DarkAndStill) :
    (s.carryOut sender o).DarkAndStill := by
  have hpost : (s.post [.latchTest]).DarkAndStill := h
  cases o with
  | start n => exact h
  | stop n =>
    rw [State.carryOut, hpost.stopScene]
    exact hpost
  | stopAll =>
    rw [State.carryOut, hpost.stopEverything]
    exact hpost
  | setFlag f v => exact State.complete_dark _ _ _ (State.setFlag_dark f v h)
  | hold on => exact State.complete_dark _ _ _ (State.orderHold_dark on h)
  | query page part => exact State.complete_dark _ _ _ (State.composePage_dark page h)
  | clearFaults => exact State.complete_dark _ _ _ (State.clearFaultList_dark h)
  | restart => exact State.answerRestart_dark sender h

theorem State.order_dark (kind : OrderKind) (target : Byte) (ops : List Byte) (sender : Fin 32)
    (h : s.DarkAndStill) : (State.order kind target ops sender s).DarkAndStill := by
  unfold State.order State.testOrder
  refine .ite (.ite (.ite (State.enqueue_dark _ _ h) (.ite (State.enqueue_dark _ _ h) ?_))
    (State.enqueue_dark _ _ h)) h
  split
  · exact State.enqueue_dark _ _ h
  · exact State.carryOut_dark (s := State.onSce s _) _ _ h

theorem State.orderUnknown_dark (code target : Byte) (sender : Fin 32) (h : s.DarkAndStill) :
    (State.orderUnknown code target sender s).DarkAndStill :=
  .ite (.ite (State.enqueue_dark _ _ h) (State.enqueue_dark _ _ h)) h

/-! ### Lights, voices and hold -/

theorem State.onChannel_dark (c : Fin 16) {f : Channel → Channel} (hf : ∀ x, (f x).output = x.output)
    (h : s.DarkAndStill) : (s.onChannel c f).DarkAndStill := by
  obtain ⟨-, -, -, hlights, -⟩ := State.darkAndStill_iff.1 h
  refine State.onLte_dark (fun d => ?_) h
  change ((s.onChannel c f).channel d).output = 0
  by_cases hd : d = c
  · rw [hd, State.channel_onChannel_self, hf]
    exact hlights c
  · rw [State.onChannel, State.channel_setChannel_ne _ _ hd]
    exact hlights d

theorem Channel.endBlend_output (x : Channel) : x.endBlend.output = x.output := by
  unfold Channel.endBlend
  split
  · split <;> rfl
  · rfl

theorem Channel.endRamp_output (x : Channel) : x.endRamp.output = x.output := by
  unfold Channel.endRamp
  split <;> rfl

theorem Channel.holdEnds_output (x : Channel) (goTo : Bool) : (x.holdEnds goTo).output = x.output := by
  unfold Channel.holdEnds
  dsimp only
  split <;> rfl

theorem State.lightsHoldEnds_dark (h : s.DarkAndStill) : s.lightsHoldEnds.DarkAndStill := by
  obtain ⟨-, -, -, hlights, -⟩ := State.darkAndStill_iff.1 h
  refine State.onLte_dark (fun c => ?_) h
  exact (congrArg Channel.output (vmap2_getElem _ _ _ c)).trans
    ((Channel.holdEnds_output _ _).trans (hlights c))

theorem State.endHold_dark (h : s.DarkAndStill) : s.endHold.DarkAndStill := by
  have hlit := State.lightsHoldEnds_dark
    (s := s.onHld fun x => { x with inEffect := false, release := none, releaseDue := false }) h
  have haxes : ∀ u : State, u.DarkAndStill → (forEach allAxes (fun a s => s.resume a) u).DarkAndStill :=
    fun u hu => forEach_dark (fun a w hw => by rw [hw.resume]; exact hw) hu
  have hvoices : ∀ u : State, u.DarkAndStill →
      (forEach allVoices (fun v s => s.voiceHoldEnds v) u).DarkAndStill :=
    fun u hu => forEach_dark (fun v w hw => by rw [hw.voiceHoldEnds]; exact hw) hu
  unfold State.endHold
  dsimp only
  exact State.syncTalking_dark (hvoices _ (haxes (State.post _ _) hlit))

theorem State.reportStuck_dark (h : s.DarkAndStill) : s.reportStuck.DarkAndStill :=
  State.report_dark (s := State.onHld s _) _ _ _ h

theorem State.holdBeat_dark (holdOther : Bool) (h : s.DarkAndStill) : (s.holdBeat holdOther).DarkAndStill := by
  unfold State.holdBeat
  exact .ite (s := State.onHld s _) h h

theorem State.endRetry_dark (v : Voice) (h : s.DarkAndStill) : (s.endRetry v).DarkAndStill := by
  obtain ⟨hstate, hrest⟩ := h.voice v
  rw [State.endRetry, State.judgeAir_idle (by rw [State.voice_onVoice_self]; exact hstate)]
  exact State.setVoice_dark v ⟨hstate, hrest⟩ h

/-- A voice at rest whose burst has ended. -/
theorem State.burstOver_dark (v : Voice) (h : s.DarkAndStill) :
    (s.setVoice v { s.voice v with burst := .none, burstNext := false }).DarkAndStill :=
  State.setVoice_dark v (h.voice v) h

theorem State.abandonBurst_dark (v : Voice) (h : s.DarkAndStill) : (s.abandonBurst v).DarkAndStill := by
  have hover := State.burstOver_dark v h
  unfold State.abandonBurst
  dsimp only
  split
  · rw [hover.stopNext, hover.chain]
    refine .ite (State.syncTalking_dark hover) ?_
    split
    · exact hover
    · exact hover
    · exact hover
    · next hnot _ _ => exact absurd (h.idle v) hnot
  · rw [State.refill_idle (hover.idle v)]
    exact hover
  · exact h

theorem VoiceRec.takeBurst_atRest {x : VoiceRec} (samples : List Sample) (hx : x.AtRest) :
    (x.takeBurst samples).AtRest := by
  obtain ⟨hstate, hcurrent, hnext, hqueue⟩ := hx
  exact ⟨hstate, by simp [VoiceRec.takeBurst, hcurrent], by simp [VoiceRec.takeBurst, hnext], hqueue⟩

theorem State.burstDone_dark (v : Voice) (data : List Byte) (h : s.DarkAndStill) :
    (s.burstDone v data).DarkAndStill := by
  have htaken := State.setVoice_dark v (VoiceRec.takeBurst_atRest (samplesOf data) (h.voice v)) h
  have hover := State.burstOver_dark v h
  unfold State.burstDone
  dsimp only
  split
  · rw [htaken.chain, ite_self, State.primeTest_idle (htaken.idle v), State.refill_idle (htaken.idle v)]
    exact State.syncTalking_dark htaken
  · rw [State.refill_idle (hover.idle v)]
    exact hover
  · exact h

/-! ### Inputs and the station states -/

theorem State.markStuck_dark (i : Fin 8) (h : s.DarkAndStill) : (s.markStuck i).DarkAndStill :=
  State.report_dark (s := State.onInput s i _) _ _ _ h

theorem State.inputsRestart_dark (h : s.DarkAndStill) : s.inputsRestart.DarkAndStill := by
  obtain ⟨v, g, hidle⟩ := State.idleGroups_exists
    (s.onViu fun u =>
      { u with
        inputs := vmap (fun x => { x with latch := false, presses := 0, stuck := false, held := 0 }) u.inputs
        judgeGroups := false })
  rw [State.inputsRestart, hidle]
  exact h

theorem State.enterActive_dark (h : s.DarkAndStill) : s.enterActive.DarkAndStill := by
  unfold State.enterActive
  dsimp only
  have hhomes : ∀ u : State, u.DarkAndStill → (forEach allAxes (fun a s => s.autoHome a) u).DarkAndStill :=
    fun u hu => forEach_dark (fun a w hw => by rw [hw.autoHome]; exact hw) hu
  have hactive := hhomes ((s.onSul fun u => { u with station := .active }).onViu fun u =>
    { u with judgeGroups := true, inputs := vmap (fun x => { x with held := 0 }) u.inputs }) h
  split
  · exact hactive
  · exact hactive

theorem State.beginRestart_dark (h : s.DarkAndStill) : s.beginRestart.DarkAndStill := by
  have hflags := State.clearFlags_dark (s := ((s.onBus Bus.restart).onSul fun u =>
    { u with station := .loading, restarting := true, phase := .awaitSlots }).onSce fun e =>
      { e with latch := none }) h
  have hcues : (State.post { (((s.onBus Bus.restart).onSul fun u =>
    { u with station := .loading, restarting := true, phase := .awaitSlots }).onSce fun e =>
      { e with latch := none }).clearFlags with csc := [] } [.restartTest]).DarkAndStill := hflags
  unfold State.beginRestart
  dsimp only
  rw [hcues.stopEverything]
  exact State.inputsRestart_dark (forEach_dark (fun a u hu => by rw [hu.abortAxis]; exact hu) hcues)

theorem State.loadAsk_dark (phase : LoadPhase) (address count : Nat) (h : s.DarkAndStill) :
    (s.loadAsk phase address count).DarkAndStill :=
  State.askPort_dark (s := State.onSul s _) _ _ _ h

theorem State.reload_dark (h : s.DarkAndStill) : s.reload.DarkAndStill := by
  unfold State.reload
  split
  · exact State.loadAsk_dark (s := s.portReady) _ _ _ h
  · exact State.loadAsk_dark _ _ _ h

theorem State.timeOut_dark (h : s.DarkAndStill) : s.timeOut.DarkAndStill := by
  unfold State.timeOut
  split
  · exact State.report_dark (s := State.onSmp s _) _ _ _ h
  · exact h

theorem State.failPort_dark (h : s.DarkAndStill) : s.failPort.DarkAndStill := by
  unfold State.failPort
  split
  · exact State.report_dark (s := State.onSmp s _) _ _ _ h
  · exact h

end

end Sys2Proof.Machine
end

section
/-! PROOFS. Dark and still through an instant, a beat, a sample period and every command (R171). An accepted image
is the one way out: it leaves CONFIG_FAULT with every slot FREE and no signal that could lead back. -/

namespace Sys2Proof.Machine

section
variable {s : State}

/-! ### The end of an instant -/

theorem State.handle_dark (x : Signal) (h : s.DarkAndStill) : (s.handle x).DarkAndStill := by
  cases x with
  | serve => rw [State.handle, h.serve]; exact h
  | examine => rw [State.handle, h.examineLine]; exact h
  | runCues i => rw [State.handle, h.runCues]; exact h
  | refillCues i => rw [State.handle, h.refillCues]; exact h
  | slotTest i => rw [State.handle, h.testSlot]; exact h
  | voiceIdle v before =>
    rw [State.handle, State.voiceIdleReport, State.meetAwaits_free h.free, State.resourceReport_free h.free]
    exact h
  | drained v =>
    rw [State.handle, State.voiceReport, State.judgeAwaits, State.meetAwaits_free h.free,
      State.resourceReport_free h.free]
    exact h
  | axisReport a idle before => rw [State.handle, State.axisReport_free h.free]; exact h
  | request n o => rw [State.handle]; exact State.dispose_dark n o h
  | peerSeen st => rw [State.handle, State.judgeAwaits, State.meetAwaits_free h.free]; exact h
  | groupChanged g => rw [State.handle, State.judgeAwaits, State.meetAwaits_free h.free]; exact h
  | readFailed i run kind => rw [State.handle, h.readFailed]; exact h
  | burstFailed v => rw [State.handle]; exact State.abandonBurst_dark v h
  | loadFailed =>
    rw [State.handle]
    exact State.enterFault_dark fun i => ⟨h.free i, h.alone i⟩
  | latchTest => rw [State.handle]; exact State.latchTest_dark h
  | restartTest => rw [State.handle]; exact .ite (State.reload_dark h) h
  | restartBegin => rw [State.handle]; exact State.beginRestart_dark h
  | ownCue cue at_ => rw [State.handle, h.hearLong]; exact h

theorem State.settle_dark (n : Nat) (h : s.DarkAndStill) : (State.settle n s).DarkAndStill :=
  State.settle_induct (P := State.DarkAndStill) (fun _ _ hu => hu) (fun _ x hu => State.handle_dark x hu) n s h

theorem State.finish_dark (h : s.DarkAndStill) : s.finish.DarkAndStill := by
  rw [State.finish, State.syncTx_eq]
  exact State.arbitrate_dark (State.settle_dark _ h)

/-! ### What comes due -/

theorem State.ifDue_dark (due : State → Bool) {f : State → State}
    (hf : ∀ u, u.DarkAndStill → due u = true → (f u).DarkAndStill) (h : s.DarkAndStill) :
    (s.ifDue (due s) f).DarkAndStill := by
  unfold State.ifDue
  split
  · next hdue => exact State.settle_dark _ (hf s h hdue)
  · exact h

/-- An event that is never due of a dark and still station. -/
theorem State.ifDue_never (due : State → Bool) {f : State → State}
    (hdue : ∀ u, u.DarkAndStill → due u = false) (h : s.DarkAndStill) :
    (s.ifDue (due s) f).DarkAndStill :=
  State.ifDue_dark due (fun u hu ht => absurd ht (by rw [hdue u hu]; decide)) h

theorem State.eventsOutside_dark (h : s.DarkAndStill) : s.eventsOutside.DarkAndStill := by
  unfold State.eventsOutside
  dsimp only
  refine forEach_dark (fun i u hu => ?_) (forEach_dark (fun i u hu => ?_)
    (State.ifDue_dark State.pendingDue (fun u hu _ => State.takePendingCues_dark hu)
      (forEach_dark (fun st u hu => ?_) h)))
  · exact State.ifDue_dark (·.stuckInputDue i) (fun w hw _ => State.markStuck_dark i hw) hu
  · exact State.ifDue_dark (·.changeDue i) (fun w hw _ => by rw [hw.changeInput]; exact hw) hu
  · exact State.ifDue_dark (·.peerDue st) (fun w hw _ => State.expirePeer_dark st hw) hu

theorem State.eventsHall_dark (h : s.DarkAndStill) : s.eventsHall.DarkAndStill := by
  unfold State.eventsHall
  dsimp only
  refine State.ifDue_dark State.stuckDue (fun u hu _ => State.reportStuck_dark hu)
    (State.ifDue_never State.holdBeginDue (fun u hu => hu.holdBeginDue)
      (forEach_dark (fun g u hu => ?_) h))
  exact State.ifDue_dark (·.lingerDue g) (fun w hw _ => hw) hu

theorem State.eventsBus_dark (h : s.DarkAndStill) : s.eventsBus.DarkAndStill := by
  unfold State.eventsBus
  dsimp only
  exact State.ifDue_dark State.limitDue (fun u hu _ => by rw [hu.fallBack]; exact hu)
    (State.ifDue_dark State.trialDue (fun u hu _ => hu)
      (State.ifDue_dark State.spacingDue (fun u hu _ => State.endSpacing_dark hu)
        (State.ifDue_dark State.boundaryDue (fun u hu _ => State.regularBoundary_dark hu)
          (State.ifDue_dark State.joiningDue (fun u hu _ => State.enterActive_dark hu) h))))

theorem State.eventsScenes_dark (h : s.DarkAndStill) : s.eventsScenes.DarkAndStill := by
  unfold State.eventsScenes
  dsimp only
  refine forEach_dark (fun i u hu => ?_) (forEach_dark (fun i u hu => ?_) (forEach_dark (fun n u hu => ?_) h))
  · exact State.ifDue_never (·.cueDue i) (fun w hw => hw.cueDue i) hu
  · exact State.ifDue_never (·.awaitDue i) (fun w hw => hw.awaitDue i) hu
  · exact State.ifDue_dark (·.patienceDue n) (fun w hw _ => State.expireRequest_dark n hw) hu

theorem State.eventsGate_dark (v : Voice) (h : s.DarkAndStill) : (State.eventsGate v s).DarkAndStill := by
  unfold State.eventsGate
  dsimp only
  exact State.ifDue_never (·.quietDue v) (fun u hu => hu.quietDue v)
    (State.ifDue_never (·.grantDue v) (fun u hu => hu.grantDue v)
      (State.ifDue_dark (·.retryDue v) (fun u hu _ => State.endRetry_dark v hu) h))

theorem State.eventsAxis_dark (a : Fin 4) (h : s.DarkAndStill) : (State.eventsAxis a s).DarkAndStill := by
  unfold State.eventsAxis
  dsimp only
  exact State.ifDue_never (·.starveDue a) (fun u hu => hu.starveDue a)
    (State.ifDue_never (·.guardDue a) (fun u hu => hu.guardDue a) h)

theorem State.takeDue_dark (h : s.DarkAndStill) : s.takeDue.DarkAndStill := by
  unfold State.takeDue
  dsimp only
  exact forEach_dark (fun a _ hu => State.eventsAxis_dark a hu)
    (forEach_dark (fun v _ hu => State.eventsGate_dark v hu)
      (State.eventsScenes_dark (State.eventsBus_dark (State.eventsHall_dark (State.eventsOutside_dark
        (State.ifDue_dark State.holdEndDue (fun u hu _ => State.endHold_dark hu) h))))))

theorem State.takeEnds_dark (h : s.DarkAndStill) : s.takeEnds.DarkAndStill := by
  unfold State.takeEnds
  dsimp only
  refine forEach_dark (fun v u hu => ?_) (forEach_dark (fun v u hu => ?_) h)
  · exact State.ifDue_never (·.tailEndDue v) (fun w hw => hw.tailEndDue v) hu
  · exact State.ifDue_never (·.clipEndDue v) (fun w hw => hw.clipEndDue v) hu

/-! ### A beat -/

theorem State.beatOutside_dark (pins : Pins) (h : s.DarkAndStill) : (s.beatOutside pins).DarkAndStill := by
  have hclock : ({ (s.onClk Clock.beat) with ptb := s.ptb.map (Peer.beat s.staleLimit) } : State).DarkAndStill :=
    h
  rw [State.beatOutside, hclock.inputsBeat]
  exact State.holdBeat_dark _ hclock

theorem Slot.beat_free {x : Slot} (hold : Bool) (h : x.state = .free) : x.beat hold = x := by
  cases hold <;> simp [Slot.beat, h]

theorem State.gateBeat_dark (hold : Bool) (h : s.DarkAndStill) :
    (s.onNre fun n => { n with a := n.a.gateBeat hold, b := n.b.gateBeat hold }).DarkAndStill := by
  obtain ⟨hcfg, hqueue, hslots, hlights, haudio, hvoices, haxes⟩ := State.darkAndStill_iff.1 h
  refine State.darkAndStill_iff.2 ⟨hcfg, hqueue, hslots, hlights, haudio, fun v => ?_, haxes⟩
  cases v
  · exact hvoices .a
  · exact hvoices .b

theorem State.beatCounts_dark (h : s.DarkAndStill) : s.beatCounts.DarkAndStill := by
  have hpatience : ((s.onBus Bus.beat).onSmp Port.beat).patienceBeat.DarkAndStill :=
    State.onQueue_dark (s := (s.onBus Bus.beat).onSmp Port.beat) rfl h
  have hslots := State.onSlots_dark
    (f := fun x => x.beat ((s.onBus Bus.beat).onSmp Port.beat).patienceBeat.held)
    (fun x hx => Slot.beat_free _ hx) hpatience
  have hgates := State.gateBeat_dark ((s.onBus Bus.beat).onSmp Port.beat).patienceBeat.held hslots
  have haxes := forEach_dark (xs := allAxes) (f := fun a s =>
      match s.axisCfg a with
      | some c => s.onAxis a fun x => x.timers c s.held (s.guardActive c.guardMask)
      | none => s) (fun a u hu => by rw [hu.axisCfg]; exact hu) hgates
  exact haxes

theorem State.beatShow_dark (h : s.DarkAndStill) : s.beatShow.DarkAndStill := by
  rw [State.beatShow, h.lightingFrame]
  exact forEach_dark (fun a u hu => by rw [hu.axisPeriod]; exact hu) h

theorem State.beatWork_dark (pins : Pins) (h : s.DarkAndStill) : (s.beatWork pins).DarkAndStill :=
  State.settle_dark _ (State.beatShow_dark (State.beatCounts_dark
    (State.beatOutside_dark pins (s := s.beatStart pins) h)))

theorem State.beat_dark (pins : Pins) (leave : Bool) (h : s.DarkAndStill) : (s.beat pins leave).DarkAndStill := by
  have hwork := State.beatWork_dark pins (State.takeDue_dark h)
  exact .ite hwork (State.takeDue_dark hwork)

/-! ### A sample period -/

theorem VoiceRec.sampleStep_atRest {x : VoiceRec} (hx : x.AtRest) : x.sampleStep.AtRest := by
  have hstep : x.sampleStep = { x with sample := 0#16 } := by simp only [VoiceRec.sampleStep, hx.1]
  rw [hstep]
  exact hx

theorem State.voiceSample_dark (v : Voice) (h : s.DarkAndStill) : (s.voiceSample v).DarkAndStill := by
  have hstep := State.setVoice_dark v (VoiceRec.sampleStep_atRest (h.voice v)) h
  exact .ite (State.report_dark _ _ _ hstep) hstep

theorem State.mixed_dark (h : s.DarkAndStill) : s.mixed = 0#16 := by
  simp only [State.mixed, h.settings]

/-- The audio out of a station without settings is 0 (R143). -/
theorem State.audio_dark (h : s.DarkAndStill) :
    ({ s with nre := { s.nre with audio := s.mixed } } : State).DarkAndStill := by
  obtain ⟨hcfg, hqueue, hslots, hlights, -, hvoices, haxes⟩ := State.darkAndStill_iff.1 h
  exact State.darkAndStill_iff.2 ⟨hcfg, hqueue, hslots, hlights, State.mixed_dark h,
    fun v => by cases v; exacts [hvoices .a, hvoices .b], haxes⟩

theorem State.narrationSample_dark (h : s.DarkAndStill) : s.narrationSample.DarkAndStill := by
  have hvoices := State.voiceSample_dark .b (State.voiceSample_dark .a h)
  have hmixed := State.audio_dark
    (s := ((s.voiceSample .a).voiceSample .b).onNre fun n => { n with duck := duckToward n.duck s.duckTarget })
    hvoices
  unfold State.narrationSample
  dsimp only
  rw [State.refill_idle (hmixed.idle .a), State.refill_idle (hmixed.idle .b)]
  exact hmixed

theorem State.sampleStart_dark (h : s.DarkAndStill) : s.sampleStart.DarkAndStill :=
  .ite (s := State.onLte (State.onClk s _) _) (t := State.onClk s _) h h

theorem State.samplePeriod_dark (leave : Bool) (h : s.DarkAndStill) : (s.samplePeriod leave).DarkAndStill := by
  have hwork := State.settle_dark settleFuel
    (State.narrationSample_dark (State.sampleStart_dark (State.takeEnds_dark h)))
  exact .ite hwork (State.takeEnds_dark hwork)

end

end Sys2Proof.Machine
end

section
/-! PROOFS. An accepted image is the one way by which a dark and still station leaves its state (R169, R171): it ends
in JOINING or LEARNING, and no signal that its instant posts leads back. Then every command, and CONFIG_FAULT. -/

namespace Sys2Proof.Machine

/-! ### A station with every slot FREE, and signals that leave it so -/

/-- A signal that finds nothing to do where every slot is FREE, or looks at the admission line alone. -/
def Signal.calm : Signal → Bool
  | .examine => true
  | .axisReport _ _ _ => true
  | .peerSeen _ => true
  | _ => false

/-- Every slot is FREE, every waiting signal calm, and the station's own record is `u`. -/
def State.Calm (u : Sul) (s : State) : Prop :=
  (∀ i : Fin 4, (s.slot i).state = .free) ∧ (∀ x ∈ s.agenda, x.calm = true) ∧ s.sul = u

section
variable {s : State} {u : Sul}

theorem State.DarkAndStill.calm (h : s.DarkAndStill) (hs : s.agenda = []) : s.Calm s.sul :=
  ⟨h.free, by simp [hs], rfl⟩

theorem State.Calm.post {l : List Signal} (hl : ∀ x ∈ l, x.calm = true) (h : s.Calm u) :
    (s.post l).Calm u := by
  obtain ⟨hfree, hcalm, hsul⟩ := h
  exact ⟨hfree, fun x hx => (List.mem_append.1 hx).elim (hl x) (hcalm x), hsul⟩

theorem State.Calm.post_one {x : Signal} (hx : x.calm = true) (h : s.Calm u) : (s.post [x]).Calm u :=
  h.post fun y hy => by rw [List.mem_singleton.1 hy]; exact hx

theorem State.Calm.onLgv (f : Lgv → Lgv) (h : s.Calm u) : (s.onLgv f).Calm u := h

theorem State.Calm.onSul (f : Sul → Sul) (h : s.Calm u) : (s.onSul f).Calm (f u) := by
  obtain ⟨hfree, hcalm, hsul⟩ := h
  exact ⟨hfree, hcalm, congrArg f hsul⟩

theorem State.Calm.ite {c : Prop} [Decidable c] {t : State} (hs : s.Calm u) (ht : t.Calm u) :
    (if c then s else t).Calm u := by
  split
  · exact hs
  · exact ht

theorem State.Calm.forEach {α : Type} {xs : List α} {f : α → State → State}
    (hf : ∀ x t, t.Calm u → (f x t).Calm u) (h : s.Calm u) : (forEach xs f s).Calm u :=
  forEach_induct hf xs s h

/-! ### The admission line and the axes -/

theorem State.Calm.putAxis (a : Fin 4) (x : Axis) (h : s.Calm u) : (s.putAxis a x).Calm u := by
  rw [State.putAxis_eq]
  refine State.Calm.post (s := s.setAxis a x) (fun y hy => ?_) h
  split at hy
  · exact absurd hy List.not_mem_nil
  · rw [List.mem_singleton.1 hy]
    rfl

theorem State.Calm.releaseReservation (a : Fin 4) (h : s.Calm u) : (s.releaseReservation a).Calm u :=
  .ite (State.Calm.post_one (s := State.onLgv s _) rfl h) h

theorem State.Calm.leaveLine (a : Fin 4) (h : s.Calm u) : (s.leaveLine a).Calm u :=
  .ite (State.Calm.post_one (s := State.onLgv s _) rfl h) h

theorem State.Calm.joinLine (a : Fin 4) (m : Move) (h : s.Calm u) : (s.joinLine a m).Calm u :=
  State.Calm.post_one (s := State.onLgv (s.putAxis a _) _) rfl (h.putAxis a _)

theorem State.Calm.resume (a : Fin 4) (h : s.Calm u) : (s.resume a).Calm u := by
  unfold State.resume
  dsimp only
  refine .ite ?_ h
  split
  · exact h.joinLine a _
  · exact h

theorem State.Calm.admitAxis (a : Fin 4) (c : AxisCfg) (h : s.Calm u) : (s.admitAxis a c).Calm u := by
  have hadmitted : ∀ (l : Lgv → Lgv) (x : Axis), ((s.onLgv l).putAxis a x).Calm u := fun l x =>
    State.Calm.putAxis (s := s.onLgv l) a x h
  unfold State.admitAxis
  dsimp only
  exact .ite ((hadmitted _ _).releaseReservation a) (hadmitted _ _)

theorem State.Calm.examineLine (h : s.Calm u) : s.examineLine.Calm u := by
  unfold State.examineLine
  split
  · exact .ite ((h.admitAxis _ _).post_one rfl) h
  · exact h

/-! ### The end of an instant -/

theorem State.Calm.handle {x : Signal} (hx : x.calm = true) (h : s.Calm u) : (s.handle x).Calm u := by
  cases x with
  | examine => exact h.examineLine
  | axisReport a idle before =>
    rw [State.handle, State.axisReport_free h.1]
    exact h
  | peerSeen st =>
    rw [State.handle, State.judgeAwaits, State.meetAwaits_free h.1]
    exact h
  | _ => exact absurd hx (by simp [Signal.calm])

theorem State.Calm.settle : ∀ (n : Nat) {s : State}, s.Calm u → (State.settle n s).Calm u
  | 0, _, h => h
  | n + 1, s, h => by
    unfold State.settle
    split
    · exact h
    · next x rest hagenda =>
      obtain ⟨hfree, hcalm, hsul⟩ := h
      rw [hagenda] at hcalm
      obtain ⟨hx, hrest⟩ := List.forall_mem_cons.1 hcalm
      exact State.Calm.settle n (State.Calm.handle (s := { s with agenda := rest }) hx ⟨hfree, hrest, hsul⟩)

/-- Calm signals leave the station's own record as it is. -/
theorem State.Calm.finish_sul (h : s.Calm u) : s.finish.sul = u := by
  obtain ⟨-, -, hsul⟩ := State.Calm.settle settleFuel h
  rw [State.finish, State.syncTx_eq, State.arbitrate_eq]
  exact hsul

/-! ### The acceptance of an image -/

theorem State.presentGone_idle (h : ∀ v, (s.voice v).state = .idle) (st : Fin 32) :
    s.presentGone st = s.post [.peerSeen st] := by
  rw [State.presentGone, State.presentAir_idle h]

theorem State.Calm.dropStale (hv : ∀ v, (s.voice v).state = .idle) (h : s.Calm u) : s.dropStale.Calm u := by
  have hdropped := forEach_induct
    (P := fun t => (∀ v, (t.voice v).state = .idle) ∧ t.Calm u) (f := fun e t => t.presentGone e.station)
    (fun e t ⟨htv, ht⟩ => by rw [State.presentGone_idle htv]; exact ⟨htv, ht.post_one rfl⟩)
    (s.ptb.filter fun e => !e.fresh && !inSet s.feeder e.station.val)
    { s with ptb := s.ptb.filter fun e => e.fresh || inSet s.feeder e.station.val } ⟨hv, h⟩
  exact hdropped.2

theorem State.Calm.inputsAccept (old : Option Config) (c : Config) (h : s.Calm u) :
    (s.inputsAccept old c).Calm u := .forEach (fun _ _ ht => ht) h

theorem State.Calm.lightsAccept (old : Option Config) (c : Config) (h : s.Calm u) :
    (s.lightsAccept old c).Calm u := .ite (s := State.onLte s _) (t := State.onLte s _) h h

theorem State.Calm.axisAccept (first : Bool) (c : Config) (a : Fin 4) (h : s.Calm u) :
    (State.axisAccept first c a s).Calm u := by
  have hset : ∀ f, (s.onAxis a f).Calm u := fun _ => h
  unfold State.axisAccept
  dsimp only
  exact .ite ((((hset _).putAxis a _).leaveLine a).releaseReservation a) ((hset _).resume a)

theorem State.Calm.syncLocalHold (h : s.Calm u) : s.syncLocalHold.Calm u :=
  .ite (t := State.earlyRequest (State.onHld s _)) h h

theorem State.Calm.regularBoundary (h : s.Calm u) : s.regularBoundary.Calm u := by
  have hrecompute : ∀ t : State, t.Calm u → t.recompute.Calm u := fun t ht => by
    unfold State.recompute
    split
    · exact State.Calm.post_one (s := State.onLgv t _) rfl ht
    · exact ht
  exact hrecompute (State.onBus s _) h

theorem State.Calm.enterJoining (h : s.Calm u) :
    s.enterJoining.Calm { u with station := .joining, joinTimer := 0 } :=
  (h.onSul fun r => { r with station := .joining, joinTimer := 0 }).regularBoundary

/-- After an acceptance the station is in JOINING or LEARNING (R34, R170). -/
theorem State.Calm.afterAccept (restarting : Bool) (c : Config) (h : s.Calm u) :
    ∃ w : Sul, w.station ≠ .configFault ∧ (s.afterAccept restarting c).Calm w := by
  have hjoining : Station.joining ≠ .configFault := by decide
  have hlearning : Station.learning ≠ .configFault := by decide
  unfold State.afterAccept
  split
  · exact ⟨_, hjoining, h.enterJoining⟩
  · split
    · exact ⟨_, hjoining, State.Calm.enterJoining (s := State.onBus s _) h⟩
    · exact ⟨_, hlearning, h.onSul fun r => { r with station := .learning }⟩

/-- A dark and still station that accepts an image leaves CONFIG_FAULT, or was not in it (R169, R170). -/
theorem State.accept_calm (c : Config) (h : s.DarkAndStill) (hs : s.agenda = []) :
    ∃ w : Sul, w.station ≠ .configFault ∧ (s.accept c).Calm w := by
  have hinforce : ({ s with cfg := some c } : State).Calm s.sul := h.calm hs
  have hdropped := State.Calm.dropStale (s := { s with cfg := some c }) h.idle hinforce
  have hlit := ((hdropped.inputsAccept s.cfg c).lightsAccept s.cfg c).onLgv fun l =>
    { l with allowance := c.floor }
  have haxes := State.Calm.forEach (xs := allAxes) (fun a _ ht => ht.axisAccept s.cfg.isNone c a) hlit
  have hheld := ((haxes.post_one (x := .examine) rfl).syncLocalHold).onSul fun r =>
    { r with restarting := false, phase := .idle }
  unfold State.accept
  exact hheld.afterAccept s.sul.restarting c

/-! ### The load -/

/-- Dark and still, or out of CONFIG_FAULT with nothing waiting that leads back. -/
def State.DarkOrLeft (s : State) : Prop :=
  s.DarkAndStill ∨ ∃ w : Sul, w.station ≠ .configFault ∧ s.Calm w

theorem State.loadRefused_dark (kind : FaultKind) (h : s.DarkAndStill) : (s.loadRefused kind).DarkOrLeft := by
  have hreport := State.report_dark kind s.sul.number.val .plain h
  exact .inl (State.enterFault_dark fun i => ⟨hreport.free i, hreport.alone i⟩)

theorem State.accept_dark (c : Config) (h : s.DarkAndStill) (hs : s.agenda = []) : (s.accept c).DarkOrLeft :=
  .inr (State.accept_calm c h hs)

theorem State.loadScenes_dark (c : Config) (h : s.DarkAndStill) (hs : s.agenda = []) :
    (s.loadScenes c).DarkOrLeft := by
  unfold State.loadScenes
  split
  · exact State.accept_dark c h hs
  · exact .inl (State.loadAsk_dark _ _ _ h)

theorem State.loadClips_dark (c : Config) (h : s.DarkAndStill) (hs : s.agenda = []) :
    (s.loadClips c).DarkOrLeft := by
  unfold State.loadClips
  split
  · exact State.loadScenes_dark c h hs
  · exact .inl (State.loadAsk_dark _ _ _ h)

theorem State.takeHeader_dark (data : List Byte) (h : s.DarkAndStill) : (s.takeHeader data).DarkOrLeft := by
  unfold State.takeHeader
  split
  · exact State.loadRefused_dark _ h
  · split
    · exact State.loadRefused_dark _ h
    · exact .inl (State.loadAsk_dark _ _ _ h)

theorem State.takeBody_dark (crc : BitVec 16) (body : List Byte) (h : s.DarkAndStill) (hs : s.agenda = []) :
    (s.takeBody crc body).DarkOrLeft := by
  unfold State.takeBody
  split
  · exact State.loadRefused_dark _ h
  · split
    · exact State.loadRefused_dark _ h
    · exact State.loadClips_dark _ h hs

theorem State.takeClips_dark (c : Config) (data : List Byte) (h : s.DarkAndStill) (hs : s.agenda = []) :
    (s.takeClips c data).DarkOrLeft := by
  unfold State.takeClips
  dsimp only
  split
  · exact State.loadScenes_dark _ h hs
  · exact State.loadRefused_dark _ h

theorem State.takeScenes_dark (c : Config) (data : List Byte) (h : s.DarkAndStill) (hs : s.agenda = []) :
    (s.takeScenes c data).DarkOrLeft := by
  unfold State.takeScenes
  dsimp only
  split
  · exact State.accept_dark _ h hs
  · exact State.loadRefused_dark _ h

theorem State.loadStep_dark (data : List Byte) (h : s.DarkAndStill) (hs : s.agenda = []) :
    (s.loadStep data).DarkOrLeft := by
  unfold State.loadStep
  split
  · exact State.takeHeader_dark data h
  · exact State.takeBody_dark _ data h hs
  · exact State.takeClips_dark _ data h hs
  · exact State.takeScenes_dark _ data h hs
  · exact .inl h
  · exact .inl h

theorem State.completeTransfer_dark (smin : List Byte) (h : s.DarkAndStill) (hs : s.agenda = []) :
    (s.completeTransfer smin).DarkOrLeft := by
  have hready : s.portReady.DarkAndStill := h
  unfold State.completeTransfer
  split
  · exact .inl h
  · dsimp only
    split
    · exact State.loadStep_dark (s := s.portReady) _ h hs
    · exact .inl (State.burstDone_dark _ _ hready)
    · rw [hready.readDone]
      exact .inl hready

end

/-! ### Every command -/

/-- In CONFIG_FAULT only dark and still. -/
def State.DarkInFault (s : State) : Prop := s.sul.station = .configFault → s.DarkAndStill

theorem State.DarkOrLeft.finish {s : State} (h : s.DarkOrLeft) : s.finish.DarkInFault := by
  intro hstation
  obtain hdark | ⟨w, hw, hcalm⟩ := h
  · exact State.finish_dark hdark
  · rw [hcalm.finish_sul] at hstation
    exact absurd hstation hw

section
variable {may : State → Bool} {effect : State → State} {s t : State}

/-- A command of a dark and still station whose effect leaves it dark and still, or out of CONFIG_FAULT. -/
theorem darkInFault_of_act (ht : act may effect s = .next t) (h : s.DarkAndStill)
    (he : may s = true → (effect s.tick).DarkOrLeft) : t.DarkInFault := by
  cases hmay : may s with
  | false =>
    rw [act_may_not hmay] at ht
    obtain rfl := Host.Outcome.next.inj ht
    exact fun _ => h
  | true =>
    rw [act_may hmay] at ht
    obtain rfl := Host.Outcome.next.inj ht
    exact (he hmay).finish

theorem darkInFault_of_act_dark (ht : act may effect s = .next t) (h : s.DarkAndStill)
    (he : ∀ u : State, u.DarkAndStill → (effect u).DarkAndStill) : t.DarkInFault :=
  darkInFault_of_act ht h fun _ => .inl (he s.tick h)

/-- A command that a dark and still station does not execute. -/
theorem darkInFault_of_act_never (ht : act may effect s = .next t) (h : s.DarkAndStill)
    (hmay : may s = false) : t.DarkInFault :=
  darkInFault_of_act ht h fun hdue => absurd hdue (by rw [hmay]; decide)

end

/-- Every command leaves a dark and still station so, or out of CONFIG_FAULT. -/
theorem exec_darkInFault {c : Instr} {s t : State} (h : s.DarkAndStill) (ht : exec c s = .next t) :
    t.DarkInFault := by
  unfold exec at ht
  cases c with
  | powerOnReset | pinReset =>
    obtain rfl := Host.Outcome.next.inj ht
    have hreset : Station.reset ≠ .configFault := by decide
    exact fun hstation => absurd hstation hreset
  | resetRelease straps =>
    exact darkInFault_of_act_dark ht h fun u hu =>
      State.loadAsk_dark (s := State.onClk (State.onSul u _) _) _ _ _ hu
  | beat pins leave | slewBeat pins leave =>
    exact darkInFault_of_act_dark ht h fun _ => State.beat_dark pins leave
  | samplePeriod leave => exact darkInFault_of_act_dark ht h fun _ => State.samplePeriod_dark leave
  | peerExpiry station => exact darkInFault_of_act_dark ht h fun _ => State.expirePeer_dark station
  | pendingCueDue => exact darkInFault_of_act_dark ht h fun _ => State.takePendingCues_dark
  | lineIdle => exact darkInFault_of_act_dark ht h fun _ => State.lineFallsIdle_dark
  | receptionStart | jamEnd | trialWindowEnd => exact darkInFault_of_act_dark ht h fun _ hu => hu
  | badFrame => exact darkInFault_of_act_dark ht h fun _ => State.frameBad_dark
  | rateDoubt => exact darkInFault_of_act_dark ht h fun _ => State.doubt_dark
  | beacon =>
    exact darkInFault_of_act_dark ht h fun _ => State.frame_dark _ fun st _ => State.acceptBeacon_dark st _ _
  | cueLongForm =>
    exact darkInFault_of_act_dark ht h fun _ => State.frame_dark _ fun st _ hv => by rw [hv.hearLong]; exact hv
  | cueShortForm =>
    exact darkInFault_of_act_dark ht h fun _ => State.frame_dark _ fun st _ => State.shortFrame_dark st _ _ _
  | talk =>
    exact darkInFault_of_act_dark ht h fun _ => State.frame_dark _ fun st _ => State.talkFrame_dark st _
  | answer => exact darkInFault_of_act_dark ht h fun _ => State.frame_dark _ fun _ _ hv => hv
  | start | stop | stopAll | setFlag | hold | query | clearFaults | restart =>
    exact darkInFault_of_act_dark ht h fun _ => State.frame_dark _ fun st _ => State.order_dark _ _ _ st
  | orderUnknownKind =>
    exact darkInFault_of_act_dark ht h fun _ => State.frame_dark _ fun st _ => State.orderUnknown_dark _ _ st
  | frameOfUnknownKind => exact darkInFault_of_act_dark ht h fun _ => State.frameValid_dark
  | attemptBegin => exact darkInFault_of_act_dark ht h fun _ => State.attempt_dark
  | jam => exact darkInFault_of_act_dark ht h fun _ => State.jam_dark
  | busGiveUp => exact darkInFault_of_act_dark ht h fun _ => State.giveUp_dark
  | attemptSent => exact darkInFault_of_act_dark ht h fun _ => State.sent_dark
  | regularBoundary => exact darkInFault_of_act_dark ht h fun _ => State.regularBoundary_dark
  | earlySpacingEnd => exact darkInFault_of_act_dark ht h fun _ => State.endSpacing_dark
  | learningLimit => exact darkInFault_of_act_dark ht h fun _ hu => by rw [hu.fallBack]; exact hu
  | inputChange => exact darkInFault_of_act_dark ht h fun _ hu => by rw [hu.changeInput]; exact hu
  | inputStuck => exact darkInFault_of_act_dark ht h fun _ => State.markStuck_dark _
  | lingerExpiry => exact darkInFault_of_act_dark ht h fun _ hu => hu
  | patienceExpiry => exact darkInFault_of_act_dark ht h fun _ => State.expireRequest_dark _
  | sceneReadComplete | refillReadComplete | burstComplete | loadTransferComplete =>
    exact darkInFault_of_act ht h fun _ => State.completeTransfer_dark (s := s.tick) _ h rfl
  | claimingComplete => exact darkInFault_of_act_never ht h (h.mayRun _)
  | cueDue => exact darkInFault_of_act_never ht h (h.cueDue _)
  | fade | cycle | clip | silence | move | home | flag | announce | direct | startCue | await =>
    exact darkInFault_of_act_never ht h (h.mayPerform _)
  | awaitTimeout => exact darkInFault_of_act_never ht h (h.awaitDue _)
  | endingResourcesIdle => exact darkInFault_of_act_never ht h (h.endingIdle _)
  | slotGoesFree => exact darkInFault_of_act_never ht h (h.stoppedOut _)
  | blendEnd =>
    exact darkInFault_of_act_dark ht h fun _ => State.onChannel_dark _ Channel.endBlend_output
  | overrideRampEnd =>
    exact darkInFault_of_act_dark ht h fun _ => State.onChannel_dark _ Channel.endRamp_output
  | motionStarved => exact darkInFault_of_act_never ht h (h.starveDue _)
  | guardClear => exact darkInFault_of_act_never ht h (h.guardDue _)
  | retryWaitEnd => exact darkInFault_of_act_dark ht h fun _ => State.endRetry_dark _
  | claimGranted => exact darkInFault_of_act_never ht h (h.grantDue _)
  | quietLimit => exact darkInFault_of_act_never ht h (h.quietDue _)
  | clipEnd => exact darkInFault_of_act_never ht h (h.clipEndDue _)
  | tailEnd => exact darkInFault_of_act_never ht h (h.tailEndDue _)
  | holdBegins => exact darkInFault_of_act_never ht h h.holdBeginDue
  | holdEnd => exact darkInFault_of_act_dark ht h fun _ => State.endHold_dark
  | holdLineStuck => exact darkInFault_of_act_dark ht h fun _ => State.reportStuck_dark
  | showMemoryTimeout => exact darkInFault_of_act_dark ht h fun _ => State.timeOut_dark
  | showMemoryFailed => exact darkInFault_of_act_dark ht h fun _ => State.failPort_dark
  | joiningIntervalEnd => exact darkInFault_of_act_dark ht h fun _ => State.enterActive_dark
  | restartBegin => exact darkInFault_of_act_dark ht h fun _ => State.beginRestart_dark
  | restartReload => exact darkInFault_of_act_dark ht h fun _ => State.reload_dark

theorem step_darkInFault {s t : State} (h : s.DarkAndStill) (ht : step s = .next t) : t.DarkInFault := by
  unfold step at ht
  split at ht
  · obtain rfl := Host.Outcome.next.inj ht
    exact fun _ => h
  · next c rest _ => exact exec_darkInFault (s := { s with pending := rest }) h ht

/-- Settles O56: entry to CONFIG_FAULT is one equation, and every command leaves a dark and still station dark and
still unless it leaves CONFIG_FAULT. -/
theorem configFaultIsDarkAndStill : Obligations.ConfigFaultIsDarkAndStill := by
  unfold Obligations.ConfigFaultIsDarkAndStill
  refine ⟨fun s => ?_, fun s t _ h _ ht => step_darkInFault h ht⟩
  have hdark := State.enterFault_dark (s := s)
  obtain ⟨v, g, b, p, hrequest, hfault⟩ := s.enterFault_exists
  have haxis : ∀ a, s.enterFault.axis a = (s.axis a).disabled := fun a => by
    rw [hfault]
    exact s.axis_vmap Axis.disabled a
  have hchannel : ∀ c, (s.enterFault.channel c).output = 0 := fun c => by
    rw [hfault]
    exact congrArg Channel.output (State.channel_dark (s := s) s.lte c)
  have hvoice : ∀ w, (s.enterFault.voice w).state = .idle ∧ (s.enterFault.voice w).queue = [] := fun w => by
    rw [hfault]
    cases w <;> exact ⟨rfl, rfl⟩
  refine ⟨?_, ?_, ?_, ?_, ?_, hchannel, ?_, hvoice, ?_, fun a => ?_, ?_, ?_, ?_, ?_, hdark⟩
  case refine_8 =>
    rw [haxis]
    exact ⟨rfl, rfl, rfl⟩
  all_goals rw [hfault]
  case refine_6 => exact Lgv.compose_idleAll _
  case refine_12 => exact hrequest
  all_goals rfl

end Sys2Proof.Machine
end

section
/-! PROOFS. Cues (R84 to R91): what executing a cue comes to, which cues are skipped, what those that need no
resource do, and the due cue at the head of a window. -/

namespace Sys2Proof.Machine

/-! ### Operand bytes in and out of their ranges (TABLE XXXVII, R176) -/

/-- The byte that spells a number below `n` is read as it. -/
theorem finOf_ofNat_of_le {n : Nat} (h : n ≤ 256) (k : Fin n) : finOf n (BitVec.ofNat 8 k.val) = some k := by
  have hk : (BitVec.ofNat 8 k.val).toNat = k.val := by
    rw [BitVec.toNat_ofNat]
    exact Nat.mod_eq_of_lt (lt_of_lt_of_le k.isLt h)
  simp [finOf, hk]

theorem finOf_eq_none {n : Nat} {b : Byte} (h : n ≤ b.toNat) : finOf n b = none :=
  dif_neg (Nat.not_lt.2 h)

theorem ne_of_two_le {b : Byte} (h : 2 ≤ b.toNat) : b ≠ 0#8 ∧ b ≠ 1#8 := by
  constructor <;> rintro rfl <;> revert h <;> decide

theorem boolOf_eq_none {b : Byte} (h : 2 ≤ b.toNat) : boolOf b = none := by
  simp [boolOf, ne_of_two_le h]

theorem voiceOf_eq_none {b : Byte} (h : 2 ≤ b.toNat) : voiceOf b = none := by
  simp [voiceOf, ne_of_two_le h]

theorem awaitOf_eq_none {kind : Byte} (op1 op2 : Byte) (h : 4 ≤ kind.toNat) : awaitOf kind op1 op2 = none := by
  unfold awaitOf
  split
  iterate 4 omega
  rfl

/-! ### Which cues have a meaning (R85) -/

theorem actOf_fade_none {c : Byte} (target : BitVec 16) (d : BitVec 24) (h : 16 ≤ c.toNat) :
    actOf (.fade c target d) = none := by
  simp [actOf, finOf_eq_none h]

theorem actOf_cycle_none {c k : Byte} (blend : BitVec 16) (h : 16 ≤ c.toNat ∨ 4 ≤ k.toNat) :
    actOf (.cycle c k blend) = none := by
  rcases h with h | h <;> simp [actOf, finOf_eq_none h]

theorem actOf_clip_none {v m : Byte} (n : Byte) (h : 2 ≤ v.toNat ∨ 2 ≤ m.toNat) :
    actOf (.clip v n m) = none := by
  rcases h with h | h
  · simp [actOf, voiceOf_eq_none h]
  · simp [actOf, boolOf_eq_none h]

theorem actOf_silence_none {v : Byte} (h : 2 ≤ v.toNat) : actOf (.silence v) = none := by
  simp [actOf, voiceOf_eq_none h]

theorem actOf_move_none {a k : Byte} (target : BitVec 24) (h : 4 ≤ a.toNat ∨ 4 ≤ k.toNat) :
    actOf (.move a target k) = none := by
  rcases h with h | h <;> simp [actOf, finOf_eq_none h]

theorem actOf_home_none {a : Byte} (h : 4 ≤ a.toNat) : actOf (.home a) = none := by
  simp [actOf, finOf_eq_none h]

theorem actOf_flag_none {f v : Byte} (h : 4 ≤ f.toNat ∨ 2 ≤ v.toNat) : actOf (.flag f v) = none := by
  rcases h with h | h
  · simp [actOf, finOf_eq_none h]
  · simp [actOf, boolOf_eq_none h]

theorem actOf_direct_none {st n : Byte} (delay : BitVec 16) (h : 32 ≤ st.toNat ∨ 64 ≤ n.toNat) :
    actOf (.direct st n delay) = none := by
  rcases h with h | h <;> simp [actOf, finOf_eq_none h]

theorem actOf_start_none {n : Byte} (h : 64 ≤ n.toNat) : actOf (.start n) = none := by
  simp [actOf, finOf_eq_none h]

theorem actOf_await_none {k e : Byte} (o1 o2 : Byte) (tm : BitVec 16) (h : 4 ≤ k.toNat ∨ 2 ≤ e.toNat) :
    actOf (.await k o1 o2 tm e) = none := by
  rcases h with h | h
  · simp [actOf, awaitOf_eq_none o1 o2 h]
  · simp [actOf, boolOf_eq_none h]

theorem actOf_fade (c : Fin 16) (target : BitVec 16) (d : BitVec 24) :
    actOf (.fade (BitVec.ofNat 8 c.val) target d) = some (.fade c target.toNat d.toNat) := by
  simp [actOf, finOf_ofNat_of_le]

theorem actOf_cycle (c : Fin 16) (k : Fin 4) (blend : BitVec 16) :
    actOf (.cycle (BitVec.ofNat 8 c.val) (BitVec.ofNat 8 k.val) blend) = some (.cycle c k blend.toNat) := by
  simp [actOf, finOf_ofNat_of_le]

theorem actOf_clip (v : Voice) (n : Fin 256) (cut : Bool) :
    actOf (.clip (voiceCode v) (BitVec.ofNat 8 n.val) (if cut then 1#8 else 0#8)) = some (.clip v n cut) := by
  simp [actOf, voiceOf_voiceCode, boolOf_code]

theorem actOf_silence (v : Voice) : actOf (.silence (voiceCode v)) = some (.silence v) := by
  simp [actOf, voiceOf_voiceCode]

theorem actOf_move (a : Fin 4) (target : BitVec 24) (k : Fin 4) :
    actOf (.move (BitVec.ofNat 8 a.val) target (BitVec.ofNat 8 k.val)) = some (.move a target.toInt k) := by
  simp [actOf, finOf_ofNat_of_le]

theorem actOf_home (a : Fin 4) : actOf (.home (BitVec.ofNat 8 a.val)) = some (.home a) := by
  simp [actOf, finOf_ofNat_of_le]

theorem actOf_flag (f : Fin 4) (v : Bool) :
    actOf (.flag (BitVec.ofNat 8 f.val) (if v then 1#8 else 0#8)) = some (.flag f v) := by
  simp [actOf, finOf_ofNat_of_le, boolOf_code]

theorem actOf_direct (st : Fin 32) (n : Fin 64) (delay : BitVec 16) :
    actOf (.direct (BitVec.ofNat 8 st.val) (BitVec.ofNat 8 n.val) delay) =
      some (.direct st n delay.toNat) := by
  simp [actOf, finOf_ofNat_of_le]

theorem actOf_start (n : Fin 64) : actOf (.start (BitVec.ofNat 8 n.val)) = some (.start n) := by
  simp [actOf, finOf_ofNat_of_le]

/-- A cue that names a voice needs that voice, whatever its other operands. -/
theorem needs_of_actOf_clip {v : Voice} {n m : Byte} {a : Act} (h : actOf (.clip (voiceCode v) n m) = some a) :
    a.needs = some (voicePlace v) := by
  simp only [actOf, voiceOf_voiceCode] at h
  split at h
  · rename_i w cut hw hm
    cases hw
    cases h
    rfl
  · cases h

/-- A cue that names an axis needs that axis, whatever its other operands. -/
theorem needs_of_actOf_move {x : Fin 4} {target : BitVec 24} {k : Byte} {a : Act}
    (h : actOf (.move (BitVec.ofNat 8 x.val) target k) = some a) : a.needs = some (axisPlace x) := by
  simp only [actOf, finOf_four_ofNat] at h
  split at h
  · rename_i y p hy hp
    cases hy
    cases h
    rfl
  · cases h

/-! ### Executing a cue (R84, R85) -/

section
variable {s : State} {i : Fin 4} {q : Cue} {a : Act}

theorem State.claimsFor_iff {r : Fin 6} (h : a.needs = some r) :
    s.claimsFor i a = true ↔ s.holder r = some i := by
  simp only [State.claimsFor, h, decide_eq_true_eq]

/-- A cue with its operands in range and the resource it needs in its run's claims acts. -/
theorem State.performCue_acts (hq : actOf q = some a) (hc : s.claimsFor i a = true) :
    s.performCue i q = s.perform i a := by
  simp only [State.performCue, hq, hc, if_true]

/-- A cue that has no meaning, or none within its run's claims, is skipped (R85). -/
theorem State.performCue_skips (h : ∀ a, actOf q = some a → s.claimsFor i a = false) :
    s.performCue i q = s.report .cueInvalid (s.slot i).scene.val := by
  unfold State.performCue
  split
  · rename_i a ha
    rw [h a ha]
    rfl
  · rfl

/-- A run that may execute a cue of its own: RUNNING, out of hold, its window empty (log entry 10). -/
structure State.TakesCue (s : State) (i : Fin 4) : Prop where
  running : (s.slot i).state = .running
  unheld : s.held = false
  empty : (s.slot i).window = []

variable {c : Instr} {u : State}

/-- The command of a cue executes the cue for such a run. -/
theorem exec_of_cue (h : s.TakesCue i) (hc : exec c s = act (·.mayPerform i) (·.cueCommand i q) s) :
    exec c s = .next (s.tick.performCue i q).finish := by
  rw [hc, act_may (State.mayPerform_of_running h.running h.unheld),
    State.cueCommand_of_no_window (s := s.tick) q h.empty]

theorem exec_of_act (h : s.TakesCue i) (hc : exec c s = act (·.mayPerform i) (·.cueCommand i q) s)
    (hq : actOf q = some a) (hclaims : s.claimsFor i a = true) :
    exec c s = .next (s.tick.perform i a).finish := by
  rw [exec_of_cue h hc, State.performCue_acts hq (by exact hclaims)]

/-- What a cue gives that leaves no signal. -/
theorem gives_of_cue (h : s.TakesCue i) (hc : exec c s = act (·.mayPerform i) (·.cueCommand i q) s)
    (hq : actOf q = some a) (hclaims : s.claimsFor i a = true) (hu : s.tick.perform i a = u)
    (ha : u.agenda = []) : Gives c s u := by
  show exec c s = _
  rw [exec_of_act h hc hq hclaims, hu, State.finish_atEnd ha]

theorem gives_skipped (h : s.TakesCue i) (hc : exec c s = act (·.mayPerform i) (·.cueCommand i q) s)
    (hq : ∀ a, actOf q = some a → s.claimsFor i a = false) :
    Gives c s (s.tick.report .cueInvalid (s.slot i).scene.val) := by
  show exec c s = _
  rw [exec_of_cue h hc, State.performCue_skips (by exact hq),
    State.finish_atEnd (by rw [State.report_agenda]; rfl)]
  rfl

theorem gives_skipped_of_none (h : s.TakesCue i)
    (hc : exec c s = act (·.mayPerform i) (·.cueCommand i q) s) (hq : actOf q = none) :
    Gives c s (s.tick.report .cueInvalid (s.slot i).scene.val) :=
  gives_skipped h hc fun a ha => by rw [hq] at ha; cases ha

theorem gives_skipped_of_unclaimed {r : Fin 6} (h : s.TakesCue i)
    (hc : exec c s = act (·.mayPerform i) (·.cueCommand i q) s)
    (hq : ∀ a, actOf q = some a → a.needs = some r) (hr : s.holder r ≠ some i) :
    Gives c s (s.tick.report .cueInvalid (s.slot i).scene.val) :=
  gives_skipped h hc fun a ha => by rw [← Bool.not_eq_true, State.claimsFor_iff (hq a ha)]; exact hr

end

/-- Settles O28: a cue out of range has no meaning, and one without its claim has none within its run's
claims. -/
theorem unfitCuesAreSkipped : Obligations.UnfitCuesAreSkipped := by
  unfold Obligations.UnfitCuesAreSkipped
  rintro s i hs hh hw _ rfl
  have h : s.TakesCue i := ⟨hs, hh, hw⟩
  refine ⟨fun c target d hc => ?_, fun c k blend hr => ?_, fun f v hr => ?_, fun st n delay hr => ?_,
    fun n hn => ?_, fun v n m hr => ?_, fun v hv => ?_, fun a target k hr => ?_, fun a ha => ?_,
    fun k o1 o2 tm e hr => ?_, fun v a n m target k => ⟨fun hv => ⟨?_, ?_⟩, fun ha => ⟨?_, ?_⟩⟩⟩
  · exact gives_skipped_of_none h rfl (actOf_fade_none target d hc)
  · exact gives_skipped_of_none h rfl (actOf_cycle_none blend hr)
  · exact gives_skipped_of_none h rfl (actOf_flag_none hr)
  · exact gives_skipped_of_none h rfl (actOf_direct_none delay hr)
  · exact gives_skipped_of_none h rfl (actOf_start_none hn)
  · exact gives_skipped_of_none h rfl (actOf_clip_none n hr)
  · exact gives_skipped_of_none h rfl (actOf_silence_none hv)
  · exact gives_skipped_of_none h rfl (actOf_move_none target hr)
  · exact gives_skipped_of_none h rfl (actOf_home_none ha)
  · exact gives_skipped_of_none h rfl (actOf_await_none o1 o2 tm hr)
  · exact gives_skipped_of_unclaimed h rfl (fun _ => needs_of_actOf_clip) hv
  · exact gives_skipped_of_unclaimed h rfl (fun _ hact => by rw [actOf_silence] at hact; cases hact; rfl) hv
  · exact gives_skipped_of_unclaimed h rfl (fun _ => needs_of_actOf_move) ha
  · exact gives_skipped_of_unclaimed h rfl (fun _ hact => by rw [actOf_home] at hact; cases hact; rfl) ha

/-! ### Cues that need no resource (R86, R88, R91) -/

theorem State.setFlag_agenda (s : State) (f : Fin 4) (v : Bool) : (s.setFlag f v).agenda = s.agenda := by
  unfold State.setFlag
  split <;> rfl

section
variable {s : State} {i : Fin 4}

theorem State.perform_announce (k : Byte) (delay : Nat) (h : s.bus.queue.length < 8) :
    s.perform i (.announce k delay) = s.onBus (·.place (.cueLong k (s.startAt delay)) .sce) :=
  State.enqueue_of_room h

theorem State.perform_direct (st : Fin 32) (n : Fin 64) (delay : Nat) (h : s.bus.queue.length < 8) :
    s.perform i (.direct st n delay) = s.onBus (·.place (.cueShort st n (s.startAt delay)) .sce) :=
  State.enqueue_of_room h

theorem State.perform_start (n : Fin 64) : s.perform i (.start n) = s.post [.request n (.chain i)] := rfl

end

/-- Settles O26: each cue by what performing it comes to. -/
theorem cuesWithoutClaims : Obligations.CuesWithoutClaims := by
  unfold Obligations.CuesWithoutClaims
  intro s i hs hh hw
  have h : s.TakesCue i := ⟨hs, hh, hw⟩
  refine ⟨fun c target d => ?_, fun c k blend => ?_, fun f v => ?_, fun k delay hroom => ?_,
    fun st n delay hroom => ?_, fun n => ?_⟩
  · exact gives_of_cue h rfl (actOf_fade c target d) rfl rfl rfl
  · exact gives_of_cue h rfl (actOf_cycle c k blend) rfl rfl rfl
  · exact gives_of_cue h rfl (actOf_flag f v) rfl rfl (State.setFlag_agenda s.tick f v)
  · exact gives_of_cue h rfl (a := .announce k delay.toNat) rfl rfl
      (State.perform_announce (s := s.tick) k delay.toNat hroom) rfl
  · exact gives_of_cue h rfl (actOf_direct st n delay) rfl
      (State.perform_direct (s := s.tick) st n delay.toNat hroom) rfl
  · rw [exec_of_act h rfl (actOf_start n) rfl, State.perform_start]
    rfl

/-! ### The head of a window (R84, R74) -/

section
variable {s : State} {i : Fin 4}

theorem exec_cueDue (i : Fin 4) (s : State) : exec (.cueDue i) s = act (·.cueDue i) (·.runCues i) s := rfl

theorem State.lastDone_iff (hs : (s.slot i).state = .running) :
    s.lastDone i = true ↔ s.cueCount i ≤ (s.slot i).nextCue := by
  simp [State.lastDone, hs]

theorem State.headDue_of_reached {c : LoadedCue} {rest : List LoadedCue} (hs : (s.slot i).state = .running)
    (hw : (s.slot i).window = c :: rest) (hh : s.held = false) (hc : c.offset ≤ (s.slot i).sceneTime.toNat) :
    s.headDue i = true := by
  simp [State.headDue, hs, hw, hh, hc]

theorem State.executeHead_cons {c : LoadedCue} {rest : List LoadedCue} (hw : (s.slot i).window = c :: rest) :
    s.executeHead i =
      ((s.onSlot i fun x => { x with window := rest, nextCue := x.nextCue + 1 }).post
        [.refillCues i, .runCues i]).performCue i c.cue := by
  simp only [State.executeHead, hw]

end

/-- Settles O30: a due head is executed, and a run with no cue left enters ENDING. -/
theorem dueCuesExecute : Obligations.DueCuesExecute := by
  unfold Obligations.DueCuesExecute
  intro s i hs
  refine ⟨fun c rest hw hh hleft hc => ?_, fun hdone => ?_⟩
  · have hlast : s.lastDone i = false := by
      rw [← Bool.not_eq_true, State.lastDone_iff hs]
      exact Nat.not_le.2 hleft
    have hhead : s.headDue i = true := State.headDue_of_reached hs hw hh hc
    have hrun : s.tick.runCues i = s.tick.executeHead i := by
      rw [State.runCues, show s.tick.lastDone i = false from hlast, show s.tick.headDue i = true from hhead]
      rfl
    rw [exec_cueDue, act_may (by rw [State.cueDue, hhead, Bool.or_true]), hrun,
      State.executeHead_cons (s := s.tick) hw]
  · have hlast : s.lastDone i = true := (State.lastDone_iff hs).2 hdone
    rw [exec_cueDue, act_may (by rw [State.cueDue, hlast, Bool.true_or]), State.runCues,
      if_pos (show s.tick.lastDone i = true from hlast)]

end Sys2Proof.Machine
end

section
/-! PROOFS. Orders that complete at once (R91, R99, R100, R160, R165), and orders that are turned away (R97). -/

namespace Sys2Proof.Machine

/-! ### Local hold and early requests (R28, R160) -/

theorem Bus.raiseEarly_queue (b : Bus) : b.raiseEarly.queue = b.queue :=
  (congrArg Bus.queue (Bus.raiseEarly_eq b) :)

theorem Bus.raise_raise (b : Bus) : b.raise.raise = b.raise := by
  cases h : b.request <;> simp [Bus.raise, h]

/-- A second early request at one instant merges into the first (R28, R29). -/
theorem Bus.raiseEarly_raiseEarly (b : Bus) : b.raiseEarly.raiseEarly = b.raiseEarly := by
  have hflight : b.raiseEarly.beaconInFlight = b.beaconInFlight := by
    rw [Bus.raiseEarly_eq]
    rfl
  have hspacing : b.raiseEarly.spacing = b.spacing := (congrArg Bus.spacing (Bus.raiseEarly_eq b) :)
  rw [Bus.raiseEarly.eq_def b.raiseEarly, hflight, hspacing, Bus.raiseEarly.eq_def b]
  split
  · rfl
  · split
    · rfl
    · exact b.raise_raise

/-- Local hold comes to its sources; a change raises an early request (R160). -/
theorem State.syncLocalHold_eq (s : State) :
    s.syncLocalHold =
      { s with
        hld := { s.hld with localHold := s.localSources }
        bus := if s.localSources = s.hld.localHold then s.bus else s.bus.raiseEarly } := by
  unfold State.syncLocalHold
  by_cases h : s.localSources = s.hld.localHold
  · simp only [h, if_true]
  · simp only [h, if_false]
    rfl

/-- No axis holds the show once every mark is cleared. -/
theorem State.showHold_cleared (s : State) :
    (s.onMte fun x => { x with showHold := false }).showHold = false := by
  simp [State.showHold, State.axis_vmap]

/-- What CLEAR_FAULTS leaves (R165). -/
theorem State.clearFaultList_eq {s : State} {hold : Bool}
    (h : hold = (s.cfg.isSome && (s.keyHold || s.hld.orderHold))) :
    s.clearFaultList =
      { s with
        flt := { entries := [], overflow := false }
        mte := vmap (fun x => { x with showHold := false }) s.mte
        hld := { s.hld with localHold := hold }
        bus := if s.flt.entries ≠ [] ∨ s.hld.localHold ≠ hold then s.bus.raiseEarly else s.bus } := by
  have hsources : (({ s with flt := { entries := [], overflow := false } } : State).onMte fun x =>
      { x with showHold := false }).localSources = hold := by
    rw [State.localSources, State.showHold_cleared, Bool.or_false]
    exact h.symm
  unfold State.clearFaultList
  simp only [State.syncLocalHold_eq, hsources]
  by_cases he : s.flt.entries = [] <;> by_cases hh : hold = s.hld.localHold
  · simp [he, hh]
  · simp [he, hh, Ne.symm hh]
  · simp [he, hh, State.earlyRequest, State.onBus]
  · simp [he, hh, State.earlyRequest, State.onBus, Bus.raiseEarly_raiseEarly]

/-! ### An order that completes at once (R98) -/

/-- The latch, the outbound queue and the signals that wait are as they were. -/
structure SameAnswers (s t : State) : Prop where
  latch : t.sce.latch = s.sce.latch
  queue : t.bus.queue = s.bus.queue
  agenda : t.agenda = s.agenda

section
variable {s : State} {sender : Fin 32} {kind : OrderKind} {ops : List Byte}

theorem State.setFlag_sameAnswers (s : State) (f : Fin 4) (v : Bool) : SameAnswers s (s.setFlag f v) := by
  unfold State.setFlag
  split
  · exact ⟨rfl, rfl, rfl⟩
  · exact ⟨rfl, Bus.raiseEarly_queue _, rfl⟩

theorem State.syncLocalHold_sameAnswers (s : State) : SameAnswers s s.syncLocalHold := by
  rw [State.syncLocalHold_eq]
  refine ⟨rfl, ?_, rfl⟩
  dsimp only
  split
  · rfl
  · exact Bus.raiseEarly_queue _

theorem State.clearFaultList_sameAnswers (s : State) : SameAnswers s s.clearFaultList := by
  rw [State.clearFaultList_eq rfl]
  refine ⟨rfl, ?_, rfl⟩
  dsimp only
  split
  · exact Bus.raiseEarly_queue _
  · rfl

theorem State.composePage_sameAnswers (s : State) (n : Nat) : SameAnswers s (s.composePage n) := by
  unfold State.composePage
  split <;> exact ⟨rfl, rfl, rfl⟩

/-- The work of an order does not depend on the latch that holds it. -/
theorem State.setFlag_withLatch (s : State) (f : Fin 4) (v : Bool) :
    (s.withLatch kind ops sender).setFlag f v = (s.setFlag f v).withLatch kind ops sender := by
  unfold State.setFlag
  show (if s.sce.flags.getLsbD f.val = v then _ else _) = _
  split <;> rfl

theorem State.orderHold_withLatch (s : State) (on : Bool) :
    (s.withLatch kind ops sender).orderHold on = (s.orderHold on).withLatch kind ops sender := by
  simp only [State.orderHold, State.syncLocalHold_eq]
  rfl

theorem State.composePage_withLatch (s : State) (n : Nat) :
    (s.withLatch kind ops sender).composePage n = (s.composePage n).withLatch kind ops sender := by
  unfold State.composePage
  split <;> rfl

theorem State.clearFaultList_withLatch (s : State) :
    (s.withLatch kind ops sender).clearFaultList = s.clearFaultList.withLatch kind ops sender := by
  rw [State.clearFaultList_eq rfl, State.clearFaultList_eq rfl]
  rfl

/-- A QUERY page shows neither the latch nor the reception that brought the order. -/
theorem State.queryData_heard (s : State) (page part : Nat) :
    (s.heard.withLatch kind ops sender).queryData page part = s.queryData page part := rfl

/-- The DONE of a latched order joins the outbound queue, and the latch is empty (R98). -/
theorem State.doneNow_withLatch (hl : s.sce.latch = none) (hroom : s.bus.queue.length < 8) (data : List Byte) :
    (s.withLatch kind ops sender).doneNow data = s.doneAnswer sender kind data := by
  have hempty : ((s.withLatch kind ops sender).onSce fun e => { e with latch := none }) = s := by
    show { s with sce := { s.sce with latch := none } } = s
    rw [← hl]
  show State.answer ((s.withLatch kind ops sender).onSce fun e => { e with latch := none }) sender kind.code
    outcomeDone reasonNone data = _
  rw [hempty, State.answer, State.enqueue_of_room hroom]
  rfl

/-- An order whose work is `u` is answered DONE at once. -/
theorem gives_done {c : Instr} {o : Order} {u : State} {data : List Byte} (h : s.TakesOrder sender)
    (hc : exec c s = act State.inReception (·.frame (BitVec.ofNat 8 sender.val)
      (State.order kind (BitVec.ofNat 8 s.sul.number.val) ops)) s)
    (ho : orderOf kind ops = some o)
    (hwork : (s.heard.withLatch kind ops sender).carryOut sender o = (u.withLatch kind ops sender).doneNow data)
    (hu : SameAnswers s.heard u) : Gives c s (u.doneAnswer sender kind data) := by
  obtain ⟨-, -, -, hlatch, -, -, hroom⟩ := id h
  have hlatch : u.sce.latch = none := hu.latch.trans hlatch
  have hroom : u.bus.queue.length < 8 := by
    rw [hu.queue]
    exact hroom
  show exec c s = _
  rw [hc, State.frame_order_taken h ho, hwork, State.doneNow_withLatch hlatch hroom]
  exact congrArg _ (State.finish_atEnd hu.agenda)

end

theorem orderOf_setFlag (f : Fin 4) (v : Bool) :
    orderOf .setFlag [BitVec.ofNat 8 f.val, if v then 1#8 else 0#8] = some (.setFlag f v) := by
  revert f v
  decide

theorem orderOf_hold (on : Bool) : orderOf .hold [if on then 1#8 else 0#8] = some (.hold on) := by
  cases on <;> rfl

/-- Settles O33: each order by its work, which the latch does not touch, and CLEAR_FAULTS by what it leaves. -/
theorem ordersCompleteAtOnce : Obligations.OrdersCompleteAtOnce := by
  unfold Obligations.OrdersCompleteAtOnce
  refine ⟨?_, fun s hold hhold => State.clearFaultList_eq hhold⟩
  rintro s sender h own peer rfl rfl
  refine ⟨fun f v => ?_, fun on => ?_, fun sel hsel => ?_, ?_⟩
  · exact gives_done (u := s.heard.setFlag f v) h rfl (orderOf_setFlag f v)
      (by rw [State.carryOut, State.setFlag_withLatch]) (State.setFlag_sameAnswers _ f v)
  · have hsame := State.syncLocalHold_sameAnswers (s.heard.onHld fun x => { x with orderHold := on })
    exact gives_done (u := s.heard.orderHold on) h rfl (orderOf_hold on)
      (by rw [State.carryOut, State.orderHold_withLatch]) ⟨hsame.latch, hsame.queue, hsame.agenda⟩
  · have ho : orderOf .query [sel] = some (.query (sel.toNat % 32) (sel.toNat / 32)) := if_pos hsel
    have hgives := gives_done (c := .query _ _ [sel]) (u := s.heard.composePage (sel.toNat % 32)) h rfl ho
      (by rw [State.carryOut, State.composePage_withLatch, State.queryData_heard])
      (State.composePage_sameAnswers _ _)
    exact hgives
  · exact gives_done h rfl rfl (by rw [State.carryOut, State.clearFaultList_withLatch])
      (State.clearFaultList_sameAnswers _)

/-! ### An order that is turned away (R97) -/

section
variable {s : State} {sender : Fin 32} {kind : OrderKind} {ops : List Byte} {target : Byte}

theorem OrderKind.inFault_eq_false (hq : kind ≠ .query) (hr : kind ≠ .restart) : kind.inFault = false := by
  cases kind
  case query => exact absurd rfl hq
  case restart => exact absurd rfl hr
  all_goals rfl

/-- An order of a sender outside the order set is refused. -/
theorem State.order_not_permitted (ht : target.toNat = s.sul.number.val)
    (hset : s.orderSet.getLsbD sender.val = false) :
    s.order kind target ops sender = s.answer sender kind.code outcomeRefused reasonNotPermitted [] := by
  rw [State.order, if_pos ht, inSet, hset]
  rfl

theorem State.order_permitted (ht : target.toNat = s.sul.number.val)
    (hset : s.orderSet.getLsbD sender.val = true) :
    s.order kind target ops sender = s.testOrder sender kind ops := by
  rw [State.order, if_pos ht, inSet, if_pos hset]

theorem State.testOrder_busy (h : s.sce.latch.isSome = true ∨ s.sul.restarting = true) :
    s.testOrder sender kind ops = s.answer sender kind.code outcomeBusy reasonNone [] := by
  simp [State.testOrder, State.latchBusy, h]

theorem State.testOrder_inFault (hl : s.sce.latch = none) (hr : s.sul.restarting = false)
    (hs : s.sul.station = .configFault) (hk : kind.inFault = false) :
    s.testOrder sender kind ops = s.answer sender kind.code outcomeRefused reasonConfigFault [] := by
  simp [State.testOrder, State.latchBusy, hl, hr, hs, hk]

theorem State.testOrder_badOperand (hl : s.sce.latch = none) (hr : s.sul.restarting = false)
    (hs : s.sul.station ≠ .configFault) (ho : orderOf kind ops = none) :
    s.testOrder sender kind ops = s.answer sender kind.code outcomeRefused reasonBadOperand [] := by
  simp [State.testOrder, State.latchBusy, hl, hr, hs, ho]

theorem State.orderUnknown_eq {code : Byte} (ht : target.toNat = s.sul.number.val) :
    s.orderUnknown code target sender =
      s.enqueue
        (if s.orderSet.getLsbD sender.val = true then .answer sender code outcomeUnknown reasonNone [] false
          else .answer sender code outcomeRefused reasonNotPermitted [] false) .sce := by
  unfold State.orderUnknown
  rw [if_pos ht]
  show (if s.orderSet.getLsbD sender.val = true then _ else _) = _
  split <;> rfl

/-- A frame of another station whose dispatch is one message puts it into the outbound queue. -/
theorem gives_message {c : Instr} {f : Fin 32 → State → State} {m : OutMsg} (h : s.Receiving)
    (hn : sender ≠ s.sul.number) (hroom : s.bus.queue.length < 8)
    (hc : exec c s = act State.inReception (·.frame (BitVec.ofNat 8 sender.val) f) s)
    (hf : f sender s.heard = s.heard.enqueue m .sce) : Gives c s (s.heard.onBus (·.place m .sce)) := by
  refine gives_of_act hc (State.inReception_of_receiving h) ?_ rfl
  rw [State.frame_heard f h hn, hf, State.enqueue_of_room (by exact hroom)]

end

/-- The byte of a station number is read as the number. -/
theorem toNat_stationByte (n : Fin 32) : (BitVec.ofNat 8 n.val).toNat = n.val := by
  rw [BitVec.toNat_ofNat]
  exact Nat.mod_eq_of_lt (lt_trans n.isLt (by decide))

/-- Settles O35: the first test that applies names the answer, whatever the kind. -/
theorem ordersTurnedAway : Obligations.OrdersTurnedAway := by
  unfold Obligations.OrdersTurnedAway
  rintro s sender h hn hroom own peer rfl rfl
  have ht : (BitVec.ofNat 8 s.sul.number.val).toNat = s.heard.sul.number.val := toNat_stationByte _
  refine ⟨fun code ops => gives_message h hn hroom rfl (State.orderUnknown_eq ht), ?_⟩
  rintro kind ops outcome reason hcase _ rfl
  have horder : s.heard.order kind (BitVec.ofNat 8 s.sul.number.val) ops sender =
      s.heard.answer sender kind.code outcome reason [] := by
    obtain ⟨hset, rfl, rfl⟩ | ⟨hset, hbusy, rfl, rfl⟩ | ⟨hset, hl, hr, hs, hq, hk, rfl, rfl⟩ |
      ⟨hset, hl, hr, hs, ho, rfl, rfl⟩ := hcase
    · exact State.order_not_permitted ht hset
    · rw [State.order_permitted ht hset]
      exact State.testOrder_busy hbusy
    · rw [State.order_permitted ht hset]
      exact State.testOrder_inFault hl hr hs (OrderKind.inFault_eq_false hq hk)
    · rw [State.order_permitted ht hset]
      exact State.testOrder_badOperand hl hr hs ho
  have hgives : ∀ {c : Instr}, exec c s = act State.inReception (·.frame (BitVec.ofNat 8 sender.val)
      (State.order kind (BitVec.ofNat 8 s.sul.number.val) ops)) s →
      Gives c s (s.heard.onBus (·.place (.answer sender kind.code outcome reason [] false) .sce)) :=
    fun hc => gives_message h hn hroom hc horder
  refine ⟨?_, ?_, ?_, ?_, ?_, ?_, ?_, ?_⟩
  all_goals
    rintro rfl
    exact hgives rfl

end Sys2Proof.Machine
end

section
/-! PROOFS. The QUERY pages (R100, R173, R174): how long each item of a page is, and the parts of a page. -/

namespace Sys2Proof.Machine

/-! ### The length of an item -/

@[simp] theorem length_bytesOf (x : Nat) : ∀ n, (bytesOf n x).length = n
  | 0 => rfl
  | n + 1 => congrArg Nat.succ (length_bytesOf x n)

@[simp] theorem length_bytesOfInt (n : Nat) (x : Int) : (bytesOfInt n x).length = n := length_bytesOf _ n

@[simp] theorem length_num1 (x : Nat) : (num1 x).length = 1 := length_bytesOf x 1

@[simp] theorem length_num2 (x : Nat) : (num2 x).length = 2 := length_bytesOf x 2

@[simp] theorem length_num3 (x : Nat) : (num3 x).length = 3 := length_bytesOf x 3

@[simp] theorem length_num4 (x : Nat) : (num4 x).length = 4 := length_bytesOf x 4

theorem length_optItem {size : Nat} {o : Option (List Byte)}
    (h : ∀ bytes, o = some bytes → bytes.length = size) :
    (optItem size o).length = size + 1 := by
  cases o with
  | none => simp [optItem]
  | some bytes => simp [optItem, h bytes rfl]

/-- An optional item of a fixed layout has one length, present or not. -/
@[simp] theorem length_optItem_map {α : Type} {size : Nat} {f : α → List Byte} {o : Option α}
    (h : ∀ x, (f x).length = size) : (optItem size (o.map f)).length = size + 1 := by
  refine length_optItem fun bytes hb => ?_
  obtain ⟨x, -, rfl⟩ := Option.map_eq_some_iff.1 hb
  exact h x

theorem length_noneItem_map {α : Type} {size : Nat} {f : α → List Byte} {o : Option α}
    (h : ∀ x, (f x).length = size) : (noneItem size (o.map f)).length = size := by
  cases o with
  | none => simp [noneItem]
  | some x => simp [noneItem, h x]

theorem length_flatMap_of_const {α : Type} {f : α → List Byte} {n : Nat} (h : ∀ x, (f x).length = n)
    (l : List α) : (l.flatMap f).length = l.length * n := by
  rw [List.length_flatMap, List.map_congr_left fun x _ => h x]
  simp

theorem length_flatMap_le {α : Type} {f : α → List Byte} {n : Nat} (h : ∀ x, (f x).length ≤ n) (l : List α) :
    (l.flatMap f).length ≤ l.length * n := by
  induction l with
  | nil => simp
  | cons x l ih =>
    have := h x
    simp only [List.flatMap_cons, List.length_append, List.length_cons, Nat.succ_mul]
    omega

/-- A list that does not pass its capacity fills the same bytes whatever it holds. -/
theorem length_listItem {α : Type} {capacity size : Nat} {f : α → List Byte} (h : ∀ x, (f x).length = size)
    {l : List α} (hl : l.length ≤ capacity) :
    (listItem capacity size (l.map f)).length = 1 + capacity * size := by
  have hbytes : ((l.map f).flatten).length = l.length * size := by
    rw [← List.flatMap_def, length_flatMap_of_const h]
  have hsum : l.length * size + (capacity - l.length) * size = capacity * size := by
    rw [← Nat.add_mul, Nat.add_sub_cancel' hl]
  simp only [listItem, List.length_append, length_num1, hbytes, List.length_map, List.length_replicate]
  omega

theorem length_placesItem {α : Type} {size : Nat} {f : α → List Byte} (h : ∀ x, (f x).length = size) (k : Nat)
    (l : List α) : (placesItem size k (l.map f)).length = 4 * (size + 1) :=
  length_flatMap_of_const (n := size + 1) (fun j => by rw [List.getElem?_map, length_optItem_map h])
    [0, 1, 2, 3]

/-! ### The length of a page (TABLE XLI) -/

theorem State.length_slotItem (s : State) (i : Fin 4) : (s.slotItem i).length ≤ 20 := by
  unfold State.slotItem
  dsimp only
  split <;> simp

theorem length_queuedItem (q : Queued) : q.item.length = 3 := by simp [Queued.item]

theorem length_heldItem (c : Held) : c.item.length = 9 := by simp [Held.item]

theorem length_voiceItem {x : VoiceRec} (h : x.queue.length ≤ 4) : x.item.length = 40 := by
  have htail : (optItem 1 (if x.state = .tailing then some [flagByte x.tailPause] else none)).length = 2 := by
    split <;> rfl
  simp [VoiceRec.item, htail, length_optItem_map length_heldItem, length_listItem length_queuedItem h,
    length_noneItem_map length_num1]

theorem length_moveItem (m : Move) : m.item.length = 5 := by cases m <;> simp [Move.item]

theorem State.length_axisItem (s : State) (a : Fin 4) : (s.axisItem a).length = 28 := by
  simp [State.axisItem, length_optItem_map length_moveItem]

theorem length_channelItem (x : Channel) : x.item.length = 26 := by
  have hfade : (optItem 5 x.course.fadeItem).length = 6 := by
    cases x.course <;> simp [Course.fadeItem, optItem]
  have hblend : (optItem 2 x.course.blendItem).length = 3 := by
    cases x.course <;> simp [Course.blendItem, optItem]
  simp [Channel.item, hfade, hblend]

theorem length_faultItem (e : FaultEntry) : e.item.length = 12 := by simp [FaultEntry.item]

theorem length_peerItem (e : Peer) : e.item.length = 6 := by simp [Peer.item]

theorem State.length_summaryHead (s : State) : s.summaryHead.length = 20 := by simp [State.summaryHead]

theorem State.length_summaryTail {s : State} (h : s.sce.queue.length ≤ 8) : s.summaryTail.length = 28 := by
  have hqueue : (listItem 8 1 (s.sce.queue.map fun q => num1 q.scene.val)).length = 9 :=
    length_listItem (fun q => length_num1 q.scene.val) h
  simp [State.summaryTail, hqueue, length_flatMap_of_const fun x : InputRec => length_num1 x.presses,
    length_flatMap_of_const fun g : Group => length_num1 g.state.code]

theorem State.length_channelItems (s : State) (k : Nat) : (s.channelItems k).length ≤ 104 := by
  rw [State.channelItems, length_flatMap_of_const length_channelItem, List.length_take]
  omega

theorem State.length_identity (s : State) : s.identity.length = 6 := by
  simp [State.identity, length_noneItem_map]

/-- A page of a state whose lists keep their capacities fits the eight parts of a QUERY. -/
theorem State.length_page {s : State} (n : Nat) (hq : s.sce.queue.length ≤ 8) (ha : s.nre.a.queue.length ≤ 4)
    (hb : s.nre.b.queue.length ≤ 4) : (s.page n).length ≤ 160 := by
  have hslots : (allSlots.flatMap s.slotItem).length ≤ 4 * 20 := length_flatMap_le s.length_slotItem allSlots
  have haxes : (allAxes.flatMap s.axisItem).length = 4 * 28 := length_flatMap_of_const s.length_axisItem allAxes
  have hchannels := s.length_channelItems (n - 4)
  unfold State.page
  split_ifs
  · simp [s.length_summaryHead, State.length_summaryTail hq]
  · omega
  · simp [length_voiceItem ha, length_voiceItem hb]
  · omega
  · omega
  · simp [length_placesItem length_faultItem]
  · simp [length_placesItem length_peerItem]
  · simp [s.length_identity]

/-! ### Parts (R174) -/

/-- Parts of `k` elements each, in order, are the front of the list. -/
theorem flatMap_parts {α : Type} (k : Nat) (l : List α) :
    ∀ n, ((List.range n).flatMap fun p => (l.drop (k * p)).take k) = l.take (k * n)
  | 0 => by simp
  | n + 1 => by
    rw [List.range_succ, List.flatMap_append, flatMap_parts k l n, Nat.mul_succ, List.take_add]
    simp

/-- Settles O36: a page by the length of its items, its parts by what lists cut into parts are, and the identity
page by its items. -/
theorem queryPartsMakeThePage : Obligations.QueryPartsMakeThePage := by
  unfold Obligations.QueryPartsMakeThePage
  refine ⟨fun s page => ⟨fun part => ?_, flatMap_parts 20 (s.page page) 8, State.length_page page⟩, ?_⟩
  · exact List.length_take_le 20 _
  intro s rate port image hnone h250 h500 h1000 hcfg haccepted hready hbusy hfailed
  have hrate : noneItem 1 (s.bus.rate.map fun r => num1 (rateCode r)) = [rate] := by
    rcases hr : s.bus.rate with _ | _ | _ | _
    · rw [hnone hr]
      rfl
    · rw [h250 hr]
      rfl
    · rw [h500 hr]
      rfl
    · rw [h1000 hr]
      rfl
  have himage : noneItem 3 (s.cfg.map fun c => num1 1 ++ num2 c.crc.toNat) = image := by
    rcases hc : s.cfg with _ | c
    · rw [hcfg hc]
      rfl
    · rw [haccepted c hc]
      rfl
  have hport : num1 s.smp.state.code = [port] := by
    rcases hp : s.smp.state with _ | ⟨t, b⟩ | _
    · rw [hready hp]
      rfl
    · rw [hbusy t b hp]
      show num1 1 = [1#8]
      rfl
    · rw [hfailed hp]
      rfl
  have hnumber : num1 s.sul.number.val = [BitVec.ofNat 8 s.sul.number.val] := by simp [num1, bytesOf]
  show s.identity = _
  rw [State.identity, hrate, himage, hport, hnumber]
  rfl

end Sys2Proof.Machine
end

section
/-! PROOFS. Cues that name a voice or an axis (R85, R87, R129 to R132, R138, R151): what refills,
starts of priming and stops make of the clips of a voice. -/

namespace Sys2Proof.Machine

/-! ### One voice written, and the other -/

section
variable {s s₀ t : State} {v w : Voice}

theorem State.voice_setVoice_ne (s : State) (x : VoiceRec) (h : w ≠ v) :
    (s.setVoice v x).voice w = s.voice w := by
  cases v <;> cases w
  case a.a => exact absurd rfl h
  case b.b => exact absurd rfl h
  all_goals rfl

theorem otherVoice_ne (v : Voice) : otherVoice v ≠ v := by cases v <;> decide

theorem State.setVoice_setVoice (s : State) (v : Voice) (x y : VoiceRec) :
    (s.setVoice v x).setVoice v y = s.setVoice v y := by
  cases v <;> rfl

theorem State.voice_of_nre (h : t.nre = s.nre) (w : Voice) : t.voice w = s.voice w := by
  simp only [State.voice, h]

theorem State.askPort_nre (s : State) (who : Requester) (address count : Nat) :
    (s.askPort who address count).nre = s.nre := by
  unfold State.askPort
  dsimp only
  split
  · rfl
  · rw [State.arbitrate_eq]
    rfl

theorem State.askPort_signals (s : State) (who : Requester) (address count : Nat) :
    s.agenda ⊆ (s.askPort who address count).agenda := by
  unfold State.askPort
  dsimp only
  split
  · exact List.subset_append_right _ _
  · rw [State.arbitrate_eq]
    exact List.Subset.refl _

theorem State.enqueue_nre (s : State) (m : OutMsg) (o : Origin) : (s.enqueue m o).nre = s.nre := by
  obtain ⟨-, he⟩ | ⟨-, he | he⟩ := s.enqueue_cases m o
  · rw [he]
    rfl
  · rw [he]
  · rw [he, State.report_eq]

theorem State.enqueue_agenda (s : State) (m : OutMsg) (o : Origin) : (s.enqueue m o).agenda = s.agenda := by
  obtain ⟨-, he⟩ | ⟨-, he | he⟩ := s.enqueue_cases m o
  · rw [he]
    rfl
  · rw [he]
  · rw [he, State.report_agenda]

/-! ### What a refill and a start of priming make of a voice (R137, R140) -/

/-- A refill test either does nothing or marks a burst outstanding and asks the port for it. -/
theorem State.refill_cases (s : State) (v : Voice) :
    s.refill v = s ∨ ∃ ofNext address count,
      s.refill v =
        (s.setVoice v { s.voice v with burst := .outstanding, burstNext := ofNext }).askPort (.voice v) address
          count := by
  unfold State.refill
  dsimp only
  repeat' split
  all_goals first
    | exact .inl rfl
    | exact .inr ⟨_, _, _, rfl⟩

theorem State.voice_refill_self (s : State) (v : Voice) :
    ∃ burst ofNext, (s.refill v).voice v = { s.voice v with burst := burst, burstNext := ofNext } := by
  obtain h | ⟨_, _, _, h⟩ := s.refill_cases v
  · exact ⟨_, _, by rw [h]⟩
  · exact ⟨_, _, by rw [h, State.voice_of_nre (State.askPort_nre _ _ _ _), State.voice_setVoice_self]⟩

theorem State.voice_refill_ne (s : State) (h : w ≠ v) : (s.refill v).voice w = s.voice w := by
  obtain hr | ⟨_, _, _, hr⟩ := s.refill_cases v
  · rw [hr]
  · rw [hr, State.voice_of_nre (State.askPort_nre _ _ _ _), State.voice_setVoice_ne _ _ h]

theorem State.voice_primeTest_ne (s : State) (h : w ≠ v) : (s.primeTest v).voice w = s.voice w := by
  unfold State.primeTest
  dsimp only
  split
  · exact State.voice_setVoice_ne _ _ h
  · rfl

theorem State.voice_enterPriming_ne (s : State) (air : AirMark) (h : w ≠ v) :
    (s.enterPriming v air).voice w = s.voice w := by
  rw [State.enterPriming, State.voice_primeTest_ne _ h, State.voice_refill_ne _ h]
  exact State.voice_setVoice_ne _ _ h

theorem State.voice_shareAir_ne (s : State) (h : w ≠ v) : (s.shareAir v).voice w = s.voice w := by
  unfold State.shareAir
  split
  · exact s.voice_enterPriming_ne _ h
  · exact s.voice_enterPriming_ne _ h
  · rfl

/-- A voice that does not wait for the air takes no share of it (R134). -/
theorem State.voice_shareAir (s : State) (v : Voice) (hq : (s.voice w).state ≠ .waitQuiet)
    (hc : (s.voice w).state ≠ .claiming) : (s.shareAir v).voice w = s.voice w := by
  by_cases h : w = v
  · subst h
    unfold State.shareAir
    split
    · exact absurd ‹_› hq
    · exact absurd ‹_› hc
    · rfl
  · exact s.voice_shareAir_ne h

/-- The talking flag is brought up without touching a voice that does not wait for the air (R144, R134). -/
theorem State.voice_syncTalking (s : State) (hq : (s.voice w).state ≠ .waitQuiet)
    (hc : (s.voice w).state ≠ .claiming) : s.syncTalking.voice w = s.voice w := by
  have hflag : (s.onNre fun n => { n with talking := s.nre.a.talks || s.nre.b.talks }).earlyRequest.voice w =
      s.voice w := by cases w <;> rfl
  unfold State.syncTalking
  dsimp only
  split
  · rfl
  · split
    · have ha := State.voice_shareAir (w := w) _ .a (by rw [hflag]; exact hq) (by rw [hflag]; exact hc)
      rw [State.voice_shareAir _ .b (by rw [ha, hflag]; exact hq) (by rw [ha, hflag]; exact hc), ha, hflag]
    · exact hflag

/-! ### What leaves the clips of the voices as they are -/

/-- Which clips the voices have, current, next and queued, is as it was, and no signal is lost. -/
structure SameClips (s t : State) : Prop where
  queue : ∀ w, (t.voice w).queue = (s.voice w).queue
  next : ∀ w, (t.voice w).next = (s.voice w).next
  clip : ∀ w, ((t.voice w).current.map fun c => (c.clip, c.owner)) =
    (s.voice w).current.map fun c => (c.clip, c.owner)
  signals : s.agenda ⊆ t.agenda

theorem SameClips.refl (s : State) : SameClips s s :=
  ⟨fun _ => rfl, fun _ => rfl, fun _ => rfl, List.Subset.refl _⟩

theorem SameClips.trans (h : SameClips s₀ s) (g : SameClips s t) : SameClips s₀ t :=
  ⟨fun w => (g.queue w).trans (h.queue w), fun w => (g.next w).trans (h.next w),
    fun w => (g.clip w).trans (h.clip w), List.Subset.trans h.signals g.signals⟩

theorem SameClips.of_same (h : SameClips s₀ s) (hn : ∀ w, t.voice w = s.voice w) (ha : s.agenda ⊆ t.agenda) :
    SameClips s₀ t :=
  h.trans ⟨fun w => by rw [hn], fun w => by rw [hn], fun w => by rw [hn], ha⟩

theorem State.setVoice_sameClips (v : Voice) {x : VoiceRec} (hq : x.queue = (s.voice v).queue)
    (hn : x.next = (s.voice v).next)
    (hc : (x.current.map fun c => (c.clip, c.owner)) = (s.voice v).current.map fun c => (c.clip, c.owner))
    (h : SameClips s₀ s) : SameClips s₀ (s.setVoice v x) := by
  have hread : ∀ {β : Type} (f : VoiceRec → β), f x = f (s.voice v) →
      ∀ w, f ((s.setVoice v x).voice w) = f (s.voice w) := fun f hf w => by
    by_cases hw : w = v
    · rw [hw, State.voice_setVoice_self, hf]
    · rw [State.voice_setVoice_ne _ _ hw]
  exact h.trans ⟨hread _ hq, hread _ hn, hread (fun y => y.current.map fun c => (c.clip, c.owner)) hc,
    by rw [State.setVoice_agenda]; exact List.Subset.refl _⟩

theorem State.refill_sameClips (v : Voice) (h : SameClips s₀ s) : SameClips s₀ (s.refill v) := by
  obtain hr | ⟨_, _, _, hr⟩ := s.refill_cases v
  · rwa [hr]
  · rw [hr]
    refine SameClips.of_same (State.setVoice_sameClips v ?_ ?_ ?_ h)
      (State.voice_of_nre (State.askPort_nre _ _ _ _)) (State.askPort_signals _ _ _ _)
    all_goals rfl

theorem State.primeTest_sameClips (v : Voice) (h : SameClips s₀ s) : SameClips s₀ (s.primeTest v) := by
  unfold State.primeTest
  dsimp only
  split
  · exact State.setVoice_sameClips v rfl rfl rfl h
  · exact h

theorem State.enterPriming_sameClips (v : Voice) (air : AirMark) (h : SameClips s₀ s) :
    SameClips s₀ (s.enterPriming v air) :=
  State.primeTest_sameClips v (State.refill_sameClips v (State.setVoice_sameClips v rfl rfl
    (Option.map_map _ _ _) h))

theorem State.judgeAir_sameClips (v : Voice) (h : SameClips s₀ s) : SameClips s₀ (s.judgeAir v) := by
  unfold State.judgeAir
  dsimp only
  repeat' split
  · exact h
  · refine SameClips.of_same (State.setVoice_sameClips v ?_ ?_ ?_ h)
      (State.voice_of_nre (State.enqueue_nre _ _ _))
      (by rw [State.enqueue_agenda]; exact List.Subset.refl _)
    all_goals rfl
  · exact State.setVoice_sameClips v rfl rfl rfl h
  · exact h

theorem State.shareAir_sameClips (v : Voice) (h : SameClips s₀ s) : SameClips s₀ (s.shareAir v) := by
  unfold State.shareAir
  split
  · exact State.enterPriming_sameClips v _ h
  · exact State.enterPriming_sameClips v _ h
  · exact h

theorem State.syncTalking_sameClips (h : SameClips s₀ s) : SameClips s₀ s.syncTalking := by
  have hflag : SameClips s₀
      (s.onNre fun n => { n with talking := s.nre.a.talks || s.nre.b.talks }).earlyRequest :=
    h.of_same (fun w => by cases w <;> rfl) (List.Subset.refl _)
  unfold State.syncTalking
  dsimp only
  split
  · exact h
  · split
    · exact State.shareAir_sameClips .b (State.shareAir_sameClips .a hflag)
    · exact hflag

end

/-! ### Starting, dropping and stopping clips (R131, R132) -/

section
variable {s : State} {v : Voice}

theorem State.startHead_nil (h : (s.voice v).queue = []) :
    s.startHead v =
      (s.setVoice v { s.voice v with state := .idle, current := none, retry := none, claim := none }).post
        [.voiceIdle v s.sce.nextAwait] := by
  simp only [State.startHead, h]

/-- The head of the queue becomes the current clip, whatever the earshot gate then has the voice do. -/
theorem State.startHead_cons {q : Queued} {rest : List Queued} (h : (s.voice v).queue = q :: rest) :
    SameClips (s.setVoice v { s.voice v with current := some (s.newHeld q .none), queue := rest })
      (s.startHead v) := by
  have htaken := SameClips.refl
    (s.setVoice v { s.voice v with current := some (s.newHeld q .none), queue := rest })
  simp only [State.startHead, h]
  split
  · exact State.enterPriming_sameClips v _ htaken
  · split
    · exact State.enterPriming_sameClips v _ htaken
    · refine State.judgeAir_sameClips v ?_
      have hwaits := State.setVoice_sameClips v
        (x := { s.voice v with
          current := some (s.newHeld q .none), queue := rest, state := .waitQuiet, quiet := 0, retry := none
          claim := none })
        (by rw [State.voice_setVoice_self]) (by rw [State.voice_setVoice_self])
        (by rw [State.voice_setVoice_self]) htaken
      rwa [State.setVoice_setVoice] at hwaits

theorem State.startHead_next (s : State) (v : Voice) : ((s.startHead v).voice v).next = (s.voice v).next := by
  rcases hq : (s.voice v).queue with _ | ⟨q, rest⟩
  · rw [State.startHead_nil hq]
    show ((s.setVoice v _).voice v).next = _
    rw [State.voice_setVoice_self]
  · rw [(State.startHead_cons hq).next, State.voice_setVoice_self]

theorem State.startHead_otherQueue (s : State) (v : Voice) :
    ((s.startHead v).voice (otherVoice v)).queue = (s.voice (otherVoice v)).queue := by
  rcases hq : (s.voice v).queue with _ | ⟨q, rest⟩
  · rw [State.startHead_nil hq]
    show ((s.setVoice v _).voice _).queue = _
    rw [State.voice_setVoice_ne _ _ (otherVoice_ne v)]
  · rw [(State.startHead_cons hq).queue, State.voice_setVoice_ne _ _ (otherVoice_ne v)]

/-- Dropping the next context writes its place in the ring alone (R132). -/
theorem VoiceRec.dropNext_exists (x : VoiceRec) : ∃ write fill burst,
    x.dropNext = { x with next := none, boundary := none, write := write, fill := fill, burst := burst } := by
  unfold VoiceRec.dropNext
  split
  · exact ⟨_, _, _, rfl⟩
  · exact ⟨_, _, _, rfl⟩

/-- A voice without a next context: all but that context and its place in the ring is as it was. -/
theorem State.voice_stopNext (s : State) (v : Voice) : ∃ boundary write fill burst,
    (s.stopNext v).voice v =
      { s.voice v with next := none, boundary := boundary, write := write, fill := fill, burst := burst } := by
  unfold State.stopNext
  split
  · rename_i hn
    exact ⟨_, _, _, _, by rw [← hn]⟩
  · obtain ⟨write, fill, burst, hd⟩ := (s.voice v).dropNext_exists
    refine ⟨none, write, fill, burst, ?_⟩
    show (s.onVoice v (·.dropNext)).voice v = _
    rw [State.voice_onVoice_self, hd]

theorem State.voice_stopNext_other (s : State) (v : Voice) :
    (s.stopNext v).voice (otherVoice v) = s.voice (otherVoice v) := by
  unfold State.stopNext
  split
  · rfl
  · exact State.voice_setVoice_ne _ _ (otherVoice_ne v)

theorem State.stopCurrent_idle (h : (s.voice v).state = .idle) : s.stopCurrent v = s := by
  simp only [State.stopCurrent, h]

/-- A clip that waits for the air is dropped, and the head takes its place (R132). -/
theorem State.stopCurrent_waiting (h : (s.voice v).state = .waitQuiet ∨ (s.voice v).state = .claiming) :
    s.stopCurrent v = ((s.setVoice v { s.voice v with current := none }).startHead v).post [.drained v] := by
  rcases h with h | h <;> simp only [State.stopCurrent, h]

/-- With nothing queued the voice that waited is IDLE, and says so (R131, R132). -/
theorem State.stopCurrent_waiting_nil (h : (s.voice v).state = .waitQuiet ∨ (s.voice v).state = .claiming)
    (hq : (s.voice v).queue = []) :
    s.stopCurrent v =
      (s.setVoice v { s.voice v with state := .idle, current := none, retry := none, claim := none }).post
        [.drained v, .voiceIdle v s.sce.nextAwait] := by
  have hself := s.voice_setVoice_self v { s.voice v with current := none }
  rw [State.stopCurrent_waiting h, State.startHead_nil (by rw [hself]; exact hq), hself,
    State.setVoice_setVoice, State.setVoice_sce]
  rfl

/-- A clip that sounds, or a tail, goes on as a tail that ends in a stop (R132, R141). -/
theorem State.stopCurrent_sounding (hi : (s.voice v).state ≠ .idle) (hw : (s.voice v).state ≠ .waitQuiet)
    (hc : (s.voice v).state ≠ .claiming) : s.stopCurrent v = s.setVoice v (s.voice v).tailStop := by
  unfold State.stopCurrent
  dsimp only
  split
  · exact absurd ‹_› hi
  · exact absurd ‹_› hw
  · exact absurd ‹_› hc
  · rfl

/-- The states in which a clip sounds before its tail. -/
abbrev VoiceRec.Sounds (x : VoiceRec) : Prop := x.state = .priming ∨ x.state = .playing ∨ x.state = .paused

theorem VoiceRec.tailStop_of_sounds {x : VoiceRec} (h : x.Sounds) :
    x.tailStop = { x with state := .tailing, tailPause := false, tailCount := 0, goal := 0 } := by
  rcases h with h | h | h <;> simp only [VoiceRec.tailStop, h]

theorem VoiceRec.tailStop_of_tailing {x : VoiceRec} (h : x.state = .tailing) :
    x.tailStop = { x with tailPause := false } := by
  simp only [VoiceRec.tailStop, h]

theorem State.stopCurrent_sounds (h : (s.voice v).Sounds) :
    s.stopCurrent v =
      s.setVoice v { s.voice v with state := .tailing, tailPause := false, tailCount := 0, goal := 0 } := by
  rw [State.stopCurrent_sounding, VoiceRec.tailStop_of_sounds h]
  all_goals rcases h with h | h | h <;> rw [h] <;> exact VoiceState.noConfusion

theorem State.stopCurrent_tailing (h : (s.voice v).state = .tailing) :
    s.stopCurrent v = s.setVoice v { s.voice v with tailPause := false } := by
  rw [State.stopCurrent_sounding, VoiceRec.tailStop_of_tailing h]
  all_goals rw [h]; exact VoiceState.noConfusion

theorem VoiceRec.tailStop_next (x : VoiceRec) : x.tailStop.next = x.next := by
  unfold VoiceRec.tailStop
  split <;> rfl

theorem State.stopCurrent_next (s : State) (v : Voice) :
    ((s.stopCurrent v).voice v).next = (s.voice v).next := by
  have hgate : ((((s.setVoice v { s.voice v with current := none }).startHead v).post [.drained v]).voice
      v).next = (s.voice v).next := by
    show (((s.setVoice v _).startHead v).voice v).next = _
    rw [State.startHead_next, State.voice_setVoice_self]
  unfold State.stopCurrent
  dsimp only
  split
  · rfl
  · exact hgate
  · exact hgate
  · rw [State.voice_setVoice_self, VoiceRec.tailStop_next]

theorem State.stopCurrent_otherQueue (s : State) (v : Voice) :
    ((s.stopCurrent v).voice (otherVoice v)).queue = (s.voice (otherVoice v)).queue := by
  have hset : ∀ x, (s.setVoice v x).voice (otherVoice v) = s.voice (otherVoice v) := fun x =>
    s.voice_setVoice_ne x (otherVoice_ne v)
  have hgate : ((((s.setVoice v { s.voice v with current := none }).startHead v).post [.drained v]).voice
      (otherVoice v)).queue = (s.voice (otherVoice v)).queue := by
    show (((s.setVoice v _).startHead v).voice _).queue = _
    rw [State.startHead_otherQueue, hset]
  unfold State.stopCurrent
  dsimp only
  split
  · rfl
  · exact hgate
  · exact hgate
  · rw [hset]

end

end Sys2Proof.Machine
end

section
/-! PROOFS. The clips that a voice is given, stops for a run, chaining, and the cues that ask for them (R85, R87,
R129 to R132, R138, R151). -/

namespace Sys2Proof.Machine

/-! ### A clip joins the queue (R130) -/

section
variable {s : State} {v : Voice} {q : Queued}

/-- Writing the queue alone leaves a talking flag that agrees with the voices in agreement. -/
theorem State.talking_agrees_queue (l : List Queued) (h : s.nre.talking = (s.nre.a.talks || s.nre.b.talks)) :
    (s.setVoice v { s.voice v with queue := l }).syncTalking = s.setVoice v { s.voice v with queue := l } := by
  refine State.syncTalking_of_agrees ?_
  cases v <;> exact h

/-- A voice takes no next clip while its current one is not fetched, while it has a next one, and in a state that
does not chain (R138). -/
theorem State.chain_of_not (h : (s.voice v).state.chains = false ∨ leftToFetch (s.voice v).current ≠ 0 ∨
    (s.voice v).next ≠ none) : s.chain v = s := by
  unfold State.chain
  dsimp only
  split
  · rename_i c _ _ hc hn _
    rw [if_neg]
    rcases h with h | h | h
    · simp [h]
    · rw [hc] at h
      simp [show c.toFetch ≠ 0 from h]
    · exact absurd hn h
  · rfl

theorem VoiceState.chains_iff (x : VoiceState) :
    x.chains = true ↔ x = .priming ∨ x = .playing ∨ x = .paused := by
  cases x <;> simp [VoiceState.chains]

theorem State.takeClip_full (hq : q.cut = false) (h : 4 ≤ (s.voice v).queue.length) :
    s.takeClip v q = s.report .queueDrop q.clip.val .clipQueue := by
  simp only [State.takeClip, hq, Bool.false_eq_true, if_false, Nat.not_lt.2 h]

/-- A clip in mode QUEUE stands behind the others while the voice neither starts nor chains it. -/
theorem State.takeClip_queued (hq : q.cut = false) (hroom : (s.voice v).queue.length < 4)
    (hi : (s.voice v).state ≠ .idle)
    (h : (s.voice v).state.chains = false ∨ leftToFetch (s.voice v).current ≠ 0 ∨ (s.voice v).next ≠ none)
    (ht : s.nre.talking = (s.nre.a.talks || s.nre.b.talks)) :
    s.takeClip v q = s.setVoice v { s.voice v with queue := (s.voice v).queue ++ [q] } := by
  have hself := s.voice_onVoice_self v fun x => { x with queue := x.queue ++ [q] }
  have hchain : (s.onVoice v fun x => { x with queue := x.queue ++ [q] }).chain v = _ :=
    State.chain_of_not (by rw [hself]; exact h)
  have hidle : ((s.onVoice v fun x => { x with queue := x.queue ++ [q] }).voice v).state ≠ .idle := by
    rw [hself]
    exact hi
  simp only [State.takeClip, hq, Bool.false_eq_true, if_false, hroom, if_true, if_neg hidle, hchain]
  exact State.talking_agrees_queue _ ht

/-! ### A clip becomes the whole queue (R130, R132) -/

/-- The voice with its clips stopped on an emptied queue, and the new clip its queue. -/
def State.cutTo (s : State) (v : Voice) (q : Queued) : State :=
  (((s.onVoice v fun x => { x with queue := [] }).stopNext v).stopCurrent v).onVoice v fun x =>
    { x with queue := [q] }

theorem State.takeClip_cut (hq : q.cut = true) :
    s.takeClip v q =
      (if ((s.cutTo v q).voice v).state = .idle then (s.cutTo v q).startHead v
        else s.cutTo v q).syncTalking := by
  simp only [State.takeClip, hq, if_true]
  rfl

/-- The voice before its current clip is stopped: its queue and its next context are gone. -/
theorem State.voice_emptied (s : State) (v : Voice) : ∃ boundary write fill burst,
    ((s.onVoice v fun x => { x with queue := [] }).stopNext v).voice v =
      { s.voice v with
        queue := [], next := none, boundary := boundary, write := write, fill := fill, burst := burst } := by
  obtain ⟨boundary, write, fill, burst, h⟩ := (s.onVoice v fun x => { x with queue := [] }).voice_stopNext v
  exact ⟨boundary, write, fill, burst, by rw [h, State.voice_onVoice_self]⟩

/-- A voice in its tail keeps what a CUT made of it: it starts nothing and takes no share of the air. -/
theorem State.voice_takeClip_tailing (hq : q.cut = true) (h : ((s.cutTo v q).voice v).state = .tailing) :
    (s.takeClip v q).voice v = (s.cutTo v q).voice v := by
  rw [State.takeClip_cut hq, if_neg (by rw [h]; exact VoiceState.noConfusion)]
  refine State.voice_syncTalking _ ?_ ?_
  all_goals
    rw [h]
    exact VoiceState.noConfusion

/-- A CUT on a voice that sounds: the current clip tails out, and the new one waits alone. -/
theorem State.voice_cutTo_sounds (h : (s.voice v).Sounds) : ∃ boundary write fill burst,
    (s.cutTo v q).voice v =
      { s.voice v with
        state := .tailing, tailPause := false, tailCount := 0, goal := 0, queue := [q], next := none
        boundary := boundary, write := write, fill := fill, burst := burst } := by
  obtain ⟨boundary, write, fill, burst, hv⟩ := s.voice_emptied v
  refine ⟨boundary, write, fill, burst, ?_⟩
  rw [State.cutTo, State.voice_onVoice_self, State.stopCurrent_sounds (by rw [hv]; exact h),
    State.voice_setVoice_self, hv]

/-- A CUT on a voice in its tail: the tail goes on, as one that ends in a stop. -/
theorem State.voice_cutTo_tailing (h : (s.voice v).state = .tailing) : ∃ boundary write fill burst,
    (s.cutTo v q).voice v =
      { s.voice v with
        tailPause := false, queue := [q], next := none, boundary := boundary, write := write, fill := fill
        burst := burst } := by
  obtain ⟨boundary, write, fill, burst, hv⟩ := s.voice_emptied v
  refine ⟨boundary, write, fill, burst, ?_⟩
  rw [State.cutTo, State.voice_onVoice_self, State.stopCurrent_tailing (by rw [hv]; exact h),
    State.voice_setVoice_self, hv]

/-- A voice that a CUT leaves IDLE takes the new clip up at once, and no signal is lost. -/
theorem State.takeClip_cut_starts (hq : q.cut = true) (h : ((s.cutTo v q).voice v).state = .idle) :
    ((s.takeClip v q).voice v).queue = [] ∧
      (((s.takeClip v q).voice v).current.map fun c => (c.clip, c.owner)) = some (q.clip, q.owner) ∧
      (s.cutTo v q).agenda ⊆ (s.takeClip v q).agenda := by
  have hqueue : ((s.cutTo v q).voice v).queue = [q] := by rw [State.cutTo, State.voice_onVoice_self]
  have hsame := State.syncTalking_sameClips (State.startHead_cons hqueue)
  rw [State.takeClip_cut hq, if_pos h]
  refine ⟨?_, ?_, ?_⟩
  · rw [hsame.queue, State.voice_setVoice_self]
  · rw [hsame.clip, State.voice_setVoice_self]
    rfl
  · have hsignals := hsame.signals
    rwa [State.setVoice_agenda] at hsignals

theorem State.cutTo_idle (h : (s.voice v).state = .idle) : ((s.cutTo v q).voice v).state = .idle := by
  obtain ⟨_, _, _, _, hv⟩ := s.voice_emptied v
  rw [State.cutTo, State.voice_onVoice_self, State.stopCurrent_idle (by rw [hv]; exact h), hv]
  exact h

/-- A CUT on a voice that waits for the air: it is IDLE on the emptied queue and says so (R131, R132). -/
theorem State.cutTo_waiting (h : (s.voice v).state = .waitQuiet ∨ (s.voice v).state = .claiming) :
    ((s.cutTo v q).voice v).state = .idle ∧ .drained v ∈ (s.cutTo v q).agenda ∧
      .voiceIdle v s.sce.nextAwait ∈ (s.cutTo v q).agenda := by
  obtain ⟨_, _, _, _, hv⟩ := s.voice_emptied v
  have hsce : ((s.onVoice v fun x => { x with queue := [] }).stopNext v).sce = s.sce :=
    (State.stopNext_clipsOnly v (State.onVoice_clipsOnly v (fun _ => List.nil_sublist _) (.refl s))).sce
  rw [State.cutTo, State.stopCurrent_waiting_nil (by rw [hv]; exact h) (by rw [hv]), hsce]
  refine ⟨?_, ?_, ?_⟩
  · rw [State.voice_onVoice_self]
    show ((State.setVoice _ v _).voice v).state = _
    rw [State.voice_setVoice_self]
  all_goals
    rw [State.onVoice_agenda]
    simp [State.post]

end

/-! ### A stop for a run (R132) -/

/-- The clips of the run that the voice has not begun are gone: those queued, and a next context. -/
def State.stopQueued (s : State) (v : Voice) (i : Fin 4) : State :=
  let t := s.onVoice v fun x => { x with queue := x.queue.filter fun q => q.owner ≠ i }
  if ownedBy i (t.voice v).next then t.stopNext v else t

section
variable {s : State} {v : Voice} {i : Fin 4}

theorem State.stopForRun_eq (s : State) (v : Voice) (i : Fin 4) :
    s.stopForRun v i =
      (if ownedBy i ((s.stopQueued v i).voice v).current then (s.stopQueued v i).stopCurrent v
        else s.stopQueued v i).syncTalking := rfl

theorem State.voice_stopQueued (s : State) (v : Voice) (i : Fin 4) : ∃ next boundary write fill burst,
    ownedBy i next = false ∧
      (s.stopQueued v i).voice v =
        { s.voice v with
          queue := (s.voice v).queue.filter fun q => decide (q.owner ≠ i)
          next := next, boundary := boundary, write := write, fill := fill, burst := burst } := by
  have hself := s.voice_onVoice_self v fun x => { x with queue := x.queue.filter fun q => q.owner ≠ i }
  unfold State.stopQueued
  dsimp only
  split
  · obtain ⟨boundary, write, fill, burst, h⟩ :=
      (s.onVoice v fun x => { x with queue := x.queue.filter fun q => q.owner ≠ i }).voice_stopNext v
    exact ⟨none, boundary, write, fill, burst, rfl, by rw [h, hself]⟩
  · rename_i hn
    rw [hself] at hn
    exact ⟨_, _, _, _, _, by simpa using hn, hself⟩

theorem State.voice_stopQueued_other (s : State) (v : Voice) (i : Fin 4) :
    (s.stopQueued v i).voice (otherVoice v) = s.voice (otherVoice v) := by
  have hother := s.voice_setVoice_ne (v := v)
    { s.voice v with queue := (s.voice v).queue.filter fun q => q.owner ≠ i } (otherVoice_ne v)
  unfold State.stopQueued
  dsimp only
  split
  · exact (State.voice_stopNext_other _ v).trans hother
  · exact hother

theorem State.stopForRun_next (s : State) (v : Voice) (i : Fin 4) :
    ownedBy i ((s.stopForRun v i).voice v).next = false := by
  obtain ⟨_, _, _, _, _, hn, hv⟩ := s.voice_stopQueued v i
  rw [State.stopForRun_eq, (State.syncTalking_sameClips (.refl _)).next]
  split
  · rw [State.stopCurrent_next, hv]
    exact hn
  · rw [hv]
    exact hn

theorem State.stopForRun_otherQueue (s : State) (v : Voice) (i : Fin 4) :
    ((s.stopForRun v i).voice (otherVoice v)).queue = (s.voice (otherVoice v)).queue := by
  rw [State.stopForRun_eq, (State.syncTalking_sameClips (.refl _)).queue]
  split
  · rw [State.stopCurrent_otherQueue, State.voice_stopQueued_other]
  · rw [State.voice_stopQueued_other]

/-- A voice that holds no clip of the run loses those that it has queued, and nothing else. -/
theorem State.stopForRun_queued (hn : ownedBy i (s.voice v).next = false)
    (hc : ownedBy i (s.voice v).current = false) (ht : s.nre.talking = (s.nre.a.talks || s.nre.b.talks)) :
    s.stopForRun v i =
      s.setVoice v
        { s.voice v with queue := (s.voice v).queue.filter fun q => decide (q.owner ≠ i) } := by
  have hself := s.voice_onVoice_self v fun x => { x with queue := x.queue.filter fun q => q.owner ≠ i }
  have hqueued : s.stopQueued v i =
      s.onVoice v fun x => { x with queue := x.queue.filter fun q => q.owner ≠ i } :=
    if_neg (by rw [hself, hn]; exact Bool.false_ne_true)
  rw [State.stopForRun_eq, hqueued, hself, hc]
  exact State.talking_agrees_queue _ ht

/-- A stop of the current clip leaves what it makes of a voice that does not wait for the air. -/
theorem State.voice_stopForRun {u : State} (hc : ownedBy i (s.voice v).current = true)
    (hu : (s.stopQueued v i).stopCurrent v = u) (hq : (u.voice v).state ≠ .waitQuiet)
    (hw : (u.voice v).state ≠ .claiming) : (s.stopForRun v i).voice v = u.voice v := by
  obtain ⟨_, _, _, _, _, -, hv⟩ := s.voice_stopQueued v i
  rw [State.stopForRun_eq, if_pos (by rw [hv]; exact hc), hu]
  exact u.voice_syncTalking hq hw

theorem State.stopForRun_sounds (hc : ownedBy i (s.voice v).current = true) (h : (s.voice v).Sounds) :
    ((s.stopForRun v i).voice v).state = .tailing ∧ ((s.stopForRun v i).voice v).tailPause = false ∧
      ((s.stopForRun v i).voice v).tailCount = 0 ∧ ((s.stopForRun v i).voice v).goal = 0 ∧
      ((s.stopForRun v i).voice v).queue = (s.voice v).queue.filter fun q => decide (q.owner ≠ i) := by
  obtain ⟨_, _, _, _, _, -, hv⟩ := s.voice_stopQueued v i
  have hstop := State.stopCurrent_sounds (s := s.stopQueued v i) (v := v) (by rw [hv]; exact h)
  have hvoice := State.voice_setVoice_self (s.stopQueued v i) v
    { (s.stopQueued v i).voice v with state := .tailing, tailPause := false, tailCount := 0, goal := 0 }
  rw [State.voice_stopForRun hc hstop (by rw [hvoice]; exact VoiceState.noConfusion)
    (by rw [hvoice]; exact VoiceState.noConfusion), hvoice, hv]
  exact ⟨rfl, rfl, rfl, rfl, rfl⟩

theorem State.stopForRun_tailing (hc : ownedBy i (s.voice v).current = true)
    (h : (s.voice v).state = .tailing) :
    ((s.stopForRun v i).voice v).state = .tailing ∧ ((s.stopForRun v i).voice v).tailPause = false ∧
      ((s.stopForRun v i).voice v).tailCount = (s.voice v).tailCount := by
  obtain ⟨_, _, _, _, _, -, hv⟩ := s.voice_stopQueued v i
  have htailing : ((s.stopQueued v i).voice v).state = .tailing := by
    rw [hv]
    exact h
  have hstop := State.stopCurrent_tailing htailing
  have hvoice := State.voice_setVoice_self (s.stopQueued v i) v
    { (s.stopQueued v i).voice v with tailPause := false }
  have hstate : (((s.stopQueued v i).setVoice v
      { (s.stopQueued v i).voice v with tailPause := false }).voice v).state = .tailing := by
    rw [hvoice]
    exact htailing
  rw [State.voice_stopForRun hc hstop (by rw [hstate]; exact VoiceState.noConfusion)
    (by rw [hstate]; exact VoiceState.noConfusion), hvoice, hv]
  exact ⟨h, rfl, rfl⟩

/-- A voice that waits for the air with clips of the run alone is IDLE after its stop. -/
theorem State.stopForRun_waiting (hc : ownedBy i (s.voice v).current = true)
    (h : (s.voice v).state = .waitQuiet ∨ (s.voice v).state = .claiming)
    (hq : ∀ q ∈ (s.voice v).queue, q.owner = i) :
    ((s.stopForRun v i).voice v).state = .idle ∧ ((s.stopForRun v i).voice v).current = none := by
  obtain ⟨_, _, _, _, _, -, hv⟩ := s.voice_stopQueued v i
  have hnone : ((s.voice v).queue.filter fun q => decide (q.owner ≠ i)) = [] :=
    List.filter_eq_nil_iff.2 fun q hmem => by simp [hq q hmem]
  have hstop := State.stopCurrent_waiting_nil (s := s.stopQueued v i) (v := v) (by rw [hv]; exact h)
    (by rw [hv]; exact hnone)
  have hvoice : (((s.stopQueued v i).stopCurrent v).voice v).state = .idle ∧
      (((s.stopQueued v i).stopCurrent v).voice v).current = none := by
    rw [hstop]
    show ((State.setVoice _ v _).voice v).state = _ ∧ ((State.setVoice _ v _).voice v).current = _
    rw [State.voice_setVoice_self]
    exact ⟨rfl, rfl⟩
  obtain ⟨hidle, hcurrent⟩ := hvoice
  rw [State.voice_stopForRun hc rfl (by rw [hidle]; exact VoiceState.noConfusion)
    (by rw [hidle]; exact VoiceState.noConfusion)]
  exact ⟨hidle, hcurrent⟩

/-! ### Chaining (R138) -/

theorem State.chain_of_empty (h : (s.voice v).queue = []) : s.chain v = s := by
  unfold State.chain
  dsimp only
  split
  · rename_i hq
    rw [h] at hq
    cases hq
  · rfl

variable {c : Held} {h : Queued} {rest : List Queued}

/-- An earshot clip is chained behind a GRANTED clip alone. -/
theorem State.chain_of_no_air (hc : (s.voice v).current = some c) (hq : (s.voice v).queue = h :: rest)
    (he : (s.clipOf h.clip).earshot = true) (ha : c.air ≠ .granted) : s.chain v = s := by
  unfold State.chain
  dsimp only
  split
  · rename_i hc' _ hq'
    rw [hc] at hc'
    rw [hq] at hq'
    cases hc'
    cases hq'
    simp [he, ha]
  · rfl

/-- The head of the queue becomes the next context, from the present place of the ring on. -/
theorem State.chain_takes (hc : (s.voice v).current = some c) (hf : c.toFetch = 0)
    (hn : (s.voice v).next = none) (hq : (s.voice v).queue = h :: rest) (hs : (s.voice v).Sounds)
    (ha : (s.clipOf h.clip).earshot = false ∨ c.air = .granted) :
    s.chain v =
      (s.setVoice v
        { s.voice v with
          next := some (s.newHeld h (if (s.clipOf h.clip).earshot = true then .granted else .none))
          boundary := some (s.voice v).write, queue := rest }).refill v := by
  have hchains : (s.voice v).state.chains = true := (VoiceState.chains_iff _).2 hs
  have hair : (!(s.clipOf h.clip).earshot || decide (c.air = .granted)) = true := by
    rcases ha with ha | ha <;> simp [ha]
  simp only [State.chain, hc, hn, hq, hf, hchains, hair, decide_true, Bool.and_self, if_true]

end

/-! ### Cues that name a voice or an axis (R85, R87) -/

theorem clampInt_eq {x a b : Int} (h : a ≤ b) : clampInt x a b = max a (min x b) := by
  unfold clampInt
  split
  · omega
  · split <;> omega

section
variable {s : State}

theorem State.clipCue_valid {n : Fin 256} (i : Fin 4) (v : Voice) (cut : Bool) (h : s.clipValid n = true) :
    s.clipCue i v n cut = s.takeClip v { clip := n, owner := i, cut := cut } := if_pos h

theorem State.clipCue_invalid {n : Fin 256} (i : Fin 4) (v : Voice) (cut : Bool) (h : s.clipValid n = false) :
    s.clipCue i v n cut = s.report .clipInvalid n.val := if_neg (ne_true_of_eq_false h)

/-- A MOVE goes to its axis with its target within the soft limits (R87). -/
theorem State.moveCue_clamped {a : Fin 4} {c : AxisCfg} (target : Int) (k : Fin 4) (hc : s.axisCfg a = some c)
    (h : c.softMin ≤ c.softMax) :
    s.moveCue a target k = s.moveAxis a (max c.softMin (min target c.softMax)) k := by
  simp only [State.moveCue, hc, clampInt_eq h]

variable {i : Fin 4} {v : Voice}

theorem exec_clip_valid {n : Fin 256} (cut : Bool) (h : s.TakesCue i) (hv : s.holder (voicePlace v) = some i)
    (hvalid : s.clipValid n = true) :
    exec (.clip i (voiceCode v) (BitVec.ofNat 8 n.val) (if cut then 1#8 else 0#8)) s =
      .next (State.finish (s.tick.takeClip v { clip := n, owner := i, cut := cut })) := by
  have hperform : s.tick.perform i (.clip v n cut) = _ := State.clipCue_valid i v cut hvalid
  rw [exec_of_act h rfl (actOf_clip v n cut) ((State.claimsFor_iff rfl).2 hv), hperform]

theorem gives_clip_invalid {n : Fin 256} (cut : Bool) (h : s.TakesCue i) (hv : s.holder (voicePlace v) = some i)
    (hvalid : s.clipValid n = false) :
    Gives (.clip i (voiceCode v) (BitVec.ofNat 8 n.val) (if cut then 1#8 else 0#8)) s
      (s.tick.report .clipInvalid n.val) :=
  gives_of_cue h rfl (actOf_clip v n cut) ((State.claimsFor_iff rfl).2 hv)
    (State.clipCue_invalid (s := s.tick) i v cut hvalid) (State.report_agenda _ _ _ _)

theorem exec_move_clamped {a : Fin 4} {c : AxisCfg} (target : BitVec 24) (k : Fin 4) (h : s.TakesCue i)
    (ha : s.holder (axisPlace a) = some i) (hc : s.axisCfg a = some c) (hlimits : c.softMin ≤ c.softMax) :
    exec (.move i (BitVec.ofNat 8 a.val) target (BitVec.ofNat 8 k.val)) s =
      .next (State.finish (s.tick.moveAxis a (max c.softMin (min target.toInt c.softMax)) k)) := by
  have hperform : s.tick.perform i (.move a target.toInt k) = _ :=
    State.moveCue_clamped (s := s.tick) target.toInt k hc hlimits
  rw [exec_of_act h rfl (actOf_move a target k) ((State.claimsFor_iff rfl).2 ha), hperform]

theorem State.perform_silence (s : State) (i : Fin 4) (v : Voice) :
    s.perform i (.silence v) = s.stopForRun v i := rfl

theorem State.perform_home (s : State) (i a : Fin 4) : s.perform i (.home a) = s.homeAxis a := rfl

theorem exec_silence_claimed (h : s.TakesCue i) (hv : s.holder (voicePlace v) = some i) :
    exec (.silence i (voiceCode v)) s = .next (State.finish (s.tick.stopForRun v i)) := by
  rw [exec_of_act h rfl (actOf_silence v) ((State.claimsFor_iff rfl).2 hv), State.perform_silence]

theorem exec_home_claimed {a : Fin 4} (h : s.TakesCue i) (ha : s.holder (axisPlace a) = some i) :
    exec (.home i (BitVec.ofNat 8 a.val)) s = .next (State.finish (s.tick.homeAxis a)) := by
  rw [exec_of_act h rfl (actOf_home a) ((State.claimsFor_iff rfl).2 ha), State.perform_home]

end

/-- Settles O27: each cue by what performing it comes to, a clip given and a stop by what they make of the
voice, and chaining by its test. -/
theorem cuesUnderClaims : Obligations.CuesUnderClaims := by
  unfold Obligations.CuesUnderClaims
  refine ⟨fun s i hs hh hw => ?_,
    fun s v q => ⟨State.takeClip_full, fun hq hroom hi h => ?_, fun hq => ⟨?_, ?_, ?_, ?_⟩⟩,
    fun s v i => ⟨s.stopForRun_owner v i, s.stopForRun_next v i, s.stopForRun_otherQueue v i,
      State.stopForRun_queued, fun hc => ⟨State.stopForRun_sounds hc, State.stopForRun_tailing hc,
        State.stopForRun_waiting hc⟩⟩,
    fun s v => ⟨fun h => ?_, fun c h rest hc hf hn hq hs => ⟨State.chain_of_no_air hc hq, fun ha => ?_⟩⟩⟩
  · have h : s.TakesCue i := ⟨hs, hh, hw⟩
    exact ⟨fun v n cut hv => ⟨exec_clip_valid cut h hv, gives_clip_invalid cut h hv⟩,
      fun v hv => exec_silence_claimed h hv,
      fun a c hc ha => ⟨fun target k => exec_move_clamped target k h ha hc, exec_home_claimed h ha⟩⟩
  · refine State.takeClip_queued hq hroom hi ?_
    rcases h with h | h | h | h | h
    · exact .inl (by rw [h]; rfl)
    · exact .inl (by rw [h]; rfl)
    · exact .inl (by rw [h]; rfl)
    · exact .inr (.inl h)
    · exact .inr (.inr h)
  · intro h
    obtain ⟨_, _, _, _, hv⟩ := State.voice_cutTo_sounds (q := q) h
    rw [State.voice_takeClip_tailing hq (by rw [hv]), hv]
    exact ⟨rfl, rfl, rfl, rfl, rfl, rfl, rfl⟩
  · intro h
    obtain ⟨_, _, _, _, hv⟩ := State.voice_cutTo_tailing (q := q) h
    rw [State.voice_takeClip_tailing hq (by rw [hv]; exact h), hv]
    exact ⟨rfl, rfl, h, rfl, rfl⟩
  · intro h
    have hidle : ((s.cutTo v q).voice v).state = .idle := by
      rcases h with h | h
      · exact State.cutTo_idle h
      · exact (State.cutTo_waiting h).1
    obtain ⟨hqueue, hclip, -⟩ := State.takeClip_cut_starts hq hidle
    exact ⟨hqueue, hclip⟩
  · intro h
    obtain ⟨hidle, hdrained, hreport⟩ := State.cutTo_waiting (q := q) h
    obtain ⟨-, -, hsignals⟩ := State.takeClip_cut_starts hq hidle
    exact ⟨hsignals hdrained, hsignals hreport⟩
  · rcases h with h | h | h | ⟨hp, hl, hz⟩
    · rcases hc : (s.voice v).current with _ | c
      · unfold State.chain
        simp only [hc]
      · exact State.chain_of_not (.inr (.inl (by rw [hc]; exact h c hc)))
    · exact State.chain_of_not (.inr (.inr h))
    · exact State.chain_of_empty h
    · refine State.chain_of_not (.inl ?_)
      rw [← Bool.not_eq_true, VoiceState.chains_iff]
      simp [hp, hl, hz]
  · obtain ⟨_, _, hv⟩ := State.voice_refill_self (s.setVoice v
      { s.voice v with
        next := some (s.newHeld h (if (s.clipOf h.clip).earshot = true then .granted else .none))
        boundary := some (s.voice v).write, queue := rest }) v
    rw [State.chain_takes hc hf hn hq hs ha, hv, State.voice_setVoice_self]
    exact ⟨rfl, rfl, rfl, hc, rfl⟩

end Sys2Proof.Machine
end

section
/-! PROOFS. The courses of a lighting channel (R105 to R111): a fade between its ends, the line of a cycle table,
and what each stage of a frame makes of a channel. -/

namespace Sys2Proof.Machine

/-! ### Values between two ends (R105)

Truncation toward zero rounds the distance gone, whichever way it goes. -/

section
variable {a b p q d : Nat}

theorem tdiv_rising (h : a ≤ b) : (((b : Int) - a) * p).tdiv d = ((b - a) * p / d : Nat) := by
  have hgone : ((b : Int) - a) * p = ((b - a) * p : Nat) := by push_cast [h]; rfl
  rw [hgone, ← Int.ofNat_tdiv]

theorem tdiv_falling (h : b ≤ a) : (((b : Int) - a) * p).tdiv d = -((a - b) * p / d : Nat) := by
  have hgone : ((b : Int) - a) * p = -((a - b) * p : Nat) := by push_cast [h]; ring
  rw [hgone, Int.neg_tdiv, ← Int.ofNat_tdiv]

theorem between_rising (h : a ≤ b) : between a b p d = a + (b - a) * p / d := by
  rw [between, tdiv_rising h]
  exact Int.toNat_natCast _

theorem between_falling (h : b ≤ a) : between a b p d = a - (a - b) * p / d := by
  rw [between, tdiv_falling h]
  omega

/-- The distance gone at a count within the duration is at most the whole one. -/
theorem gone_le (n : Nat) (h : p ≤ d) : n * p / d ≤ n :=
  Nat.div_le_of_le_mul (by rw [Nat.mul_comm d]; exact Nat.mul_le_mul_left n h)

theorem min_le_between (h : p ≤ d) : min a b ≤ between a b p d := by
  rcases Nat.le_total a b with hab | hab
  · rw [between_rising hab]
    exact (Nat.min_le_left a b).trans (Nat.le_add_right a _)
  · have := gone_le (a - b) h
    rw [between_falling hab]
    omega

theorem between_le_max (h : p ≤ d) : between a b p d ≤ max a b := by
  rcases Nat.le_total a b with hab | hab
  · have := gone_le (b - a) h
    rw [between_rising hab]
    omega
  · rw [between_falling hab]
    exact (Nat.sub_le a _).trans (Nat.le_max_left a b)

theorem between_start (a b d : Nat) : between a b 0 d = a := by simp [between]

theorem between_end (a b : Nat) (h : 0 < d) : between a b d d = b := by
  rcases Nat.le_total a b with hab | hab
  · rw [between_rising hab, Nat.mul_div_cancel _ h]
    omega
  · rw [between_falling hab, Nat.mul_div_cancel _ h]
    omega

theorem between_mono (h : a ≤ b) (hpq : p ≤ q) : between a b p d ≤ between a b q d := by
  rw [between_rising h, between_rising h]
  exact Nat.add_le_add_left (Nat.div_le_div_right (Nat.mul_le_mul_left _ hpq)) a

/-- Within the duration the value is never cut off at 0. -/
theorem between_cast (h : p ≤ d) : (between a b p d : Int) = a + (((b : Int) - a) * p).tdiv d := by
  rcases Nat.le_total a b with hab | hab
  · rw [between_rising hab, tdiv_rising hab]
    exact Int.natCast_add _ _
  · have := gone_le (a - b) h
    rw [between_falling hab, tdiv_falling hab]
    omega

end

/-- A fade of some duration is the value between its ends at its count. -/
theorem Course.value_fade {d : Nat} (s0 t p cyc : Nat) (h : 0 < d) :
    (Course.fade s0 t p d).value cyc = between s0 t p d := if_neg h.ne'

/-! ### The line of a cycle table (R106) -/

/-- In a table in order of phase no point lies before the first. -/
theorem phase_le_of_getElem? {p r : CyclePoint} {rest : List CyclePoint} {i : Nat}
    (h : (p :: rest).Pairwise fun p q => p.phase < q.phase) (hr : (p :: rest)[i]? = some r) :
    p.phase ≤ r.phase := by
  rcases List.mem_cons.1 (List.mem_of_getElem? hr) with rfl | hmem
  · exact le_rfl
  · exact (List.rel_of_pairwise_cons h hmem).le

/-- Between two neighbouring points the level lies on the line through them. -/
theorem levelAt_between (first : Nat) {phase : Nat} {p q : CyclePoint} (hp : p.phase ≤ phase)
    (hq : phase < q.phase) : ∀ {points : List CyclePoint} {i : Nat},
    points.Pairwise (fun p q => p.phase < q.phase) → points[i]? = some p → points[i + 1]? = some q →
      levelAt first phase points = between p.level q.level (phase - p.phase) (q.phase - p.phase)
  | [], _, _, h, _ => by simp at h
  | [_], _, _, _, h => by simp at h
  | x :: y :: rest, 0, _, hx, hy => by
    obtain rfl : x = p := by simpa using hx
    obtain rfl : y = q := by simpa using hy
    exact if_pos hq
  | x :: y :: rest, i + 1, hord, hx, hy => by
    have hpast : ¬ phase < y.phase := not_lt.2 ((phase_le_of_getElem? hord.of_cons hx).trans hp)
    exact (if_neg hpast).trans (levelAt_between first hp hq hord.of_cons hx hy)

/-- From the last point on the level goes back to the first by the end of the turn. -/
theorem levelAt_past_last (first : Nat) {phase : Nat} {last : CyclePoint} (hlast : last.phase ≤ phase) :
    ∀ {points : List CyclePoint}, points.Pairwise (fun p q => p.phase < q.phase) →
      points.getLast? = some last →
      levelAt first phase points = between last.level first (phase - last.phase) (65536 - last.phase)
  | [], _, h => by simp at h
  | [x], _, h => by
    obtain rfl : x = last := by simpa using h
    rfl
  | x :: y :: rest, hord, h => by
    rw [List.getLast?_cons_cons] at h
    have hpast : ¬ phase < y.phase :=
      not_lt.2 ((phase_le_of_getElem? hord.of_cons (List.getLast?_eq_getElem? ▸ h)).trans hlast)
    exact (if_neg hpast).trans (levelAt_past_last first hlast hord.of_cons h)

theorem tableValue_of_head {t : CycleTable} {first : CyclePoint} (now : ShowTime)
    (h : t.points.head? = some first) :
    tableValue t now = levelAt first.level (phaseOf now t.period) t.points := by
  obtain ⟨rest, hpoints⟩ := List.head?_eq_some_iff.1 h
  simp only [tableValue, hpoints]

section
variable {t : CycleTable} {now : ShowTime}

theorem tableValue_between {i : Nat} {p q : CyclePoint} (hord : t.points.Pairwise fun p q => p.phase < q.phase)
    (hi : t.points[i]? = some p) (hi' : t.points[i + 1]? = some q) (hp : p.phase ≤ phaseOf now t.period)
    (hq : phaseOf now t.period < q.phase) :
    (tableValue t now : Int) = p.level +
      (((q.level : Int) - p.level) * (phaseOf now t.period - p.phase)).tdiv (q.phase - p.phase) := by
  obtain ⟨first, hfirst⟩ : ∃ first, t.points.head? = some first := by
    rw [← Option.isSome_iff_exists, List.isSome_head?]
    intro hnil
    simp [hnil] at hi
  rw [tableValue_of_head now hfirst, levelAt_between _ hp hq hord hi hi', between_cast (by omega),
    Int.natCast_sub hp, Int.natCast_sub (hp.trans hq.le)]

theorem tableValue_past_last {first last : CyclePoint}
    (hord : t.points.Pairwise fun p q => p.phase < q.phase) (hfirst : t.points.head? = some first)
    (hlast : t.points.getLast? = some last) (hp : last.phase ≤ phaseOf now t.period)
    (hq : phaseOf now t.period < 65536) :
    (tableValue t now : Int) = last.level +
      (((first.level : Int) - last.level) * (phaseOf now t.period - last.phase)).tdiv (65536 - last.phase) := by
  rw [tableValue_of_head now hfirst, levelAt_past_last _ hp hord hlast, between_cast (by omega),
    Int.natCast_sub hp, Int.natCast_sub (hp.trans hq.le)]
  rfl

end

/-! ### What each part of a frame writes of a channel -/

/-- The course that a blend at the end of its duration enters; any other stands (R107). -/
def Course.ended : Course → Course
  | .blend t c p d => if d ≤ p then .cycle t else .blend t c p d
  | x => x

theorem Channel.endBlend_eq (x : Channel) : x.endBlend = { x with course := x.course.ended } := by
  obtain ⟨course⟩ := x
  cases course with
  | fade _ _ _ _ => rfl
  | cycle _ => rfl
  | blend t c p d =>
    by_cases h : d ≤ p <;> simp [Channel.endBlend, Course.ended, h]

theorem Channel.endRamp_eq (x : Channel) (h : x.dir = .towardLive) :
    x.endRamp = { x with dir := if x.q = 0 then .none else .towardLive } := by
  obtain ⟨_, _, _, _, q, dir⟩ := x
  obtain rfl : dir = .towardLive := h
  by_cases hq : q = 0 <;> simp [Channel.endRamp, Channel.rampDone, hq]

section
variable {x : Channel} {goTo : Bool} (h : Nat)

theorem Channel.moveRamp_stands (hs : goTo = false ∨ x.dir = .none) :
    x.moveRamp goTo h = x := by
  rcases hs with hs | hs <;> simp [Channel.moveRamp, hs]

theorem Channel.moveRamp_towardHold (hd : x.dir = .towardHold) :
    x.moveRamp true h = { x with q := min (x.q + 1) h } := by
  simp [Channel.moveRamp, hd]

theorem Channel.moveRamp_towardLive (hd : x.dir = .towardLive) :
    x.moveRamp true h = { x with q := x.q - 1, dir := if x.q ≤ 1 then .none else .towardLive } := by
  have hzero : x.q - 1 = 0 ↔ x.q ≤ 1 := by omega
  simp only [Channel.moveRamp, hd, if_true]
  rw [Channel.endRamp_eq _ rfl]
  simp only [hzero]

/-- The ramp's own stage writes the ramp alone (R109). -/
theorem Channel.moveRamp_eq (x : Channel) (goTo : Bool) :
    x.moveRamp goTo h = { x with q := (x.moveRamp goTo h).q, dir := (x.moveRamp goTo h).dir } := by
  cases goTo with
  | false => rfl
  | true =>
    cases hd : x.dir with
    | none => rw [Channel.moveRamp_stands h (.inr hd)]
    | towardHold => rw [Channel.moveRamp_towardHold h hd]
    | towardLive => rw [Channel.moveRamp_towardLive h hd]

variable (tables : Vector CycleTable 4) (now : ShowTime) (hold : Bool)

/-- The cycle value's stage writes the cycle value and its latch alone (R106, R108). -/
theorem Channel.takeCycle_eq (x : Channel) :
    x.takeCycle tables now hold =
      { x with
        cyc := (x.takeCycle tables now hold).cyc, latched := (x.takeCycle tables now hold).latched } := by
  unfold Channel.takeCycle
  repeat' split
  all_goals rfl

/-- The cycle value of a frame: the latched one in hold, else the table's, which hold then latches
(R106, R108; log entry 35). -/
theorem Channel.takeCycle_of_table {k : Fin 4} {cyc : Nat} (hk : x.course.table = some k)
    (hlatched : hold = true → ∀ l, x.latched = some l → cyc = l)
    (hlive : x.latched = none → cyc = tableValue tables[k] now) (hfree : hold = false → x.latched = none) :
    (x.takeCycle tables now hold).latched = (if hold then some cyc else none) ∧
      (x.takeCycle tables now hold).cycleInUse = cyc := by
  cases hold with
  | false =>
    have hnone := hfree rfl
    simp [Channel.takeCycle, Channel.cycleInUse, hk, hnone, hlive hnone]
  | true =>
    cases hl : x.latched with
    | none => simp [Channel.takeCycle, Channel.cycleInUse, hk, hl, hlive hl]
    | some l => simp [Channel.takeCycle, Channel.cycleInUse, hk, hl, hlatched rfl l hl]

end

theorem Course.advance_table (hold : Bool) (x : Course) : (x.advance hold).table = x.table := by
  cases x <;> rfl

/-- The count of a course after a frame: it rises out of hold, up to the duration (R105, R107). -/
theorem advance_count (hold : Bool) (p d : Nat) :
    (if p < d && !hold then p + 1 else p) = if p < d ∧ hold = false then p + 1 else p := by
  simp

/-! ### The stages of a frame (R103) -/

/-- A channel after stage 1 of a frame: its counts have moved. -/
def Channel.counted (x : Channel) (c : ChannelCfg) (cfg : Config) (hold : Bool) (groups : Vector Group 4) :
    Channel :=
  { x with course := x.course.advance hold, walk := x.walkNext c groups }.moveRamp c.goTo cfg.holdFade

section
variable (x : Channel) (c : ChannelCfg) (cfg : Config) (now : ShowTime) (hold : Bool) (groups : Vector Group 4)

theorem Channel.counted_course : (x.counted c cfg hold groups).course = x.course.advance hold := by
  rw [Channel.counted, Channel.moveRamp_eq]

theorem Channel.counted_latched : (x.counted c cfg hold groups).latched = x.latched := by
  rw [Channel.counted, Channel.moveRamp_eq]

theorem Channel.counted_walk : (x.counted c cfg hold groups).walk = x.walkNext c groups := by
  rw [Channel.counted, Channel.moveRamp_eq]

/-- A frame, stage by stage. -/
theorem Channel.frame_eq {z : Channel} (hz : (x.counted c cfg hold groups).takeCycle cfg.tables now hold = z)
    {y : Channel} (hy : x.frame c cfg now hold groups = y) :
    y = { z with
      v := (x.course.advance hold).value z.cycleInUse
      course := (x.course.advance hold).ended
      q := (x.counted c cfg hold groups).q
      dir := (x.counted c cfg hold groups).dir
      walk := x.walkNext c groups
      intent := max (y.overridden c cfg.holdFade hold) y.walk
      level := curveLevel c.square y.intent } := by
  have hcourse : z.course = x.course.advance hold := by
    rw [← hz, Channel.takeCycle_eq, Channel.counted_course]
  have hwalk : z.walk = x.walkNext c groups := by rw [← hz, Channel.takeCycle_eq, Channel.counted_walk]
  have hq : z.q = (x.counted c cfg hold groups).q := by rw [← hz, Channel.takeCycle_eq]
  have hdir : z.dir = (x.counted c cfg hold groups).dir := by rw [← hz, Channel.takeCycle_eq]
  rw [← hcourse, ← hwalk, ← hq, ← hdir]
  rw [← hy, ← hz]
  simp only [Channel.frame, Channel.endBlend_eq]
  rfl

variable {x} {c} {cfg} {now} {hold} {groups}

/-- Stages 1 and 2 with the cycle value of the frame (R105 to R108). -/
theorem Channel.frame_of_table {k : Fin 4} {cyc : Nat} {y : Channel} (hy : x.frame c cfg now hold groups = y)
    (hk : x.course.table = some k) (hlatched : hold = true → ∀ l, x.latched = some l → cyc = l)
    (hlive : x.latched = none → cyc = tableValue cfg.tables[k] now)
    (hfree : hold = false → x.latched = none) :
    y.latched = (if hold then some cyc else none) ∧ y.v = (x.course.advance hold).value cyc := by
  have hsame := x.counted_latched c cfg hold groups
  obtain ⟨hlatch, huse⟩ := Channel.takeCycle_of_table (x := x.counted c cfg hold groups) cfg.tables now hold
    (k := k) (cyc := cyc) (by rw [Channel.counted_course, Course.advance_table, hk]) (by rwa [hsame])
    (by rwa [hsame]) (by rwa [hsame])
  rw [Channel.frame_eq x c cfg now hold groups rfl hy]
  exact ⟨hlatch, congrArg (fun l => (x.course.advance hold).value l) huse⟩

end

/-! ### Walk light and the curve (R110, R111) -/

theorem walkToward_eq (walk goal rate : Nat) :
    walkToward walk goal rate = if walk ≤ goal then min goal (walk + rate) else max goal (walk - rate) := by
  unfold walkToward
  repeat' split
  all_goals omega

/-! ### Ends of a blend and of a release ramp -/

theorem exec_blendEnd (c : Fin 16) (s : State) :
    exec (.blendEnd c) s =
      act (fun s => (s.channel c).course.blendDone) (·.onChannel c Channel.endBlend) s := rfl

theorem exec_overrideRampEnd (c : Fin 16) (s : State) :
    exec (.overrideRampEnd c) s = act (fun s => (s.channel c).rampDone) (·.onChannel c Channel.endRamp) s := rfl

section
variable {s : State} {c : Fin 16}

theorem gives_blendEnd {k : Fin 4} {v p d : Nat} (h : (s.channel c).course = .blend k v p d) (hd : d ≤ p) :
    Gives (.blendEnd c) s (s.tick.onChannel c fun x => { x with course := .cycle k }) := by
  refine gives_of_act (exec_blendEnd c s) (by simp [h, Course.blendDone, hd]) ?_ rfl
  have hend : (s.channel c).endBlend = { s.channel c with course := .cycle k } := by
    rw [Channel.endBlend_eq, h, Course.ended, if_pos hd]
  exact congrArg (s.tick.setChannel c) hend

theorem gives_overrideRampEnd (hd : (s.channel c).dir = .towardLive) (hq : (s.channel c).q = 0) :
    Gives (.overrideRampEnd c) s (s.tick.onChannel c fun x => { x with dir := .none }) := by
  refine gives_of_act (exec_overrideRampEnd c s) (by simp [Channel.rampDone, hd, hq]) ?_ rfl
  have hend : (s.channel c).endRamp = { s.channel c with dir := .none } := by
    rw [Channel.endRamp_eq _ hd, if_pos hq]
  exact congrArg (s.tick.setChannel c) hend

end

/-- Settles O37: the value between two ends, the line of a table, and a frame by what each of its stages
writes. -/
theorem coursesOfAChannel : Obligations.CoursesOfAChannel := by
  unfold Obligations.CoursesOfAChannel
  refine ⟨⟨fun s0 t d hd => ⟨fun cyc => ?_, fun p cyc hp => ?_, fun p q cyc hpq hq hup => ?_⟩,
    fun s c => ⟨fun k v p d => gives_blendEnd, gives_overrideRampEnd⟩⟩,
    fun t now phase hord hphase => ?_, fun x c cfg now hold groups y hy => ?_⟩
  · rw [Course.value_fade _ _ _ _ hd, Course.value_fade _ _ _ _ hd]
    exact ⟨between_start s0 t d, between_end s0 t hd⟩
  · rw [Course.value_fade _ _ _ _ hd]
    exact ⟨min_le_between hp, between_le_max hp⟩
  · rw [Course.value_fade _ _ _ _ hd, Course.value_fade _ _ _ _ hd]
    exact between_mono hup hpq
  · subst hphase
    exact ⟨fun i p q hi hi' => tableValue_between hord hi hi',
      fun first last hfirst hlast => tableValue_past_last hord hfirst hlast⟩
  · have hframe := Channel.frame_eq x c cfg now hold groups rfl hy.symm
    refine ⟨fun s0 t p d n hx hn => ?_, fun k cyc hk hlatched hlive hfree => ?_, fun u hlive hzero hfade => ?_,
      fun hs => ?_, fun hg hd => ?_, fun hg hd => ?_, fun hg => ?_, fun g goal hg hgoal => ?_⟩
    · rw [hframe, hx, hn, ← advance_count]
      exact ⟨rfl, rfl⟩
    · obtain ⟨hlatch, hv⟩ := Channel.frame_of_table hy.symm hk hlatched hlive hfree
      have hcourse : y.course = (x.course.advance hold).ended := congrArg Channel.course hframe
      rw [hcourse, hv]
      refine ⟨hlatch, fun hx => by rw [hx]; exact ⟨rfl, rfl⟩, fun c0 p d n hx hn => ?_⟩
      rw [hx, Course.advance, advance_count, ← hn]
      exact ⟨fun hend => ⟨if_pos hend, if_pos hend⟩,
        fun hgoes => ⟨if_neg hgoes.not_ge, if_neg hgoes.not_ge⟩⟩
    · have hu : u = y.overridden c cfg.holdFade hold := by
        unfold Channel.overridden
        split
        · split
          · exact hzero ‹_› ‹_›
          · exact hfade ‹_› (Nat.pos_of_ne_zero ‹_›)
        · exact hlive (by simpa using ‹¬ c.goTo = true›)
      have hintent : y.intent = max (y.overridden c cfg.holdFade hold) y.walk := congrArg Channel.intent hframe
      have hlevel : y.level = curveLevel c.square y.intent := congrArg Channel.level hframe
      exact ⟨hu ▸ hintent, hlevel⟩
    · rw [hframe, Channel.counted, Channel.moveRamp_stands _ (by exact hs)]
      exact ⟨rfl, rfl⟩
    · rw [hframe, Channel.counted, hg, Channel.moveRamp_towardHold _ (by exact hd)]
      exact ⟨rfl, hd⟩
    · rw [hframe, Channel.counted, hg, Channel.moveRamp_towardLive _ (by exact hd)]
      exact ⟨rfl, rfl⟩
    · rw [hframe]
      simp only [Channel.walkNext, hg]
    · rw [hframe, hgoal, ← walkToward_eq]
      simp only [Channel.walkNext, hg]

end Sys2Proof.Machine
end

section
/-! PROOFS. Hold comes into effect and goes out of effect (R108, R109, R142, R155, R156, R161, R162), and the stuck
line (R163): what each block makes of it, and that the blocks leave each other alone. -/

namespace Sys2Proof.Machine

/-! ### The lighting channels (R108, R109) -/

section
variable (x : Channel) (goTo : Bool)

/-- A channel on a table latches the cycle value of its last frame, and nothing where no frame has computed one
of that table: the model's choice (R108; log entry 35). -/
theorem Channel.holdBegins_latched {x : Channel} (h : x.course.table.isSome = true) :
    (x.holdBegins goTo).latched = x.cyc := by
  cases goTo <;> simp [Channel.holdBegins, h]

theorem Channel.holdBegins_dir : (x.holdBegins goTo).dir = if goTo then .towardHold else x.dir := by
  cases goTo <;> cases h : x.course.table <;> simp [Channel.holdBegins, h]

theorem Channel.holdEnds_latched : (x.holdEnds goTo).latched = none := by
  cases goTo <;> rfl

theorem Channel.holdEnds_dir : (x.holdEnds goTo).dir = if goTo then .towardLive else x.dir := by
  cases goTo <;> rfl

end

theorem State.channel_lightsHoldBegins (s : State) (c : Fin 16) :
    s.lightsHoldBegins.channel c = (s.channel c).holdBegins (goTos s.cfg)[c] := vmap2_getElem _ _ _ c

theorem State.channel_lightsHoldEnds (s : State) (c : Fin 16) :
    s.lightsHoldEnds.channel c = (s.channel c).holdEnds (goTos s.cfg)[c] := vmap2_getElem _ _ _ c

theorem goTos_some (c : Config) (k : Fin 16) : (goTos (some c))[k] = c.channels[k].goTo := vmap_getElem _ _ k

/-! ### What the voices leave alone -/

/-- Whatever the Narration Engine does leaves the settings, the peers, the hold, the lights, the load and the
axes as they are, and loses no signal. -/
structure VoicesOnly (s t : State) : Prop where
  cfg : t.cfg = s.cfg
  ptb : t.ptb = s.ptb
  hld : t.hld = s.hld
  lte : t.lte = s.lte
  lgv : t.lgv = s.lgv
  mte : t.mte = s.mte
  signals : s.agenda ⊆ t.agenda

section
variable {s₀ s t : State}

theorem VoicesOnly.refl (s : State) : VoicesOnly s s := ⟨rfl, rfl, rfl, rfl, rfl, rfl, List.Subset.refl _⟩

/-- The Narration Engine writes the voices, and asks the bus and the show memory. -/
theorem VoicesOnly.of_written (s : State) (n : Nre) (b : Bus) (p : Port) :
    VoicesOnly s { s with nre := n, bus := b, smp := p } :=
  ⟨rfl, rfl, rfl, rfl, rfl, rfl, List.Subset.refl _⟩

theorem VoicesOnly.trans (h : VoicesOnly s₀ s) (g : VoicesOnly s t) : VoicesOnly s₀ t :=
  ⟨g.cfg.trans h.cfg, g.ptb.trans h.ptb, g.hld.trans h.hld, g.lte.trans h.lte, g.lgv.trans h.lgv,
    g.mte.trans h.mte, List.Subset.trans h.signals g.signals⟩

theorem VoicesOnly.held (h : VoicesOnly s t) : t.held = s.held := congrArg Hld.inEffect h.hld

theorem VoicesOnly.airQuiet (h : VoicesOnly s t) : t.airQuiet = s.airQuiet := by
  rw [State.airQuiet, State.airQuiet, State.earshot, State.earshot, h.ptb, h.cfg]

theorem State.setVoice_voicesOnly (v : Voice) (x : VoiceRec) : VoicesOnly s (s.setVoice v x) := by
  cases v <;> exact .of_written s _ s.bus s.smp

theorem State.askPort_voicesOnly (who : Requester) (address count : Nat) :
    VoicesOnly s (s.askPort who address count) := by
  unfold State.askPort
  dsimp only
  split
  · exact ⟨rfl, rfl, rfl, rfl, rfl, rfl, List.subset_append_right _ _⟩
  · rw [State.arbitrate_eq]
    exact .of_written s s.nre s.bus _

theorem State.refill_voicesOnly (v : Voice) : VoicesOnly s (s.refill v) := by
  obtain h | ⟨_, _, _, h⟩ := s.refill_cases v
  · rw [h]
    exact .refl s
  · rw [h]
    exact (State.setVoice_voicesOnly v _).trans (State.askPort_voicesOnly _ _ _)

theorem State.primeTest_voicesOnly (v : Voice) : VoicesOnly s (s.primeTest v) := by
  unfold State.primeTest
  dsimp only
  split
  · exact State.setVoice_voicesOnly v _
  · exact .refl s

theorem State.shareAir_voicesOnly (v : Voice) : VoicesOnly s (s.shareAir v) := by
  have hprime : VoicesOnly s (s.enterPriming v .granted) :=
    ((State.setVoice_voicesOnly v _).trans (State.refill_voicesOnly v)).trans (State.primeTest_voicesOnly v)
  unfold State.shareAir
  split
  · exact hprime
  · exact hprime
  · exact .refl s

theorem State.syncTalking_voicesOnly : VoicesOnly s s.syncTalking := by
  have hflag : VoicesOnly s
      (s.onNre fun n => { n with talking := s.nre.a.talks || s.nre.b.talks }).earlyRequest :=
    .of_written s _ _ s.smp
  unfold State.syncTalking
  dsimp only
  split
  · exact .refl s
  · split
    · exact (hflag.trans (State.shareAir_voicesOnly .a)).trans (State.shareAir_voicesOnly .b)
    · exact hflag

end

/-! ### Rounds over the axes -/

theorem mem_allAxes (a : Fin 4) : a ∈ allAxes := by revert a; decide

theorem nodup_allAxes : allAxes.Nodup := by decide

theorem forEach_axes_same {f : Fin 4 → State → State} {a : Fin 4}
    (hf : ∀ b s, a ≠ b → SameFor a s (f b s)) :
    ∀ {xs : List (Fin 4)} (s : State), a ∉ xs → SameFor a s (forEach xs f s)
  | [], s, _ => .refl a s
  | b :: xs, s, h => by
    obtain ⟨hb, hxs⟩ : a ≠ b ∧ a ∉ xs := by simpa using h
    exact (hf b s hb).trans (forEach_axes_same hf _ hxs)

/-- A round over the axes is, for each of them, its own turn with what is the same for it before and after. -/
theorem forEach_allAxes_at {f : Fin 4 → State → State} {a : Fin 4}
    (hf : ∀ b s, a ≠ b → SameFor a s (f b s)) (s : State) :
    ∃ t, SameFor a s t ∧ SameFor a (f a t) (forEach allAxes f s) := by
  obtain ⟨before, after, hsplit⟩ := List.append_of_mem (mem_allAxes a)
  have hnodup : (a :: (before ++ after)).Nodup := by
    rw [← List.nodup_middle, ← hsplit]
    exact nodup_allAxes
  obtain ⟨hbefore, hafter⟩ : a ∉ before ∧ a ∉ after := by simpa using (List.nodup_cons.1 hnodup).1
  rw [hsplit, forEach_append_cons]
  exact ⟨_, forEach_axes_same hf s hbefore, forEach_axes_same hf _ hafter⟩

/-! ### Hold comes into effect -/

/-- A voice when hold comes into effect: a PLAYING one goes into a pause tail (R142). -/
def VoiceRec.heldBack (x : VoiceRec) : VoiceRec :=
  if x.state = .playing then { x with state := .tailing, tailPause := true, tailCount := 0, goal := 0 } else x

section
variable (s : State)

theorem State.voiceHoldBegins_eq (v : Voice) : s.voiceHoldBegins v = s.setVoice v (s.voice v).heldBack := by
  have hsame : s.setVoice v (s.voice v) = s := by cases v <;> rfl
  cases h : (s.voice v).state <;> simp [State.voiceHoldBegins, VoiceRec.heldBack, h, hsame]

/-- Hold is in effect and presented to the lights and the voices. -/
def State.holdPresented : State :=
  forEach allVoices (fun v s => s.voiceHoldBegins v)
    (s.onHld fun h => { h with inEffect := true, release := none, releaseDue := false }).lightsHoldBegins

theorem State.beginHold_eq :
    s.beginHold = forEach allAxes (fun a s => s.axisHoldBegins a) s.holdPresented := rfl

theorem State.holdPresented_voicesOnly :
    VoicesOnly (s.onHld fun h => { h with inEffect := true, release := none, releaseDue := false }).lightsHoldBegins
      s.holdPresented :=
  forEach_induct (P := VoicesOnly _)
    (fun v t h => h.trans (by rw [State.voiceHoldBegins_eq]; exact State.setVoice_voicesOnly v _)) _ _ (.refl _)

/-- The axes leave the hold, the lights and the voices alone. -/
theorem State.beginHold_reads :
    s.beginHold.hld = s.holdPresented.hld ∧ s.beginHold.lte = s.holdPresented.lte ∧
      s.beginHold.nre = s.holdPresented.nre :=
  forEach_induct
    (P := fun t => t.hld = s.holdPresented.hld ∧ t.lte = s.holdPresented.lte ∧ t.nre = s.holdPresented.nre)
    (fun a t h => by rw [State.axisHoldBegins, State.putAxis_eq]; exact h) _ _ ⟨rfl, rfl, rfl⟩

theorem State.beginHold_hld :
    s.beginHold.hld = { s.hld with inEffect := true, release := none, releaseDue := false } := by
  obtain ⟨hhld, -, -⟩ := s.beginHold_reads
  rw [hhld, s.holdPresented_voicesOnly.hld]
  rfl

theorem State.channel_beginHold (c : Fin 16) :
    s.beginHold.channel c = (s.channel c).holdBegins (goTos s.cfg)[c] := by
  obtain ⟨-, hlte, -⟩ := s.beginHold_reads
  rw [State.channel, hlte, s.holdPresented_voicesOnly.lte]
  exact State.channel_lightsHoldBegins _ c

theorem State.voice_beginHold (v : Voice) : s.beginHold.voice v = (s.voice v).heldBack := by
  obtain ⟨-, -, hnre⟩ := s.beginHold_reads
  rw [State.voice_of_nre hnre]
  refine (forEach_reads (read := State.voice) (g := fun _ x => x.heldBack) (fun v t => ?_) (fun v w t h => ?_)
    (show allVoices.Nodup by decide) _ v).trans (if_pos (by cases v <;> decide))
  · rw [State.voiceHoldBegins_eq, State.voice_setVoice_self]
  · rw [State.voiceHoldBegins_eq, State.voice_setVoice_ne _ _ h]

theorem State.axis_beginHold (a : Fin 4) : s.beginHold.axis a = (s.axis a).holdGuard := by
  rw [State.beginHold_eq]
  refine ((forEach_reads (read := State.axis) (g := fun _ x => x.holdGuard) (fun a t => ?_) (fun a b t h => ?_)
    nodup_allAxes _ a).trans (if_pos (mem_allAxes a))).trans ?_
  · exact State.axis_putAxis_self t a _
  · exact (State.putAxis_same _ h).axis
  · rw [State.axis, s.holdPresented_voicesOnly.mte]
    rfl

theorem VoiceRec.heldBack_playing {x : VoiceRec} (h : x.state = .playing) :
    x.heldBack.state = .tailing ∧ x.heldBack.tailPause = true := by
  simp [VoiceRec.heldBack, h]

theorem Axis.holdGuard_moving {x : Axis} (h : x.state = .moving ∨ x.state = .homing) :
    x.holdGuard = { x with state := .stopping, stopKind := some .holdGuard } := by
  rcases h with h | h <;> simp [Axis.holdGuard, h]

end

/-! ### Hold goes out of effect -/

section
variable (s : State)

/-- Hold is out of effect and presented to the lights, and what waited for it is to be tested. -/
def State.holdLifted : State :=
  ((s.onHld fun h => { h with inEffect := false, release := none, releaseDue := false }).lightsHoldEnds).post
    ((allSlots.flatMap fun i => [Signal.slotTest i, .runCues i]) ++ [.examine, .serve])

/-- The HELD axes with a clear guard have resumed. -/
def State.axesResumed : State := forEach allAxes (fun a s => s.resume a) s.holdLifted

/-- The voices go on, and the talking flag is still to be brought up. -/
def State.voicesGoOn : State := forEach allVoices (fun v s => s.voiceHoldEnds v) s.axesResumed

theorem State.voicesGoOn_eq : s.voicesGoOn = (s.axesResumed.voiceHoldEnds .a).voiceHoldEnds .b := by
  simp only [State.voicesGoOn, forEach, allVoices, List.foldl_cons, List.foldl_nil]

theorem State.endHold_eq : s.endHold = s.voicesGoOn.syncTalking := rfl

/-! #### The axes (R156) -/

/-- What resumes writes the axes, the admission line and the signals alone, and loses no signal. -/
theorem State.resume_exists (a : Fin 4) : ∃ m l g,
    s.resume a = { s with mte := m, lgv := l, agenda := g ++ s.agenda } := by
  unfold State.resume
  dsimp only
  split
  · split
    · rw [State.joinLine, State.putAxis_eq]
      exact ⟨_, _, .examine :: _, rfl⟩
    · exact ⟨_, _, [], rfl⟩
  · exact ⟨_, _, [], rfl⟩

theorem State.axesResumed_exists : ∃ m l g,
    s.axesResumed = { s.holdLifted with mte := m, lgv := l, agenda := g ++ s.holdLifted.agenda } := by
  refine forEach_induct
    (P := fun t => ∃ m l g, t = { s.holdLifted with mte := m, lgv := l, agenda := g ++ s.holdLifted.agenda })
    (fun a t ht => ?_) _ _ ⟨_, _, [], rfl⟩
  obtain ⟨_, _, g, rfl⟩ := ht
  obtain ⟨m, l, g', hr⟩ := State.resume_exists _ a
  exact ⟨m, l, g' ++ g, hr.trans (by rw [List.append_assoc])⟩

variable {s} in
/-- A HELD axis with a clear guard waits for power again, with its move (R156). -/
theorem State.axesResumed_joins {a : Fin 4} {m : Move} (hs : (s.axis a).state = .held)
    (hg : (s.axis a).guardClear = true) (hm : (s.axis a).move = some m) :
    s.axesResumed.axis a =
        { s.axis a with state := .waitPower, move := some m, waitTimer := 0, v := 0, stopKind := none } ∧
      a ∈ s.axesResumed.lgv.line := by
  obtain ⟨t, hst, htu⟩ := forEach_allAxes_at (a := a) (f := fun a s => s.resume a)
    (fun b t h => State.resume_same h) s.holdLifted
  have haxis : t.axis a = s.axis a := hst.axis
  have hjoins : t.resume a = t.joinLine a m :=
    State.resume_joins (by rwa [haxis]) (by rwa [haxis]) (by rw [hst.held]; rfl) (by rwa [haxis])
  rw [State.axesResumed, htu.axis, htu.line, hjoins, State.axis_joinLine_self, State.joinLine_line, haxis]
  exact ⟨rfl, List.mem_append_right _ (List.mem_singleton_self a)⟩

end

/-! #### One voice (R133, R140, R142) -/

section
variable (s : State) (v : Voice)

theorem State.setVoice_voice : s.setVoice v (s.voice v) = s := by cases v <;> rfl

theorem State.askPort_bus (who : Requester) (address count : Nat) :
    (s.askPort who address count).bus = s.bus := by
  unfold State.askPort
  dsimp only
  split
  · rfl
  · rw [State.arbitrate_eq]
    rfl

theorem State.refill_bus : (s.refill v).bus = s.bus := by
  obtain h | ⟨_, _, _, h⟩ := s.refill_cases v
  · rw [h]
  · rw [h, State.askPort_bus, State.setVoice_bus]

/-- A voice that comes to play from a state in which it had the air talks as it did (R144). -/
theorem VoiceRec.talks_playing {x y : VoiceRec} (hy : y.state = .playing)
    (hx : x.state = .priming ∨ x.state = .paused ∨ x.state = .tailing) (hc : y.current = x.current) :
    y.talks = x.talks := by
  rcases hx with hx | hx | hx <;> cases h : x.current <;> simp [VoiceRec.talks, hx, hy, hc, h]

/-- A voice that starts to play talked while it primed (R140). -/
theorem State.primeTest_cases : ∃ y : VoiceRec, y.talks = (s.voice v).talks ∧ s.primeTest v = s.setVoice v y := by
  unfold State.primeTest
  dsimp only
  split
  · rename_i h
    simp only [Bool.and_eq_true, decide_eq_true_eq] at h
    obtain ⟨⟨hs, -⟩, -⟩ := h
    refine ⟨_, ?_, rfl⟩
    exact VoiceRec.talks_playing rfl (.inl hs) rfl
  · exact ⟨_, rfl, (s.setVoice_voice v).symm⟩

/-- A voice that judges the air does not talk before or after; it queues one message at most (R133). -/
theorem State.judgeAir_cases : ∃ (y : VoiceRec) (f : Bus → Bus), y.talks = (s.voice v).talks ∧
    (f s.bus).queue.length ≤ s.bus.queue.length + 1 ∧ s.judgeAir v = (s.setVoice v y).onBus f := by
  have hstands : ∃ (y : VoiceRec) (f : Bus → Bus), y.talks = (s.voice v).talks ∧
      (f s.bus).queue.length ≤ s.bus.queue.length + 1 ∧ s = (s.setVoice v y).onBus f :=
    ⟨s.voice v, id, rfl, Nat.le_succ _, (s.setVoice_voice v).symm⟩
  unfold State.judgeAir
  dsimp only
  split
  · rename_i h
    simp only [Bool.and_eq_true, decide_eq_true_eq] at h
    obtain ⟨⟨⟨hs, -⟩, -⟩, -⟩ := h
    split
    · exact hstands
    · split
      · rename_i c _ hroom
        refine ⟨{ s.voice v with state := .claiming, claim := none, claimId := (s.voice v).claimId + 1 },
          (·.place (.talk v c.clip ((s.voice v).claimId + 1)) .nre), by simp [VoiceRec.talks, hs],
          by simp [Bus.place], State.enqueue_of_room ?_⟩
        rw [State.setVoice_bus]
        exact of_decide_eq_true hroom
      · exact ⟨_, id, by simp [VoiceRec.talks, hs], Nat.le_succ _, rfl⟩
  · exact hstands

/-- What the end of hold makes of a voice: it is written, with a refill or with one more message queued at most,
and talks as it did (R142, R144). -/
theorem State.voiceHoldEnds_cases : ∃ (y : VoiceRec) (f : Bus → Bus), y.talks = (s.voice v).talks ∧
    (f s.bus).queue.length ≤ s.bus.queue.length + 1 ∧
      (s.voiceHoldEnds v = (s.setVoice v y).onBus f ∨ s.voiceHoldEnds v = (s.setVoice v y).refill v) := by
  have hroom : (id s.bus).queue.length ≤ s.bus.queue.length + 1 := Nat.le_succ _
  have hstands : s = (s.setVoice v (s.voice v)).onBus id := (s.setVoice_voice v).symm
  unfold State.voiceHoldEnds
  dsimp only
  split
  case h_1 hs =>
    refine ⟨_, id, ?_, hroom, .inr rfl⟩
    exact VoiceRec.talks_playing rfl (.inr (.inl hs)) rfl
  case h_2 hs =>
    split
    · refine ⟨_, id, ?_, hroom, .inr rfl⟩
      exact VoiceRec.talks_playing rfl (.inr (.inr hs)) rfl
    · exact ⟨_, id, rfl, hroom, .inl hstands⟩
  case h_3 =>
    obtain ⟨y, hy, hp⟩ := s.primeTest_cases v
    exact ⟨y, id, hy, hroom, .inl hp⟩
  case h_4 =>
    obtain ⟨y, f, hy, hf, hj⟩ := s.judgeAir_cases v
    exact ⟨y, f, hy, hf, .inl hj⟩
  case h_5 => exact ⟨_, id, rfl, hroom, .inl hstands⟩

theorem State.voiceHoldEnds_voicesOnly : VoicesOnly s (s.voiceHoldEnds v) := by
  obtain ⟨y, f, -, -, h | h⟩ := s.voiceHoldEnds_cases v
  · rw [h]
    exact (State.setVoice_voicesOnly v y).trans (.of_written _ _ _ _)
  · rw [h]
    exact (State.setVoice_voicesOnly v y).trans (State.refill_voicesOnly v)

theorem State.voice_voiceHoldEnds_ne {w : Voice} (hw : w ≠ v) : (s.voiceHoldEnds v).voice w = s.voice w := by
  obtain ⟨y, f, -, -, h | h⟩ := s.voiceHoldEnds_cases v
  · rw [h]
    exact s.voice_setVoice_ne y hw
  · rw [h, State.voice_refill_ne _ hw, s.voice_setVoice_ne y hw]

theorem State.voiceHoldEnds_room : (s.voiceHoldEnds v).bus.queue.length ≤ s.bus.queue.length + 1 := by
  obtain ⟨y, f, -, hf, h | h⟩ := s.voiceHoldEnds_cases v
  · rw [h, State.onBus_bus, State.setVoice_bus]
    exact hf
  · rw [h, State.refill_bus, State.setVoice_bus]
    exact Nat.le_succ _

/-- The talking flag is that of the voices (R144). -/
abbrev State.TalkingAgrees (s : State) : Prop := s.nre.talking = (s.nre.a.talks || s.nre.b.talks)

variable {s} {v}

theorem State.refill_agrees (h : s.TalkingAgrees) : (s.refill v).TalkingAgrees := by
  obtain hr | ⟨ofNext, _, _, hr⟩ := s.refill_cases v
  · rwa [hr]
  · rw [hr, State.TalkingAgrees, State.askPort_nre]
    exact State.talking_agrees_setVoice _ id h rfl

theorem State.voiceHoldEnds_agrees (h : s.TalkingAgrees) : (s.voiceHoldEnds v).TalkingAgrees := by
  obtain ⟨y, f, hy, -, he | he⟩ := s.voiceHoldEnds_cases v
  · rw [he]
    exact State.talking_agrees_setVoice y f h hy
  · rw [he]
    exact State.refill_agrees (State.talking_agrees_setVoice y id h hy)

theorem State.voice_voiceHoldEnds_paused (h : (s.voice v).state = .paused) : ∃ burst ofNext,
    (s.voiceHoldEnds v).voice v =
      { s.voice v with
        state := .playing, ramp := 0, goal := (s.voice v).airGoal, burst := burst, burstNext := ofNext } := by
  simp only [State.voiceHoldEnds, h]
  obtain ⟨burst, ofNext, hr⟩ := State.voice_refill_self
    (s.setVoice v { s.voice v with state := .playing, ramp := 0, goal := (s.voice v).airGoal }) v
  exact ⟨burst, ofNext, hr.trans (by rw [State.voice_setVoice_self])⟩

theorem State.voice_voiceHoldEnds_pauseTail (h : (s.voice v).state = .tailing)
    (hp : (s.voice v).tailPause = true) : ∃ burst ofNext,
    (s.voiceHoldEnds v).voice v =
      { s.voice v with
        state := .playing, goal := (s.voice v).airGoal, burst := burst, burstNext := ofNext } := by
  have hends : s.voiceHoldEnds v =
      (s.setVoice v { s.voice v with state := .playing, goal := (s.voice v).airGoal }).refill v := by
    simp only [State.voiceHoldEnds, h, hp, if_true]
  obtain ⟨burst, ofNext, hr⟩ := State.voice_refill_self
    (s.setVoice v { s.voice v with state := .playing, goal := (s.voice v).airGoal }) v
  rw [hends]
  exact ⟨burst, ofNext, hr.trans (by rw [State.voice_setVoice_self])⟩

theorem State.voice_voiceHoldEnds_primed (h : (s.voice v).state = .priming) (hh : s.held = false)
    (hf : 512 ≤ (s.voice v).fill ∨ leftToFetch (s.voice v).current = 0) :
    (s.voiceHoldEnds v).voice v = { s.voice v with state := .playing, ramp := (s.voice v).goal } := by
  simp [State.voiceHoldEnds, State.primeTest, h, hh, hf]

theorem State.voice_voiceHoldEnds_claims {c : Held} (h : (s.voice v).state = .waitQuiet)
    (hr : (s.voice v).retry = none) (hc : (s.voice v).current = some c) (hh : s.held = false)
    (hq : s.airQuiet = true) (hb : s.bus.queue.length < 8) :
    ((s.voiceHoldEnds v).voice v).state = .claiming := by
  simp only [State.voiceHoldEnds, h]
  rw [State.judgeAir_claims h hr hc hh hq hb]
  show ((s.setVoice v _).voice v).state = _
  rw [State.voice_setVoice_self]

end

/-! #### Every block after the end of hold -/

section
variable (s : State)

theorem State.voicesGoOn_voicesOnly : VoicesOnly s.axesResumed s.voicesGoOn :=
  forEach_induct (P := VoicesOnly s.axesResumed) (fun v t h => h.trans (t.voiceHoldEnds_voicesOnly v)) _ _
    (.refl _)

theorem State.endHold_voicesOnly : VoicesOnly s.axesResumed s.endHold :=
  s.voicesGoOn_voicesOnly.trans State.syncTalking_voicesOnly

theorem State.endHold_hld :
    s.endHold.hld = { s.hld with inEffect := false, release := none, releaseDue := false } := by
  obtain ⟨_, _, _, haxes⟩ := s.axesResumed_exists
  rw [s.endHold_voicesOnly.hld, haxes]
  rfl

theorem State.channel_endHold (k : Fin 16) :
    s.endHold.channel k = (s.channel k).holdEnds (goTos s.cfg)[k] := by
  obtain ⟨_, _, _, haxes⟩ := s.axesResumed_exists
  rw [State.channel, s.endHold_voicesOnly.lte, haxes]
  exact State.channel_lightsHoldEnds _ k

/-- The signals that wait at the end of hold are those that it presents, and more (R162). -/
theorem State.mem_endHold_agenda {x : Signal} (h : x ∈ s.holdLifted.agenda) : x ∈ s.endHold.agenda := by
  obtain ⟨_, _, _, haxes⟩ := s.axesResumed_exists
  refine s.endHold_voicesOnly.signals ?_
  rw [haxes]
  exact List.mem_append_right _ h

/-- A voice has its turn at the end of hold as it was, out of hold, in the same air, and with at most one more
message before it. -/
theorem State.voicesGoOn_at (v : Voice) : ∃ t : State, t.held = false ∧ t.airQuiet = s.airQuiet ∧
    t.voice v = s.voice v ∧ t.bus.queue.length ≤ s.bus.queue.length + 1 ∧
      s.voicesGoOn.voice v = (t.voiceHoldEnds v).voice v := by
  obtain ⟨_, _, _, haxes⟩ := s.axesResumed_exists
  have hheld : s.axesResumed.held = false := by rw [haxes]; rfl
  have hquiet : s.axesResumed.airQuiet = s.airQuiet := by rw [haxes]; rfl
  have hvoice : s.axesResumed.voice v = s.voice v := State.voice_of_nre (by rw [haxes]; rfl) v
  have hbus : s.axesResumed.bus = s.bus := by rw [haxes]; rfl
  rw [State.voicesGoOn_eq]
  cases v with
  | a =>
    refine ⟨s.axesResumed, hheld, hquiet, hvoice, by rw [hbus]; exact Nat.le_succ _, ?_⟩
    exact State.voice_voiceHoldEnds_ne _ .b (by decide)
  | b =>
    have honly := s.axesResumed.voiceHoldEnds_voicesOnly .a
    refine ⟨s.axesResumed.voiceHoldEnds .a, honly.held.trans hheld, honly.airQuiet.trans hquiet,
      (State.voice_voiceHoldEnds_ne _ .a (by decide)).trans hvoice, ?_, rfl⟩
    rw [← hbus]
    exact State.voiceHoldEnds_room _ .a

variable {s}

/-- Bringing up the talking flag leaves a voice that plays on as it is. -/
theorem State.voice_endHold_playing {v : Voice} (h : (s.voicesGoOn.voice v).state = .playing) :
    s.endHold.voice v = s.voicesGoOn.voice v := by
  rw [State.endHold_eq]
  exact State.voice_syncTalking s.voicesGoOn (by rw [h]; exact VoiceState.noConfusion)
    (by rw [h]; exact VoiceState.noConfusion)

/-- Where the talking flag is in step with the voices the end of hold leaves it so. -/
theorem State.endHold_of_agrees (h : s.TalkingAgrees) : s.endHold = s.voicesGoOn := by
  obtain ⟨_, _, _, haxes⟩ := s.axesResumed_exists
  have hagrees : s.axesResumed.TalkingAgrees := by
    rw [haxes]
    exact h
  rw [State.endHold_eq, State.voicesGoOn_eq]
  exact State.syncTalking_of_agrees (State.voiceHoldEnds_agrees (State.voiceHoldEnds_agrees hagrees))

end

/-! ### The commands -/

section
variable (s : State)

theorem exec_holdBegins : exec .holdBegins s = act State.holdBeginDue State.beginHold s := rfl

theorem exec_holdEnd : exec .holdEnd s = act State.holdEndDue State.endHold s := rfl

theorem exec_holdLineStuck : exec .holdLineStuck s = act State.stuckDue State.reportStuck s := rfl

theorem State.holdBeginDue_iff :
    s.holdBeginDue = true ↔ s.cfg.isSome = true ∧ s.hld.lineLow = true ∧ s.hld.inEffect = false := by
  simp [State.holdBeginDue, State.configured, and_assoc]

theorem State.holdEndDue_iff :
    s.holdEndDue = true ↔ s.hld.inEffect = true ∧ s.hld.releaseDue = true := by
  simp [State.holdEndDue]

theorem State.stuckDue_iff :
    s.stuckDue = true ↔ s.cfg.isSome = true ∧ s.hld.stuckReported = false ∧ 0 < s.hld.stuck ∧
      3 * s.beaconPeriod ≤ s.hld.stuck := by
  rw [← State.stuckLimit]
  simp [State.stuckDue, State.configured, and_assoc]

end

/-- Settles O51: each command by its test, and the start and the end of hold by what each block makes of them. -/
theorem holdBeginsAndEnds : Obligations.HoldBeginsAndEnds := by
  unfold Obligations.HoldBeginsAndEnds
  refine ⟨⟨fun s => ⟨fun hc hl hi => ?_, fun hc hr h0 hs => ?_⟩, fun s => ⟨fun h => ?_, fun hi hd => ?_⟩⟩,
    fun s => ⟨fun i => ?_, ?_, ?_, fun a m hs hg hm => ?_, fun v => ⟨fun hs => ?_, fun hs hp => ?_,
      fun hs hf => ?_, fun hs hr hc hq hb ht => ?_⟩⟩⟩
  · refine ⟨(exec_holdBegins s).trans (act_may (s.holdBeginDue_iff.2 ⟨hc, hl, hi⟩)), s.beginHold_hld,
      fun c hcyc => ?_, fun c => ?_, fun a ha => ?_, fun v hv => ?_⟩
    · rw [State.channel_beginHold, Channel.holdBegins_latched _ hcyc]
    · rw [State.channel_beginHold, Channel.holdBegins_dir]
    · rw [State.axis_beginHold, Axis.holdGuard_moving ha]
      exact ⟨rfl, rfl, rfl⟩
    · rw [State.voice_beginHold]
      exact VoiceRec.heldBack_playing hv
  · exact gives_of_act (exec_holdLineStuck s) (s.stuckDue_iff.2 ⟨hc, hr, h0, hs⟩) rfl
      (State.report_agenda _ _ _ _)
  · refine (exec_holdEnd s).trans (act_may_not ?_)
    rw [← Bool.not_eq_true, State.holdEndDue_iff]
    rintro ⟨hi, hd⟩
    rcases h with h | h <;> simp_all
  · refine ⟨(exec_holdEnd s).trans (act_may (s.holdEndDue_iff.2 ⟨hi, hd⟩)), s.endHold_hld, fun k => ?_,
      fun c hc k => ?_⟩
    · rw [State.channel_endHold, Channel.holdEnds_latched]
    · rw [State.channel_endHold, Channel.holdEnds_dir, hc, goTos_some]
  · have hposted : ∀ i, .slotTest i ∈ s.holdLifted.agenda ∧ .runCues i ∈ s.holdLifted.agenda := fun i =>
      ⟨List.mem_append_left _ (by revert i; decide), List.mem_append_left _ (by revert i; decide)⟩
    exact (hposted i).imp s.mem_endHold_agenda s.mem_endHold_agenda
  · exact s.mem_endHold_agenda (List.mem_append_left _ (by decide))
  · exact s.mem_endHold_agenda (List.mem_append_left _ (by decide))
  · obtain ⟨haxis, hline⟩ := State.axesResumed_joins hs hg hm
    rw [State.axis, s.endHold_voicesOnly.mte, s.endHold_voicesOnly.lgv]
    change (s.axesResumed.axis a).state = _ ∧ (s.axesResumed.axis a).move = _ ∧
      (s.axesResumed.axis a).waitTimer = _ ∧ _
    rw [haxis]
    exact ⟨rfl, rfl, rfl, hline⟩
  · obtain ⟨t, -, -, hv, -, hgo⟩ := s.voicesGoOn_at v
    obtain ⟨burst, ofNext, hplay⟩ := State.voice_voiceHoldEnds_paused (s := t) (v := v) (by rwa [hv])
    rw [hv, ← hgo] at hplay
    rw [State.voice_endHold_playing (by rw [hplay]), hplay]
    exact ⟨rfl, rfl, rfl⟩
  · obtain ⟨t, -, -, hv, -, hgo⟩ := s.voicesGoOn_at v
    obtain ⟨burst, ofNext, hplay⟩ :=
      State.voice_voiceHoldEnds_pauseTail (s := t) (v := v) (by rwa [hv]) (by rwa [hv])
    rw [hv, ← hgo] at hplay
    rw [State.voice_endHold_playing (by rw [hplay]), hplay]
    exact ⟨rfl, rfl, rfl⟩
  · obtain ⟨t, hh, -, hv, -, hgo⟩ := s.voicesGoOn_at v
    have hplay := State.voice_voiceHoldEnds_primed (s := t) (v := v) (by rwa [hv]) hh (by rwa [hv])
    rw [hv, ← hgo] at hplay
    rw [State.voice_endHold_playing (by rw [hplay]), hplay]
    exact ⟨rfl, rfl⟩
  · obtain ⟨t, hh, hquiet, hv, hroom, hgo⟩ := s.voicesGoOn_at v
    obtain ⟨c, hclip⟩ := Option.ne_none_iff_exists'.1 hc
    rw [State.endHold_of_agrees ht, hgo]
    exact State.voice_voiceHoldEnds_claims (by rwa [hv]) (by rwa [hv]) (by rwa [hv]) hh (by rwa [hquiet])
      (by omega)

end Sys2Proof.Machine
end

section
/-! PROOFS. The Load Governor in a lighting frame (R112, R120 to R122): the scale against the demand, the outputs
under the scale, and the load that they draw. -/

namespace Sys2Proof.Machine

/-! ### The scale (R121) -/

section
variable {d al : Nat}

theorem scaleOf_of_le (h : d ≤ al) : scaleOf d al = 4096 := if_pos h

theorem scaleOf_of_lt (h : al < d) : scaleOf d al = al * 4096 / d := if_neg h.not_ge

theorem scaleOf_le (d al : Nat) : scaleOf d al ≤ 4096 := by
  rcases Nat.lt_or_ge al d with h | h
  · rw [scaleOf_of_lt h]
    exact Nat.div_le_of_le_mul (Nat.mul_le_mul_right 4096 h.le)
  · exact (scaleOf_of_le h).le

/-- The scaled demand is at most the lighting allowance, both in parts of 4096. -/
theorem mul_scaleOf_le (d al : Nat) : d * scaleOf d al ≤ al * 4096 := by
  rcases Nat.lt_or_ge al d with h | h
  · rw [scaleOf_of_lt h]
    exact Nat.mul_div_le _ _
  · rw [scaleOf_of_le h]
    exact Nat.mul_le_mul_right 4096 h

end

/-! ### The outputs under a scale (R111, R112) -/

theorem outputOf_full (exempt : Bool) (level : Nat) : outputOf exempt level 4096 = level := by
  cases exempt with
  | false => exact Nat.mul_div_cancel level (by decide)
  | true => rfl

theorem outputOf_le (exempt : Bool) (level : Nat) {scale : Nat} (h : scale ≤ 4096) :
    outputOf exempt level scale ≤ level := by
  cases exempt with
  | false => exact Nat.div_le_of_le_mul (by rw [Nat.mul_comm 4096]; exact Nat.mul_le_mul_left level h)
  | true => exact le_rfl

theorem outputOf_mul_le (level scale : Nat) : outputOf false level scale * 4096 ≤ level * scale :=
  Nat.div_mul_le_self _ _

/-- An intent of 16 bits has a curve level of 12 bits, on either curve. -/
theorem curveLevel_le (square : Bool) {intent : Nat} (h : intent ≤ 65535) :
    curveLevel square intent ≤ 4095 := by
  cases square with
  | false => exact Nat.div_le_div_right (c := 16) h
  | true => exact Nat.div_le_div_right (c := 1048576) (Nat.mul_le_mul h h)

theorem Channel.frame_level (x : Channel) (c : ChannelCfg) (cfg : Config) (now : ShowTime) (hold : Bool)
    (groups : Vector Group 4) :
    (x.frame c cfg now hold groups).level = curveLevel c.square (x.frame c cfg now hold groups).intent := rfl

/-! ### The demand and the load of the lamps (R120, R122) -/

theorem le_ceilDiv_mul (x : Nat) : x ≤ ceilDiv x 4095 * 4095 := by
  unfold ceilDiv
  omega

section
variable (chans : Vector ChannelCfg 16) (pick : ChannelCfg → Bool)

/-- The sum of load times value runs over the channels. -/
theorem loadSum_eq_sum (vals : Vector Nat 16) :
    loadSum chans vals pick = ∑ k : Fin 16, if pick chans[k] then chans[k].load * vals[k] else 0 := by
  rw [loadSum, ← List.sum_eq_foldl, ← List.sum_ofFn]
  exact congrArg List.sum (List.ext_getElem (by simp) fun i _ _ => by rw [List.getElem_ofFn]; simp)

variable {chans} {pick}

/-- Values scaled down channel by channel draw a load that is scaled down at least as far. -/
theorem loadSum_mul_le {outs levels : Vector Nat 16} {m scale : Nat}
    (h : ∀ k : Fin 16, pick chans[k] = true → outs[k] * m ≤ levels[k] * scale) :
    loadSum chans outs pick * m ≤ loadSum chans levels pick * scale := by
  rw [loadSum_eq_sum, loadSum_eq_sum, Finset.sum_mul, Finset.sum_mul]
  refine Finset.sum_le_sum fun k _ => ?_
  split
  · rw [Nat.mul_assoc, Nat.mul_assoc]
    exact Nat.mul_le_mul_left _ (h k ‹_›)
  · simp

/-- Lamps under the scale of their demand draw no more than the lighting allowance: rounding the demand up and
the outputs down never lets them over it. -/
theorem scaledLoad_le {outs levels : Vector Nat 16} {al : Nat}
    (h : ∀ k : Fin 16, pick chans[k] = true →
      outs[k] * 4096 ≤ levels[k] * scaleOf (ceilDiv (loadSum chans levels pick) 4095) al) :
    loadSum chans outs pick / 4095 ≤ al := by
  generalize hd : ceilDiv (loadSum chans levels pick) 4095 = d at h
  have hceil : loadSum chans levels pick ≤ d * 4095 := hd ▸ le_ceilDiv_mul _
  have hload : loadSum chans outs pick * 4096 ≤ al * 4096 * 4095 :=
    calc loadSum chans outs pick * 4096
      _ ≤ loadSum chans levels pick * scaleOf d al := loadSum_mul_le h
      _ ≤ d * 4095 * scaleOf d al := Nat.mul_le_mul_right _ hceil
      _ = d * scaleOf d al * 4095 := Nat.mul_right_comm _ _ _
      _ ≤ al * 4096 * 4095 := Nat.mul_le_mul_right _ (mul_scaleOf_le d al)
  omega

end

/-! ### What a frame makes of the governor and of the channels (R103, R120 to R122) -/

/-- The channels after stages 1 to 5 of a frame, before the outputs. -/
def State.framed (s : State) (c : Config) : Vector Channel 16 :=
  vmap2 (fun x k => x.frame k c s.clk.showTime s.held s.viu.groups) s.lte.channels c.channels

/-- The governor when it has answered the curve levels of a frame. -/
def State.governed (s : State) (c : Config) : Lgv :=
  s.lgv.frameScale c.channels (vmap (·.level) (s.framed c))

/-- The channels with the outputs of a frame. -/
def State.lit (s : State) (c : Config) : Vector Channel 16 :=
  vmap2 (fun x k => { x with output := outputOf k.exempt x.level (s.governed c).scale }) (s.framed c) c.channels

section
variable {s : State} {c : Config}

theorem State.lightingFrame_eq (hc : s.cfg = some c) :
    s.lightingFrame =
      ({ s with
        lte := { s.lte with channels := s.lit c }
        lgv := (s.governed c).frameLoad c.channels (vmap Channel.output (s.lit c)) }).post [.examine] := by
  rw [State.lightingFrame, hc]
  rfl

theorem State.lightingFrame_lgv (hc : s.cfg = some c) :
    s.lightingFrame.lgv = (s.governed c).frameLoad c.channels (vmap (·.output) (s.lit c)) := by
  rw [State.lightingFrame_eq hc]
  rfl

theorem State.lightingFrame_scale (hc : s.cfg = some c) :
    s.lightingFrame.lgv.scale = scaleOf s.lightingFrame.lgv.demand s.lightingFrame.lgv.lightingAllowance := by
  rw [State.lightingFrame_lgv hc]
  rfl

theorem State.lit_getElem (k : Fin 16) :
    (s.lit c)[k] =
      { (s.framed c)[k] with
        output := outputOf c.channels[k].exempt (s.framed c)[k].level (s.governed c).scale } :=
  vmap2_getElem _ _ _ k

theorem State.lightingFrame_channel (hc : s.cfg = some c) (k : Fin 16) :
    s.lightingFrame.channel k =
      { (s.channel k).frame c.channels[k] c s.clk.showTime s.held s.viu.groups with
        output := outputOf c.channels[k].exempt
          ((s.channel k).frame c.channels[k] c s.clk.showTime s.held s.viu.groups).level
          s.lightingFrame.lgv.scale } := by
  have hframed : (s.framed c)[k] = (s.channel k).frame c.channels[k] c s.clk.showTime s.held s.viu.groups :=
    vmap2_getElem _ _ _ k
  rw [State.lightingFrame_lgv hc, ← hframed, State.lightingFrame_eq hc]
  exact State.lit_getElem k

/-- The output of a channel is its curve level under the scale of the frame (R112). -/
theorem State.lightingFrame_output (hc : s.cfg = some c) (k : Fin 16) :
    (s.lightingFrame.channel k).output =
      outputOf c.channels[k].exempt (s.lightingFrame.channel k).level s.lightingFrame.lgv.scale := by
  rw [State.lightingFrame_channel hc]

/-- The curve level of a channel is that of its intent (R111). -/
theorem State.lightingFrame_level (hc : s.cfg = some c) (k : Fin 16) :
    (s.lightingFrame.channel k).level =
      curveLevel c.channels[k].square (s.lightingFrame.channel k).intent := by
  rw [State.lightingFrame_channel hc]
  exact Channel.frame_level _ _ _ _ _ _

/-- What a frame reads of the governor it leaves alone (R120 to R122). -/
theorem State.lightingFrame_reads (hc : s.cfg = some c) :
    s.lightingFrame.lgv.allowance = s.lgv.allowance ∧ s.lightingFrame.lgv.ledger = s.lgv.ledger ∧
      s.lightingFrame.lgv.line = s.lgv.line ∧ s.lightingFrame.lgv.reserved = s.lgv.reserved := by
  rw [State.lightingFrame_lgv hc]
  exact ⟨rfl, rfl, rfl, rfl⟩

/-- A frame ends with the granted load composed (R122). -/
theorem State.lightingFrame_granted (hc : s.cfg = some c) :
    s.lightingFrame.lgv.granted = s.lightingFrame.lgv.compose := by
  rw [State.lightingFrame_lgv hc]
  rfl

/-- The non-exempt lamps of a frame draw no more than the lighting allowance. -/
theorem State.lightingFrame_lamps_le (hc : s.cfg = some c) :
    s.lightingFrame.lgv.lamps ≤ s.lightingFrame.lgv.lightingAllowance := by
  rw [State.lightingFrame_lgv hc]
  refine scaledLoad_le (levels := vmap (·.level) (s.framed c)) fun k hk => ?_
  have hlamp : c.channels[k].exempt = false := by simpa using hk
  rw [vmap_getElem, vmap_getElem, State.lit_getElem, hlamp]
  exact outputOf_mul_le _ _

end

/-- The granted load is the three loads' sum where the lamps keep within their allowance (R122). -/
theorem Lgv.compose_of_lamps_le {l : Lgv} (h : l.lamps ≤ l.lightingAllowance) :
    l.compose = l.reserved + l.exempt + l.lamps := by
  rw [Lgv.compose, Nat.min_eq_left h]

/-- The granted load is within the allowance wherever the axes and the exempt lamps are (R122). -/
theorem Lgv.compose_le_allowance {l : Lgv} (h : l.reserved + l.exempt ≤ l.allowance) :
    l.compose ≤ l.allowance := by
  have hlamps : min l.lamps l.lightingAllowance ≤ l.allowance - l.reserved - l.exempt := Nat.min_le_right _ _
  unfold Lgv.compose
  omega

/-- Settles O38: the scale of the frame is `scaleOf` of the frame's own demand and lighting allowance, and every
output is the curve level under that scale. -/
theorem scaleOfAFrame : Obligations.ScaleOfAFrame := by
  unfold Obligations.ScaleOfAFrame
  rintro s c hc t rfl
  have hscale := State.lightingFrame_scale hc
  have hout := State.lightingFrame_output hc
  have hbound : s.lightingFrame.lgv.scale ≤ 4096 := hscale ▸ scaleOf_le _ _
  refine ⟨fun h => ?_, fun h => hscale.trans (scaleOf_of_lt h), hbound, fun h => ?_, fun h hd => ?_,
    fun k => ⟨hout k, ?_, fun hi => ?_⟩, fun old => ?_⟩
  · have hfull := hscale.trans (scaleOf_of_le h)
    exact ⟨hfull, fun k _ => by rw [hout k, hfull, outputOf_full]⟩
  · exact hscale.trans (scaleOf_of_le (h ▸ Nat.zero_le _))
  · rw [hscale, h, scaleOf_of_lt hd, Nat.zero_mul, Nat.zero_div]
  · exact hout k ▸ outputOf_le _ _ hbound
  · calc (s.lightingFrame.channel k).output
      _ ≤ (s.lightingFrame.channel k).level := hout k ▸ outputOf_le _ _ hbound
      _ ≤ 4095 := State.lightingFrame_level hc k ▸ curveLevel_le _ hi
  · rw [State.lightingFrame_lgv hc, State.lightingFrame_lgv (s := s.onLgv _) hc]
    rfl

/-- Settles O39: the scale keeps the lamps within the lighting allowance, so the granted load is the sum of the
three loads. -/
theorem grantedLoadOfAFrame : Obligations.GrantedLoadOfAFrame := by
  unfold Obligations.GrantedLoadOfAFrame
  rintro s c hc t rfl
  have hlamps := State.lightingFrame_lamps_le hc
  have hgranted := State.lightingFrame_granted hc
  obtain ⟨hallow, hledger, hline, hreserved⟩ := State.lightingFrame_reads hc
  refine ⟨hlamps, ?_, hallow, hledger, hline, fun h => ?_⟩
  · rw [hgranted, Lgv.compose_of_lamps_le hlamps, hreserved]
  · rw [← hreserved, ← hallow] at h
    rw [hgranted, ← hallow]
    exact Lgv.compose_le_allowance h

end Sys2Proof.Machine
end

section
/-! PROOFS. The allowance of a recompute (R118) and the admission of axes from the line (R123 to R125, R152,
R153). -/

namespace Sys2Proof.Machine

/-! ### The allowance of a recompute (R118) -/

section
variable {c : Config} (o g : Nat)

/-- The recomputed allowance is never negative, so it is the clamped sum itself. -/
theorem recomputed_cast (h : c.floor ≤ c.ceiling) :
    (recomputed c o g : Int) =
      max (c.floor : Int) (min (g + (((c.capacity : Int) - o - g) * c.gain).fdiv 16) c.ceiling) := by
  have hle : (c.floor : Int) ≤ c.ceiling := Int.ofNat_le.2 h
  rw [recomputed, clampInt_eq hle, Int.toNat_of_nonneg (by omega)]

variable {o g}

/-- Capacity to spare raises the allowance. -/
theorem fdiv_spare_nonneg (gain : Nat) {spare : Int} (h : 0 ≤ spare) : 0 ≤ (spare * gain).fdiv 16 :=
  Int.fdiv_nonneg (Int.mul_nonneg h (Int.natCast_nonneg gain)) (by decide)

/-- A load above the capacity lowers the allowance, rounding included. -/
theorem fdiv_spare_nonpos (gain : Nat) {spare : Int} (h : spare ≤ 0) : (spare * gain).fdiv 16 ≤ 0 := by
  have hprod : spare * gain ≤ 0 := Int.mul_nonpos_of_nonpos_of_nonneg h (Int.natCast_nonneg gain)
  rw [Int.fdiv_eq_ediv_of_nonneg _ (by decide)]
  omega

theorem le_recomputed_of_spare (h : c.floor ≤ c.ceiling) (hg : g ≤ c.ceiling) (hspare : o + g ≤ c.capacity) :
    g ≤ recomputed c o g := by
  have hcast := recomputed_cast o g h
  have := fdiv_spare_nonneg c.gain (spare := (c.capacity : Int) - o - g) (by omega)
  omega

theorem recomputed_le_of_short (h : c.floor ≤ c.ceiling) (hg : c.floor ≤ g) (hshort : c.capacity < o + g) :
    recomputed c o g ≤ g := by
  have hcast := recomputed_cast o g h
  have := fdiv_spare_nonpos c.gain (spare := (c.capacity : Int) - o - g) (by omega)
  omega

end

/-! ### An axis is admitted (R124, R125, R152, R153) -/

theorem Axis.admitted_move {x : Axis} (k : AxisCfg) (hg : x.guardClear = true) (hm : x.move ≠ some .home) :
    x.admitted k = { x with state := .moving, v := 0 } := by
  unfold Axis.admitted
  rw [if_pos hg]
  split
  · exact absurd ‹_› hm
  · rfl

theorem Axis.admitted_home {x : Axis} (k : AxisCfg) (hg : x.guardClear = true) (hm : x.move = some .home) :
    x.admitted k = { x with state := .homing, p := 0, v := 0, plus := k.homePlus, homed := false } := by
  simp [Axis.admitted, hg, hm]

theorem Axis.admitted_not_held {x : Axis} (k : AxisCfg) (hg : x.guardClear = true) :
    (x.admitted k).state ≠ .held := by
  by_cases hm : x.move = some .home
  · simp [Axis.admitted_home k hg hm]
  · simp [Axis.admitted_move k hg hm]

theorem Lgv.fits_iff (l : Lgv) (r : Nat) : l.fits r = true ↔ l.reserved + r + l.exempt ≤ l.allowance :=
  decide_eq_true_iff

section
variable {s : State} {a : Fin 4} {rest : List (Fin 4)} {c : Config}

/-- An axis whose guard is clear keeps the reservation it is admitted with. -/
theorem State.admitAxis_eq (k : AxisCfg) (hg : (s.axis a).guardClear = true) :
    s.admitAxis a k =
      (s.onLgv fun l =>
        { l with
          line := l.line.filter (fun x => x ≠ a)
          ledger := l.ledger ++ [{ axis := a, amount := k.reservation }] }).putAxis a
        ((s.axis a).admitted k) := by
  simp [State.admitAxis, State.axis_putAxis_self, Axis.admitted_not_held k hg]

/-- The axis at the front of the line leaves it for the ledger, and no other does. -/
theorem State.admitAxis_lgv (k : AxisCfg) (hg : (s.axis a).guardClear = true) (hl : s.lgv.line = a :: rest)
    (ha : a ∉ rest) :
    (s.admitAxis a k).lgv =
      { s.lgv with
        line := rest
        ledger := s.lgv.ledger ++ [{ axis := a, amount := k.reservation }] } := by
  have hothers : ∀ x ∈ rest, x ≠ a := fun x hx hxa => ha (hxa ▸ hx)
  simpa [State.admitAxis_eq k hg, hl] using hothers

theorem State.axis_admitAxis_self (k : AxisCfg) (hg : (s.axis a).guardClear = true) :
    (s.admitAxis a k).axis a = (s.axis a).admitted k := by
  rw [State.admitAxis_eq k hg, State.axis_putAxis_self]

/-! ### The line is examined (R124) -/

theorem State.examineLine_admits (hc : s.cfg = some c) (hl : s.lgv.line = a :: rest) (hh : s.held = false)
    (hfits : s.lgv.fits c.axes[a].reservation = true) :
    s.examineLine = (s.admitAxis a c.axes[a]).post [.examine] := by
  simp only [State.examineLine, hc, hl, hh, hfits]
  rfl

theorem State.examineLine_waits (hc : s.cfg = some c) (hl : s.lgv.line = a :: rest)
    (h : s.held = true ∨ s.lgv.fits c.axes[a].reservation = false) : s.examineLine = s := by
  have htest : (!s.held && s.lgv.fits c.axes[a].reservation) = false := by
    rcases h with h | h
    · rw [h, Bool.not_true, Bool.false_and]
    · rw [h, Bool.and_false]
  simp only [State.examineLine, hc, hl, htest]
  rfl

end

/-- Settles O41: the recomputed allowance is a clamped sum whose second term has the sign of the spare capacity;
an examination out of hold admits the front axis where it fits, and does nothing else. -/
theorem allowanceAndAdmission : Obligations.AllowanceAndAdmission := by
  unfold Obligations.AllowanceAndAdmission
  refine ⟨fun c o g h => ?_, fun s c a rest hc hl => ⟨fun hh => ?_, fun hover => ?_, fun hh hfits ha hg => ?_⟩⟩
  · have hcast := recomputed_cast o g h
    exact ⟨by omega, by omega, fun _ hg hspare => le_recomputed_of_spare h hg hspare,
      fun hg _ hshort => recomputed_le_of_short h hg hshort⟩
  · exact State.examineLine_waits hc hl (.inl hh)
  · refine State.examineLine_waits hc hl (.inr ?_)
    rw [← Bool.not_eq_true, Lgv.fits_iff]
    exact hover.not_ge
  · rw [State.examineLine_admits hc hl hh ((Lgv.fits_iff _ _).2 hfits), State.post_lgv, State.axis_post,
      State.axis_admitAxis_self _ hg]
    refine ⟨State.admitAxis_lgv _ hg hl ha, fun hm => ?_, fun hm => ?_⟩
    · rw [Axis.admitted_move _ hg hm]
    · rw [Axis.admitted_home _ hg hm]
      exact ⟨rfl, rfl⟩

end Sys2Proof.Machine
end

section
/-! PROOFS. The earshot gate (R133 to R136): a TALK of another station, and the timers of a voice that waits for
the air. -/

namespace Sys2Proof.Machine

/-! ### A TALK of another station (R134, R135, R174) -/

theorem exec_talk (sender voice clip : Byte) (s : State) :
    exec (.talk sender voice clip) s =
      act State.inReception (·.frame sender fun st s => s.talkFrame st voice) s := rfl

section
variable {s u : State} {st : Fin 32}

/-- A TALK of another station, heard at the rate in force, leaves what the gate makes of it. -/
theorem gives_talk {voice : Byte} (clip : Byte) (h : s.Receiving) (hn : st ≠ s.sul.number)
    (hu : s.heard.talkFrame st voice = u) (ha : u.agenda = []) :
    Gives (.talk (BitVec.ofNat 8 st.val) voice clip) s u :=
  gives_of_act (exec_talk _ _ _ _) (State.inReception_of_receiving h) ((State.frame_heard _ h hn).trans hu) ha

theorem State.talkFrame_of_voice (v : Voice) : s.talkFrame st (voiceCode v) = s.hearTalk st := by
  rw [State.talkFrame, voiceOf_voiceCode]

theorem State.talkFrame_of_no_voice {voice : Byte} (h : 2 ≤ voice.toNat) : s.talkFrame st voice = s := by
  rw [State.talkFrame, voiceOf_eq_none h]

theorem State.hearTalk_outside (h : s.earshot.getLsbD st.val = false) : s.hearTalk st = s := by
  rw [State.hearTalk, inSet, h]
  rfl

/-- Both voices back off where they claim (R134). -/
theorem State.backOff_both (s : State) :
    (s.backOff .a).backOff .b =
      { s with
        nre := { s.nre with
          a := s.nre.a.backedOff s.claimWindow, b := s.nre.b.backedOff s.claimWindow } } := by
  rw [State.backOff_eq, State.backOff_eq]
  rfl

/-- A TALK of the earshot set makes the claiming voices give way to a lower number, and is answered with an early
beacon while this station talks (R134, R135). -/
theorem State.hearTalk_earshot {waits : VoiceRec → VoiceRec} (h : s.earshot.getLsbD st.val = true)
    (hw : ∀ x, waits x = if st < s.sul.number then x.backedOff s.claimWindow else x)
    (hu : u = { s with nre := { s.nre with a := waits s.nre.a, b := waits s.nre.b } }) :
    s.hearTalk st = if s.nre.talking = true then u.earlyRequest else u := by
  have hgate : (if st < s.sul.number then (s.backOff .a).backOff .b else s) = u := by
    rw [hu, hw, hw]
    split
    · exact s.backOff_both
    · rfl
  have htalking : u.nre.talking = s.nre.talking := by rw [hu]
  rw [State.hearTalk, inSet, h, if_pos rfl, hgate, ← htalking]

end

/-- Settles O46: a TALK is dispatched to the gate, which answers it by the set and the number of its sender. -/
theorem talkAtTheGate : Obligations.TalkAtTheGate := by
  unfold Obligations.TalkAtTheGate
  intro s st v clip h hn
  refine ⟨fun hear => ?_, fun x hx => ?_, fun hear waits u hwaits hu => ?_⟩
  · exact gives_talk clip h hn ((State.talkFrame_of_voice v).trans (State.hearTalk_outside hear)) rfl
  · exact gives_talk clip h hn (State.talkFrame_of_no_voice hx) rfl
  · have hyields : ∀ x, waits x = if st < s.sul.number then x.backedOff s.claimWindow else x := fun x => by
      rw [hwaits, VoiceRec.backedOff]
      by_cases hlower : st < s.sul.number <;> simp [hlower]
    refine gives_talk clip h hn
      ((State.talkFrame_of_voice v).trans (State.hearTalk_earshot hear hyields hu)) ?_
    subst hu
    split <;> rfl

/-! ### A voice judges the air (R133) -/

section
variable {s : State} {v : Voice} {c : Held}

theorem State.judgeAir_of_held (h : s.held = true) : s.judgeAir v = s := by
  simp [State.judgeAir, h]

/-- A TALK that the outbound queue refuses leaves the voice to wait one claim window (R133). -/
theorem State.judgeAir_refused (hs : (s.voice v).state = .waitQuiet) (hr : (s.voice v).retry = none)
    (hc : (s.voice v).current = some c) (hh : s.held = false) (hq : s.airQuiet = true)
    (hb : 8 ≤ s.bus.queue.length) :
    s.judgeAir v = s.setVoice v { s.voice v with retry := some s.claimWindow } := by
  simp [State.judgeAir, State.outboundRoom, hs, hr, hc, hh, hq, hb]

/-! #### The voice that judges has just been written -/

section
variable {x : VoiceRec}

theorem State.airQuiet_setVoice : (s.setVoice v x).airQuiet = s.airQuiet :=
  (State.setVoice_voicesOnly v x).airQuiet

theorem State.judgeAir_setVoice_claims (hs : x.state = .waitQuiet) (hr : x.retry = none)
    (hc : x.current = some c) (hh : s.held = false) (hq : s.airQuiet = true) (hb : s.bus.queue.length < 8) :
    (s.setVoice v x).judgeAir v =
      (s.setVoice v { x with state := .claiming, claim := none, claimId := x.claimId + 1 }).onBus
        (·.place (.talk v c.clip (x.claimId + 1)) .nre) := by
  have hx := s.voice_setVoice_self v x
  rw [State.judgeAir_claims (c := c) (by rw [hx, hs]) (by rw [hx, hr]) (by rw [hx, hc])
    (by rw [State.held, State.setVoice_hld]; exact hh) (by rw [State.airQuiet_setVoice, hq])
    (by rw [State.setVoice_bus]; exact hb), hx, State.setVoice_setVoice]

theorem State.judgeAir_setVoice_refused (hs : x.state = .waitQuiet) (hr : x.retry = none)
    (hc : x.current = some c) (hh : s.held = false) (hq : s.airQuiet = true) (hb : 8 ≤ s.bus.queue.length) :
    (s.setVoice v x).judgeAir v = s.setVoice v { x with retry := some s.claimWindow } := by
  have hx := s.voice_setVoice_self v x
  rw [State.judgeAir_refused (c := c) (by rw [hx, hs]) (by rw [hx, hr]) (by rw [hx, hc])
    (by rw [State.held, State.setVoice_hld]; exact hh) (by rw [State.airQuiet_setVoice, hq])
    (by rw [State.setVoice_bus]; exact hb), hx, State.setVoice_setVoice]
  simp only [State.claimWindow, State.setVoice_cfg]

theorem State.judgeAir_setVoice_stays (h : s.held = true ∨ s.airQuiet = false) :
    (s.setVoice v x).judgeAir v = s.setVoice v x := by
  rcases h with h | h
  · exact State.judgeAir_of_held (by rw [State.held, State.setVoice_hld]; exact h)
  · exact State.judgeAir_of_noise v (State.airQuiet_setVoice.trans h)

end

/-! ### Priming begins, and the voice that has nothing left to play (R131, R140) -/

theorem State.enterPriming_eq (air : AirMark) (hc : (s.voice v).current = some c) :
    s.enterPriming v air =
      ((s.setVoice v
        { s.voice v with
          state := .priming, ramp := 0, goal := air.goal, claim := none, retry := none
          current := some { c with air := air } }).refill v).primeTest v := by
  simp only [State.enterPriming, State.onVoice, VoiceRec.prime, hc, Option.map_some]

theorem State.startHead_setVoice_nil {x : VoiceRec} (h : x.queue = []) :
    (s.setVoice v x).startHead v =
      (s.setVoice v { x with state := .idle, current := none, retry := none, claim := none }).post
        [.voiceIdle v s.sce.nextAwait] := by
  have hx := s.voice_setVoice_self v x
  rw [State.startHead_nil (by rw [hx, h]), hx, State.setVoice_setVoice, State.setVoice_sce]

/-! ### The timers of the gate -/

theorem exec_retryWaitEnd (s : State) : exec (.retryWaitEnd v) s = act (·.retryDue v) (·.endRetry v) s := rfl
theorem exec_claimGranted (s : State) : exec (.claimGranted v) s = act (·.grantDue v) (·.grant v) s := rfl
theorem exec_quietLimit (s : State) :
    exec (.quietLimit v) s = act (·.quietDue v) (·.passQuietLimit v) s := rfl

theorem State.voice_tick (s : State) (v : Voice) : s.tick.voice v = s.voice v := by cases v <;> rfl

/-- What a voice's judgement at the end of its retry wait leaves is all that the command does. -/
theorem gives_retryWaitEnd {u : State} (h : (s.voice v).retry = some 0)
    (hu : (s.tick.setVoice v { s.voice v with retry := none }).judgeAir v = u) (ha : u.agenda = []) :
    Gives (.retryWaitEnd v) s u := by
  refine gives_of_act (exec_retryWaitEnd s) (decide_eq_true h) ?_ ha
  rw [State.endRetry, State.onVoice, State.voice_tick, hu]

theorem State.grantDue_iff :
    s.grantDue v = true ↔ (s.voice v).state = .claiming ∧ (s.voice v).claim = some 0 := by
  simp [State.grantDue]

/-- The quiet limit is judged while the voice waits for the air (R136). -/
theorem State.quietDue_of_waiting (h : (s.voice v).state = .waitQuiet ∨ (s.voice v).state = .claiming)
    (hc : (s.voice v).current = some c) (hq : (s.clipOf c.clip).quietLimit < (s.voice v).quiet) :
    s.quietDue v = true := by
  rcases h with h | h <;> simp [State.quietDue, h, hc, hq]

theorem State.grant_eq (hc : (s.voice v).current = some c) :
    s.grant v =
      (((s.setVoice v
        { s.voice v with
          state := .priming, ramp := 0, goal := 256, claim := none, retry := none
          current := some { c with air := .granted } }).refill v).primeTest v).syncTalking := by
  rw [State.grant, State.enterPriming_eq .granted hc]
  rfl

theorem State.passQuietLimit_mustPlay (hc : (s.voice v).current = some c)
    (hm : (s.clipOf c.clip).mustPlay = true) :
    s.passQuietLimit v =
      (((s.setVoice v
        { s.voice v with
          state := .priming, ramp := 0, goal := 64, claim := none, retry := none
          current := some { c with air := .courtesy } }).refill v).primeTest v).syncTalking := by
  simp only [State.passQuietLimit, hc, hm, if_true, State.enterPriming_eq .courtesy hc]
  rfl

theorem State.voice_report (s : State) (k : FaultKind) (n : Nat) (d : DropSort) (v : Voice) :
    (s.report k n d).voice v = s.voice v :=
  State.voice_of_nre (by rw [State.report_eq]) v

/-- A clip dropped at the quiet limit with none behind it leaves the voice IDLE (R131, R136). -/
theorem State.passQuietLimit_drops (hc : (s.voice v).current = some c)
    (hm : (s.clipOf c.clip).mustPlay = false) (hq : (s.voice v).queue = []) :
    s.passQuietLimit v =
      (((s.report .queueDrop c.clip.val .quietLimit).setVoice v
        { s.voice v with state := .idle, current := none, retry := none, claim := none }).post
        [.drained v, .voiceIdle v s.sce.nextAwait]).syncTalking := by
  have hsce : (s.report .queueDrop c.clip.val .quietLimit).sce = s.sce := by rw [State.report_eq]
  simp only [State.passQuietLimit, hc, hm, Bool.false_eq_true, if_false]
  rw [State.onVoice, State.voice_report,
    State.startHead_setVoice_nil (x := { s.voice v with current := none }) hq, hsce]
  rfl

end

/-- Settles O45: each timer of the gate that runs out has the voice judge the air, play, or drop its clip. -/
theorem earshotGateTimers : Obligations.EarshotGateTimers := by
  unfold Obligations.EarshotGateTimers
  intro s v c hc
  have hc' : (s.tick.voice v).current = some c := (s.voice_tick v).symm ▸ hc
  refine ⟨fun hr hs hh hb => ⟨fun hq => ?_, fun hq => ?_⟩, fun hr hs hh hb hq => ?_, fun hs hg => ?_,
    fun hs hq => ⟨fun hm => ?_, fun hm hempty => ?_⟩⟩
  · exact gives_retryWaitEnd hr (State.judgeAir_setVoice_claims hs rfl hc hh hq hb)
      (by rw [State.onBus_agenda, State.setVoice_agenda, State.tick_agenda])
  · exact gives_retryWaitEnd hr (State.judgeAir_setVoice_stays (.inr hq)) (State.setVoice_agenda _ _ _)
  · exact gives_retryWaitEnd hr (State.judgeAir_setVoice_refused hs rfl hc hh hq hb) (State.setVoice_agenda _ _ _)
  · rw [exec_claimGranted, act_may (State.grantDue_iff.2 ⟨hs, hg⟩), State.grant_eq hc', State.voice_tick]
  · rw [exec_quietLimit, act_may (State.quietDue_of_waiting hs hc hq),
      State.passQuietLimit_mustPlay hc' hm, State.voice_tick]
  · rw [exec_quietLimit, act_may (State.quietDue_of_waiting hs hc hq),
      State.passQuietLimit_drops hc' hm (by rw [State.voice_tick, hempty]), State.voice_tick]
    rfl

end Sys2Proof.Machine
end

section
/-! PROOFS. The end of a clip and of a tail, and the start of the next head (R131, R133, R140, R141). -/

namespace Sys2Proof.Machine

section
variable {s : State} {v : Voice} {c : Held}

/-! ### What follows the current clip (R131, R140, R141) -/

theorem exec_clipEnd (s : State) : exec (.clipEnd v) s = act (·.clipEndDue v) (·.endClip v) s := rfl
theorem exec_tailEnd (s : State) : exec (.tailEnd v) s = act (·.tailEndDue v) (·.endTail v) s := rfl

theorem State.clipEndDue_of_played (hs : (s.voice v).state = .playing) (hc : (s.voice v).current = some c)
    (hp : c.toPlay = 0) : s.clipEndDue v = true := by
  simp [State.clipEndDue, leftToPlay, hs, hc, hp]

theorem State.tailEndDue_iff :
    s.tailEndDue v = true ↔ (s.voice v).state = .tailing ∧ 64 ≤ (s.voice v).tailCount := by
  simp [State.tailEndDue]

/-- A clip chained behind the one that ends takes over at full ramp (R140). -/
theorem State.endClip_chained {n : Held} (h : (s.voice v).next = some n) :
    s.endClip v =
      (((s.setVoice v
        { s.voice v with
          current := some n, next := none, boundary := none, goal := 256, ramp := 256
          burstNext := false }).refill v).post [.drained v]).syncTalking := by
  simp only [State.endClip, h]

theorem State.endClip_unchained (h : (s.voice v).next = none) :
    s.endClip v =
      (((s.setVoice v { s.voice v with current := none }).startHead v).post [.drained v]).syncTalking := by
  simp only [State.endClip, h]

/-- A voice with nothing left to play reports the drained clip, then itself idle (R131). -/
theorem State.endClip_last (hn : (s.voice v).next = none) (hq : (s.voice v).queue = []) :
    s.endClip v =
      ((s.setVoice v { s.voice v with state := .idle, current := none, retry := none, claim := none }).post
        [.drained v, .voiceIdle v s.sce.nextAwait]).syncTalking := by
  rw [State.endClip_unchained hn, State.startHead_setVoice_nil (x := { s.voice v with current := none }) hq]
  rfl

theorem State.endTail_pause (h : (s.voice v).tailPause = true) :
    s.endTail v = s.setVoice v { s.voice v with state := .paused } := by
  simp only [State.endTail, h, if_true]

/-- A stop tail with nothing behind it leaves the voice empty and IDLE (R131, R141). -/
theorem State.endTail_last (hp : (s.voice v).tailPause = false) (hc : (s.voice v).current = some c)
    (hn : (s.voice v).next = none) (hq : (s.voice v).queue = []) :
    s.endTail v =
      ((s.setVoice v { (s.voice v).empty with state := .idle, retry := none, claim := none }).post
        [.drained v, .voiceIdle v s.sce.nextAwait]).syncTalking := by
  simp only [State.endTail, hp, Bool.false_eq_true, if_false, hc, hn]
  rw [State.startHead_setVoice_nil (x := (s.voice v).empty) hq]
  rfl

/-! ### The head of the queue starts (R131, R133) -/

/-- A voice that still lacks samples does not leave PRIMING (R140). -/
theorem State.primeTest_of_lacking (hf : (s.voice v).fill < 512) (ht : leftToFetch (s.voice v).current ≠ 0) :
    s.primeTest v = s := by
  simp [State.primeTest, Nat.not_le.2 hf, ht]

theorem State.voice_enterPriming_lacking (air : AirMark) (hc : (s.voice v).current = some c)
    (hf : (s.voice v).fill < 512) (ht : 1 ≤ c.toFetch) : ∃ burst ofNext,
    (s.enterPriming v air).voice v =
      { s.voice v with
        state := .priming, ramp := 0, goal := air.goal, claim := none, retry := none
        current := some { c with air := air }, burst := burst, burstNext := ofNext } := by
  rw [State.enterPriming_eq air hc]
  obtain ⟨burst, ofNext, hr⟩ := State.voice_refill_self
    (s.setVoice v
      { s.voice v with
        state := .priming, ramp := 0, goal := air.goal, claim := none, retry := none
        current := some { c with air := air } }) v
  rw [State.voice_setVoice_self] at hr
  refine ⟨burst, ofNext, ?_⟩
  rw [State.primeTest_of_lacking (by rw [hr]; exact hf) (by rw [hr]; exact Nat.one_le_iff_ne_zero.1 ht), hr]

variable {h : Queued} {rest : List Queued}

theorem State.startHead_apart (hq : (s.voice v).queue = h :: rest) (he : (s.clipOf h.clip).earshot = false) :
    s.startHead v =
      (s.setVoice v { s.voice v with current := some (s.newHeld h .none), queue := rest }).enterPriming v
        .none := by
  simp [State.startHead, hq, he]

theorem State.startHead_shares (hq : (s.voice v).queue = h :: rest) (he : (s.clipOf h.clip).earshot = true)
    (ho : (s.voice (otherVoice v)).talks = true) :
    s.startHead v =
      (s.setVoice v { s.voice v with current := some (s.newHeld h .none), queue := rest }).enterPriming v
        .granted := by
  simp [State.startHead, hq, he, ho]

theorem State.startHead_waits (hq : (s.voice v).queue = h :: rest) (he : (s.clipOf h.clip).earshot = true)
    (ho : (s.voice (otherVoice v)).talks = false) :
    s.startHead v =
      (s.setVoice v
        { s.voice v with
          current := some (s.newHeld h .none), queue := rest, state := .waitQuiet, quiet := 0, retry := none
          claim := none }).judgeAir v := by
  simp [State.startHead, hq, he, ho]

/-- A head that needs no air of its own goes into PRIMING with its air mark, and lacks its samples there. -/
theorem State.voice_startHead_primes {air : AirMark} (hq : (s.voice v).queue = h :: rest)
    (ha : ((s.clipOf h.clip).earshot = false ∧ air = .none) ∨
      ((s.clipOf h.clip).earshot = true ∧ (s.voice (otherVoice v)).talks = true ∧ air = .granted))
    (hl : 1 ≤ (s.clipOf h.clip).length) (hf : (s.voice v).fill < 512) : ∃ burst ofNext,
    (s.startHead v).voice v =
      { s.voice v with
        state := .priming, queue := rest, ramp := 0, goal := 256, claim := none, retry := none
        burst := burst, burstNext := ofNext, current := some (s.newHeld h air) } := by
  have hstart : s.startHead v =
      (s.setVoice v { s.voice v with current := some (s.newHeld h .none), queue := rest }).enterPriming v
        air := by
    obtain ⟨he, rfl⟩ | ⟨he, ho, rfl⟩ := ha
    · exact State.startHead_apart hq he
    · exact State.startHead_shares hq he ho
  have hgoal : air.goal = 256 := by
    obtain ⟨-, rfl⟩ | ⟨-, -, rfl⟩ := ha <;> rfl
  obtain ⟨burst, ofNext, hp⟩ := State.voice_enterPriming_lacking (c := s.newHeld h .none)
    (s := s.setVoice v { s.voice v with current := some (s.newHeld h .none), queue := rest }) air
    (by rw [State.voice_setVoice_self]) (by rw [State.voice_setVoice_self]; exact hf) hl
  rw [State.voice_setVoice_self, hgoal] at hp
  exact ⟨burst, ofNext, hstart ▸ hp⟩

end

/-- Settles O44: what comes after the current clip is its chained clip, else the head of the queue, which the
earshot gate lets in or has wait, else IDLE. -/
theorem clipAndTailEnd : Obligations.ClipAndTailEnd := by
  unfold Obligations.ClipAndTailEnd
  refine ⟨fun s v c hc hq hn => ⟨fun hs hp => ?_, fun hs hp => ⟨fun hpause => ?_, fun hstop => ?_⟩⟩,
    fun s v c hc hs hp => ⟨fun n hn => ?_, fun hn => ?_⟩,
    fun s v h rest e hq he air => ⟨fun ha hl hf => ?_, fun hear ho x hx => ?_⟩⟩
  · rw [exec_clipEnd, act_may (State.clipEndDue_of_played hs hc hp),
      State.endClip_last (by rwa [State.voice_tick]) (by rwa [State.voice_tick]), State.voice_tick]
    rfl
  · exact gives_of_act (exec_tailEnd s) (State.tailEndDue_iff.2 ⟨hs, hp⟩)
      ((State.endTail_pause (by rwa [State.voice_tick])).trans (by rw [State.voice_tick]))
      (State.setVoice_agenda _ _ _)
  · rw [exec_tailEnd, act_may (State.tailEndDue_iff.2 ⟨hs, hp⟩),
      State.endTail_last (by rwa [State.voice_tick]) (by rwa [State.voice_tick]) (by rwa [State.voice_tick])
        (by rwa [State.voice_tick]), State.voice_tick]
    rfl
  · rw [exec_clipEnd, act_may (State.clipEndDue_of_played hs hc hp),
      State.endClip_chained (by rwa [State.voice_tick]), State.voice_tick]
  · rw [exec_clipEnd, act_may (State.clipEndDue_of_played hs hc hp),
      State.endClip_unchained (by rwa [State.voice_tick]), State.voice_tick]
  · subst he
    exact State.voice_startHead_primes hq ha hl hf
  · subst he
    have hstart : s.startHead v = (s.setVoice v x).judgeAir v := by
      rw [State.startHead_waits hq hear ho, hx]
      rfl
    have hcurrent : x.current = some (s.newHeld h .none) := by rw [hx]; rfl
    have hstate : x.state = .waitQuiet := by rw [hx]
    have hretry : x.retry = none := by rw [hx]
    have hclaim : x.claim = none := by rw [hx]
    rw [hstart]
    refine ⟨State.judgeAir_setVoice_stays, fun hh hair hroom => ?_,
      State.judgeAir_setVoice_refused hstate hretry hcurrent⟩
    rw [State.judgeAir_setVoice_claims hstate hretry hcurrent hh hair hroom, ← hclaim]
    rfl

end Sys2Proof.Machine
end

section
/-! PROOFS. Voice bursts (R137 to R141, R175): what is written to a ring reads back, and what a burst that
completes leaves of its voice. -/

namespace Sys2Proof.Machine

/-! ### A ring reads back what was written (R137, R140; log entry 32) -/

/-- A place that no write comes to reads as before. -/
theorem ringGet_ringWrite_ne {q : Nat} : ∀ {xs : List Sample} {ring : List (Nat × Sample)} {place : Nat},
    ringWf ring = true → (∀ i, i < xs.length → (place + i) % ringSize ≠ q) →
      ringGet (ringWrite ring place xs) q = ringGet ring q
  | [], _, _, _, _ => rfl
  | x :: xs, ring, place, hw, hq => by
    have hplace : q ≠ place % ringSize := (hq 0 (Nat.zero_lt_succ _)).symm
    have hrest : ∀ i, i < xs.length → (place + 1 + i) % ringSize ≠ q := fun i hi => by
      rw [Nat.add_assoc, Nat.add_comm 1 i]
      exact hq (i + 1) (Nat.succ_lt_succ hi)
    rw [ringWrite, ringGet_ringWrite_ne (ringSet_wf x (Nat.mod_lt _ (by decide)) hw) hrest,
      ringGet_ringSet _ _ _ hw, if_neg hplace]

/-- Each of at most 2048 samples reads back at its place: none of those behind it comes round to that place. -/
theorem ringGet_ringWrite : ∀ {xs : List Sample} {ring : List (Nat × Sample)} {place i : Nat} {x : Sample},
    ringWf ring = true → xs.length ≤ ringSize → xs[i]? = some x →
      ringGet (ringWrite ring place xs) ((place + i) % ringSize) = x
  | [], _, _, _, _, _, _, hx => nomatch hx
  | y :: xs, ring, place, 0, x, hw, hl, hx => by
    have hy : y = x := Option.some.inj hx
    have hbehind : ∀ i, i < xs.length → (place + 1 + i) % ringSize ≠ place % ringSize := fun i hi => by
      simp only [ringSize, List.length_cons] at hl ⊢
      omega
    rw [Nat.add_zero, ringWrite, ringGet_ringWrite_ne (ringSet_wf y (Nat.mod_lt _ (by decide)) hw) hbehind,
      ringGet_ringSet _ _ _ hw, if_pos rfl, hy]
  | y :: xs, ring, place, i + 1, x, hw, hl, hx => by
    have hrest := ringGet_ringWrite (xs := xs) (place := place + 1) (i := i)
      (ringSet_wf y (Nat.mod_lt place (by decide)) hw) (Nat.le_of_succ_le hl) hx
    rwa [Nat.add_assoc, Nat.add_comm 1 i] at hrest

/-! ### What follows a burst leaves the rings alone -/

/-- The rings of the voices stand as they did; a port that works goes on to work, and then nothing is signalled. -/
structure RingsStay (s t : State) : Prop where
  ring : ∀ w, (t.voice w).ring = (s.voice w).ring
  write : ∀ w, (t.voice w).write = (s.voice w).write
  fill : ∀ w, (t.voice w).fill = (s.voice w).fill
  read : ∀ w, (t.voice w).read = (s.voice w).read
  port : s.smp.state ≠ .failed → t.smp.state ≠ .failed
  signals : s.smp.state ≠ .failed → t.agenda = s.agenda

section
variable {s s₀ t : State} {v : Voice}

theorem RingsStay.refl (s : State) : RingsStay s s :=
  ⟨fun _ => rfl, fun _ => rfl, fun _ => rfl, fun _ => rfl, id, fun _ => rfl⟩

theorem RingsStay.trans (h : RingsStay s₀ s) (g : RingsStay s t) : RingsStay s₀ t :=
  ⟨fun w => (g.ring w).trans (h.ring w), fun w => (g.write w).trans (h.write w),
    fun w => (g.fill w).trans (h.fill w), fun w => (g.read w).trans (h.read w), fun hp => g.port (h.port hp),
    fun hp => (g.signals (h.port hp)).trans (h.signals hp)⟩

theorem State.setVoice_ringsStay (v : Voice) {x : VoiceRec} (hr : x.ring = (s.voice v).ring)
    (hw : x.write = (s.voice v).write) (hf : x.fill = (s.voice v).fill) (hp : x.read = (s.voice v).read)
    (h : RingsStay s₀ s) : RingsStay s₀ (s.setVoice v x) := by
  have hread : ∀ {β : Type} (f : VoiceRec → β), f x = f (s.voice v) →
      ∀ w, f ((s.setVoice v x).voice w) = f (s.voice w) := fun f hf w => by
    by_cases hw : w = v
    · rw [hw, State.voice_setVoice_self, hf]
    · rw [State.voice_setVoice_ne _ _ hw]
  exact h.trans ⟨hread _ hr, hread _ hw, hread _ hf, hread _ hp, fun hp => by rwa [State.setVoice_smp],
    fun _ => State.setVoice_agenda _ _ _⟩

/-- The arbiter puts a port that works to no failure (R166, R167). -/
theorem State.arbitrate_works (h : s.smp.state ≠ .failed) : s.arbitrate.smp.state ≠ .failed := by
  unfold State.arbitrate
  split
  · split
    · exact h
    · exact PortState.noConfusion
  · exact h

theorem State.askPort_ringsStay (who : Requester) (address count : Nat) (h : RingsStay s₀ s) :
    RingsStay s₀ (s.askPort who address count) := by
  have hv := State.voice_of_nre (State.askPort_nre s who address count)
  have hasked : s.smp.state ≠ .failed →
      (s.askPort who address count).smp.state ≠ .failed ∧ (s.askPort who address count).agenda = s.agenda := by
    intro hp
    unfold State.askPort
    dsimp only
    split
    · exact absurd ‹_› hp
    · exact ⟨State.arbitrate_works hp, by rw [State.arbitrate_eq]; rfl⟩
  exact h.trans ⟨fun w => by rw [hv], fun w => by rw [hv], fun w => by rw [hv], fun w => by rw [hv],
    fun hp => (hasked hp).1, fun hp => (hasked hp).2⟩

theorem State.refill_ringsStay (v : Voice) (h : RingsStay s₀ s) : RingsStay s₀ (s.refill v) := by
  obtain hr | ⟨_, _, _, hr⟩ := s.refill_cases v
  · rwa [hr]
  · rw [hr]
    exact State.askPort_ringsStay _ _ _ (State.setVoice_ringsStay v rfl rfl rfl rfl h)

theorem State.primeTest_ringsStay (v : Voice) (h : RingsStay s₀ s) : RingsStay s₀ (s.primeTest v) := by
  unfold State.primeTest
  dsimp only
  split
  · exact State.setVoice_ringsStay v rfl rfl rfl rfl h
  · exact h

theorem State.chain_ringsStay (v : Voice) (h : RingsStay s₀ s) : RingsStay s₀ (s.chain v) := by
  unfold State.chain
  dsimp only
  split
  · split
    · exact State.refill_ringsStay v (State.setVoice_ringsStay v rfl rfl rfl rfl h)
    · exact h
  · exact h

theorem State.shareAir_ringsStay (v : Voice) (h : RingsStay s₀ s) : RingsStay s₀ (s.shareAir v) := by
  have hprime : RingsStay s₀ (s.enterPriming v .granted) :=
    State.primeTest_ringsStay v (State.refill_ringsStay v (State.setVoice_ringsStay v rfl rfl rfl rfl h))
  unfold State.shareAir
  split
  · exact hprime
  · exact hprime
  · exact h

theorem State.syncTalking_ringsStay (h : RingsStay s₀ s) : RingsStay s₀ s.syncTalking := by
  have hflag : RingsStay s₀
      (s.onNre fun n => { n with talking := s.nre.a.talks || s.nre.b.talks }).earlyRequest := by
    refine h.trans ⟨?_, ?_, ?_, ?_, id, fun _ => rfl⟩ <;> intro w <;> cases w <;> rfl
  unfold State.syncTalking
  dsimp only
  split
  · exact h
  · split
    · exact State.shareAir_ringsStay .b (State.shareAir_ringsStay .a hflag)
    · exact hflag

/-! ### The current clip of a voice that has the air or needs none -/

/-- The current clip stands as it did, and a voice that did not wait for the air does not come to wait for it. -/
structure ClipGoesOn (x y : VoiceRec) : Prop where
  current : y.current = x.current
  notQuiet : x.state ≠ .waitQuiet → y.state ≠ .waitQuiet
  notClaiming : x.state ≠ .claiming → y.state ≠ .claiming

theorem ClipGoesOn.refl (x : VoiceRec) : ClipGoesOn x x := ⟨rfl, id, id⟩

theorem ClipGoesOn.trans {x y z : VoiceRec} (h : ClipGoesOn x y) (g : ClipGoesOn y z) : ClipGoesOn x z :=
  ⟨g.current.trans h.current, g.notQuiet ∘ h.notQuiet, g.notClaiming ∘ h.notClaiming⟩

theorem State.voice_refill_goesOn (s : State) (v : Voice) : ClipGoesOn (s.voice v) ((s.refill v).voice v) := by
  obtain ⟨burst, ofNext, h⟩ := s.voice_refill_self v
  rw [h]
  exact ⟨rfl, id, id⟩

theorem State.voice_primeTest_goesOn (s : State) (v : Voice) : ClipGoesOn (s.voice v) ((s.primeTest v).voice v) := by
  unfold State.primeTest
  dsimp only
  split
  · rw [State.voice_setVoice_self]
    exact ⟨rfl, fun _ => VoiceState.noConfusion, fun _ => VoiceState.noConfusion⟩
  · exact .refl _

theorem State.voice_chain_goesOn (s : State) (v : Voice) : ClipGoesOn (s.voice v) ((s.chain v).voice v) := by
  unfold State.chain
  dsimp only
  split
  · split
    · refine ClipGoesOn.trans ?_ (State.voice_refill_goesOn _ v)
      rw [State.voice_setVoice_self]
      exact ⟨rfl, id, id⟩
    · exact .refl _
  · exact .refl _

/-! ### A burst completes (R137, R138, R140) -/

theorem exec_burstComplete (smin : List Byte) (s : State) :
    exec (.burstComplete smin) s =
      act (·.mayComplete Requester.isVoice smin) (·.completeTransfer smin) s := rfl

/-- A burst that completes hands its voice the requested bytes that follow the mark, the port READY. -/
theorem exec_burstComplete_of_busy {address count at_ : Nat} {retried : Bool} {skipped data : List Byte}
    (h : s.smp.state = .busy { who := .voice v, address := address, count := count, instant := at_ } retried)
    (hm : dataStart ∉ skipped) (hn : count ≤ data.length) :
    exec (.burstComplete (skipped ++ dataStart :: data)) s =
      .next (State.finish (s.tick.portReady.burstDone v (data.take count))) := by
  have htick : s.tick.inTransfer =
      some { who := .voice v, address := address, count := count, instant := at_ } :=
    State.inTransfer_of_busy h
  rw [exec_burstComplete, act_may (State.mayComplete_of_busy h rfl hm hn)]
  simp only [State.completeTransfer, htick, afterMark_append data hm]

theorem State.voice_atEnd (s : State) (v : Voice) : s.atEnd.voice v = s.voice v := by cases v <;> rfl

variable {data : List Byte}

/-- A DISCARD burst of a voice that no longer plays is dropped (R139). -/
theorem State.burstDone_discard (h : (s.voice v).burst = .discard) (hi : (s.voice v).state = .idle) :
    s.burstDone v data = s.setVoice v { s.voice v with burst := .none, burstNext := false } := by
  simp only [State.burstDone, h]
  refine State.refill_idle ?_
  rw [State.voice_setVoice_self]
  exact hi

/-- The state in which an OUTSTANDING burst's samples stand in the ring and a clip has been chained behind the
current one, where the burst was taken from that (R137, R138). -/
def State.burstTaken (s : State) (v : Voice) (data : List Byte) : State :=
  let t := s.setVoice v ((s.voice v).takeBurst (samplesOf data))
  if (s.voice v).burstNext then t else t.chain v

theorem State.burstDone_outstanding (h : (s.voice v).burst = .outstanding) :
    s.burstDone v data = (((s.burstTaken v data).primeTest v).refill v).syncTalking := by
  simp only [State.burstDone, h]
  rfl

theorem State.burstTaken_ringsStay :
    RingsStay (s.setVoice v ((s.voice v).takeBurst (samplesOf data))) (s.burstTaken v data) := by
  unfold State.burstTaken
  dsimp only
  split
  · exact .refl _
  · exact State.chain_ringsStay v (.refl _)

theorem State.voice_burstTaken_goesOn (s : State) (v : Voice) (data : List Byte) :
    ClipGoesOn ((s.voice v).takeBurst (samplesOf data)) ((s.burstTaken v data).voice v) := by
  have htaken := s.voice_setVoice_self v ((s.voice v).takeBurst (samplesOf data))
  unfold State.burstTaken
  dsimp only
  split
  · rw [htaken]
    exact .refl _
  · have hchained := State.voice_chain_goesOn (s.setVoice v ((s.voice v).takeBurst (samplesOf data))) v
    rwa [htaken] at hchained

/-- A voice with a next clip, or whose burst was for it, is chained no other. -/
theorem State.voice_burstTaken_next (h : (s.voice v).burstNext = true ∨ (s.voice v).next ≠ none) :
    ((s.burstTaken v data).voice v).next = ((s.voice v).takeBurst (samplesOf data)).next := by
  have htaken := s.voice_setVoice_self v ((s.voice v).takeBurst (samplesOf data))
  by_cases hb : (s.voice v).burstNext = true
  · simp only [State.burstTaken, hb, if_true, htaken]
  · have hnext : ((s.voice v).takeBurst (samplesOf data)).next ≠ none := by
      simp only [VoiceRec.takeBurst, hb, Bool.false_eq_true, if_false]
      exact h.resolve_left hb
    simp only [State.burstTaken, hb, Bool.false_eq_true, if_false]
    rw [State.chain_of_not (.inr (.inr (by rw [htaken]; exact hnext))), htaken]

theorem State.burstDone_ringsStay (h : (s.voice v).burst = .outstanding) :
    RingsStay (s.setVoice v ((s.voice v).takeBurst (samplesOf data))) (s.burstDone v data) := by
  rw [State.burstDone_outstanding h]
  exact State.syncTalking_ringsStay (State.refill_ringsStay v (State.primeTest_ringsStay v
    State.burstTaken_ringsStay))

theorem State.voice_burstDone_current (h : (s.voice v).burst = .outstanding)
    (hq : (s.voice v).state ≠ .waitQuiet) (hc : (s.voice v).state ≠ .claiming) :
    ((s.burstDone v data).voice v).current = ((s.voice v).takeBurst (samplesOf data)).current := by
  have hgoes := (s.voice_burstTaken_goesOn v data).trans ((State.voice_primeTest_goesOn _ v).trans
    (State.voice_refill_goesOn _ v))
  rw [State.burstDone_outstanding h, State.voice_syncTalking _ (hgoes.notQuiet hq) (hgoes.notClaiming hc)]
  exact hgoes.current

theorem State.voice_burstDone_next (h : (s.voice v).burst = .outstanding)
    (hn : (s.voice v).burstNext = true ∨ (s.voice v).next ≠ none) :
    ((s.burstDone v data).voice v).next = ((s.voice v).takeBurst (samplesOf data)).next := by
  have hsame := State.syncTalking_sameClips (State.refill_sameClips v (State.primeTest_sameClips v
    (SameClips.refl (s.burstTaken v data))))
  rw [State.burstDone_outstanding h, hsame.next, State.voice_burstTaken_next hn]

/-- Where the port works, the instant of an OUTSTANDING burst ends with the ring and the contexts that the burst
leaves. -/
theorem State.finish_burstDone (h : (s.voice v).burst = .outstanding) (hp : s.smp.state ≠ .failed)
    (ha : s.agenda = []) :
    (s.burstDone v data).finish = (s.burstDone v data).atEnd := by
  have hstay := State.burstDone_ringsStay (data := data) h
  refine State.finish_atEnd ?_
  rw [hstay.signals (by rwa [State.setVoice_smp]), State.setVoice_agenda, ha]

end

/-- Settles O42: the bytes behind the mark reach the voice, whose ring and contexts nothing that follows at that
instant touches, and a ring reads back what is written to it. -/
theorem burstsEnterTheRing : Obligations.BurstsEnterTheRing := by
  unfold Obligations.BurstsEnterTheRing
  refine ⟨fun s v address count at_ timer retried waiting sent skipped data hsmp hm hn ready hready smin
    hsmin => ?_, fun ring place xs hw hl => ⟨ringWrite_wf xs place hw, fun i x => ringGet_ringWrite hw hl,
      fun q _ hq => ringGet_ringWrite_ne hw hq⟩⟩
  have hport : s.tick.portReady = ready := by
    rw [hready, State.portReady, State.onSmp, State.tick_smp, hsmp]
  have hvoice : ready.voice v = s.voice v := State.voice_of_nre (by rw [hready]; rfl) v
  have hworks : ready.smp.state ≠ .failed := by rw [hready]; exact PortState.noConfusion
  have hsilent : ready.agenda = [] := by rw [hready]; rfl
  have hexec : exec (.burstComplete smin) s = .next (State.finish (ready.burstDone v (data.take count))) := by
    rw [hsmin, ← hport]
    exact exec_burstComplete_of_busy (by rw [hsmp]) hm hn
  refine ⟨hexec, fun hb hi => ?_, fun hb x samples fetched hx hsamples hfetched => ?_,
    fun _ _ _ => rfl⟩
  · rw [← hvoice] at hb hi ⊢
    refine hexec.trans (congrArg _ ?_)
    rw [State.burstDone_discard hb hi]
    exact State.finish_atEnd (by rw [State.setVoice_agenda, hsilent])
  · have hcount : fetched = (·.fetched samples.length) := funext hfetched
    rw [← hvoice] at hb hx
    have hstay := State.burstDone_ringsStay (data := data.take count) hb
    rw [State.finish_burstDone hb hworks hsilent] at hexec
    refine ⟨_, hexec, ?_⟩
    simp only [State.voice_atEnd]
    rw [hstay.ring, hstay.write, hstay.fill, hstay.read, State.voice_setVoice_self, ← hsamples, ← hx, hcount]
    refine ⟨rfl, rfl, rfl, rfl, fun hq hc => ?_, fun hnext => ?_, fun hnext hsome => ?_⟩
    · rw [hx] at hq hc
      rw [State.voice_burstDone_current hb hq hc, ← hsamples, ← hx]
      rfl
    · rw [State.voice_burstDone_next hb (.inl (hx ▸ hnext)), ← hsamples, ← hx]
      simp only [VoiceRec.takeBurst, hnext, if_true]
    · rw [State.voice_burstDone_next hb (.inr (hx ▸ hsome)), ← hsamples, ← hx]
      simp only [VoiceRec.takeBurst, hnext, Bool.false_eq_true, if_false]

end Sys2Proof.Machine
end

section
/-! PROOFS. What MOVE and HOME do in each row of TABLE LX (R151, R158). -/

namespace Sys2Proof.Machine

section
variable {s : State} {a : Fin 4} {t t' : Int} {k k' : Fin 4}

/-! ### MOVE -/

/-- A MOVE to the place where its axis stands only has the axis report itself (R158). -/
theorem State.moveAxis_there (hs : (s.axis a).state = .idle) (ht : t * 256 = (s.axis a).p) :
    s.moveAxis a t k = s.post [.axisReport a (s.axis a).move.isNone s.sce.nextAwait] := by
  simp [State.moveAxis, State.reportAxis, Axis.idle, hs, ht]

theorem State.moveAxis_joins (hs : (s.axis a).state = .idle) (ht : t * 256 ≠ (s.axis a).p)
    (hg : (s.axis a).guardClear = true) : s.moveAxis a t k = s.joinLine a (.move t k) := by
  simp only [State.moveAxis, hs, ht, hg, if_true, if_false]

/-- A MOVE of an axis whose guard is not clear waits in HELD: there is nothing yet to resume on. -/
theorem State.moveAxis_held (hs : (s.axis a).state = .idle) (ht : t * 256 ≠ (s.axis a).p)
    (hg : (s.axis a).guardClear = false) :
    s.moveAxis a t k = s.putAxis a { s.axis a with state := .held, move := some (.move t k) } := by
  simp only [State.moveAxis, hs, ht, hg, Bool.false_eq_true, if_false]
  exact State.resume_of_not (.inr (.inr (by rw [State.axis_putAxis_self])))

/-- A MOVE takes the place of the MOVE under way, of one that waits or is held, and of one that a hold or the
guard stops. -/
theorem State.moveAxis_replaces
    (h : (s.axis a).state = .moving ∨
      (s.axis a).move = some (.move t' k') ∧
        ((s.axis a).state = .waitPower ∨ (s.axis a).state = .held ∨
          (s.axis a).state = .stopping ∧ (s.axis a).stopKind = some .holdGuard)) :
    s.moveAxis a t k = s.setAxis a { s.axis a with move := some (.move t k) } := by
  obtain hs | ⟨hm, hs | hs | ⟨hs, hk⟩⟩ := h
  · simp only [State.moveAxis, hs]
  · simp only [State.moveAxis, hs, hm]
  · simp only [State.moveAxis, hs, hm]
  · simp only [State.moveAxis, hs, hm, hk, if_true]

/-- A MOVE is skipped by an axis that is not homed, homes or is to home, or stops for an abort. -/
theorem State.moveAxis_skipped
    (h : (s.axis a).state = .unhomed ∨ (s.axis a).state = .homing ∨ (s.axis a).state = .fault ∨
      (s.axis a).move = some .home ∧ ((s.axis a).state = .waitPower ∨ (s.axis a).state = .held) ∨
      (s.axis a).state = .stopping ∧
        ((s.axis a).stopKind ≠ some .holdGuard ∨ (s.axis a).move = some .home)) :
    s.moveAxis a t k = s.notReady a := by
  obtain hs | hs | hs | ⟨hm, hs | hs⟩ | ⟨hs, hk | hm⟩ := h
  · simp only [State.moveAxis, hs]
  · simp only [State.moveAxis, hs]
  · simp only [State.moveAxis, hs]
  · simp only [State.moveAxis, hs, hm]
  · simp only [State.moveAxis, hs, hm]
  · rcases hm : (s.axis a).move with _ | _ | _ <;> simp only [State.moveAxis, hs, hm, hk, if_false]
  · simp only [State.moveAxis, hs, hm]

/-! ### HOME -/

theorem State.homeAxis_joins (h : (s.axis a).state = .unhomed ∨ (s.axis a).state = .fault) :
    s.homeAxis a = s.joinLine a .home := by
  rcases h with hs | hs <;> simp only [State.homeAxis, hs]

theorem State.homeAxis_idle (hs : (s.axis a).state = .idle) :
    s.homeAxis a = (s.setAxis a { s.axis a with homed := false }).joinLine a .home := by
  simp only [State.homeAxis, hs]

theorem State.homeAxis_skipped (h : (s.axis a).state = .moving ∨ (s.axis a).state = .stopping) :
    s.homeAxis a = s.notReady a := by
  rcases h with hs | hs <;> simp only [State.homeAxis, hs]

/-- A HOME is already done by an axis that homes, or is to. -/
theorem State.homeAxis_done
    (h : (s.axis a).state = .homing ∨
      (s.axis a).move = some .home ∧ ((s.axis a).state = .waitPower ∨ (s.axis a).state = .held)) :
    s.homeAxis a = s := by
  obtain hs | ⟨hm, hs | hs⟩ := h
  · simp only [State.homeAxis, hs]
  · simp only [State.homeAxis, hs, hm]
  · simp only [State.homeAxis, hs, hm]

theorem State.homeAxis_replaces (hm : (s.axis a).move = some (.move t k))
    (h : (s.axis a).state = .waitPower ∨ (s.axis a).state = .held) :
    s.homeAxis a = s.setAxis a { s.axis a with homed := false, move := some .home } := by
  rcases h with hs | hs <;> simp only [State.homeAxis, hs, hm]

/-- An axis that does not stand in the admission line joins it at the back. -/
theorem State.joinLine_appends (m : Move) (h : a ∉ s.lgv.line) :
    (s.joinLine a m).lgv.line = s.lgv.line ++ [a] := by
  rw [State.joinLine_line, List.filter_eq_self.2 fun b hb => decide_eq_true (ne_of_mem_of_not_mem hb h)]

theorem State.joinLine_waits (m : Move) (h : a ∉ s.lgv.line) :
    ((s.joinLine a m).axis a).state = .waitPower ∧ ((s.joinLine a m).axis a).move = some m ∧
      (s.joinLine a m).lgv.line = s.lgv.line ++ [a] := by
  rw [State.axis_joinLine_self]
  exact ⟨rfl, rfl, State.joinLine_appends m h⟩

end

/-- Settles O48, row by row of TABLE LX. -/
theorem moveAndHomeByState : Obligations.MoveAndHomeByState := by
  unfold Obligations.MoveAndHomeByState
  refine ⟨fun s a t k => ⟨State.moveAxis_there,
      fun hs => ⟨State.moveAxis_replaces (t' := t) (k' := k) (.inl hs), State.homeAxis_skipped (.inl hs)⟩,
      fun hs => State.moveAxis_skipped (by tauto), fun hs => State.homeAxis_done (.inl hs),
      fun hs => State.homeAxis_skipped (.inr hs), fun hs hl => ?_, fun hs ht hg hl => ?_⟩,
    fun s a t t' k k' x hx => ?_⟩
  · rw [State.homeAxis_joins hs]
    exact State.joinLine_waits .home hl
  · rw [State.moveAxis_joins hs ht hg]
    exact State.joinLine_waits _ hl
  · subst hx
    refine ⟨fun hs hl => ?_, fun hs ht hg => ?_, fun hs => ⟨fun hk hm => ?_, fun h => ?_⟩,
      fun hs => ⟨fun hm => ⟨?_, State.homeAxis_replaces hm hs⟩,
        fun hm => ⟨?_, State.homeAxis_done (.inr ⟨hm, hs⟩)⟩⟩⟩
    · rw [State.homeAxis_idle hs, State.axis_joinLine_self, State.axis_setAxis_self]
      exact ⟨rfl, State.joinLine_appends .home hl⟩
    · rw [State.moveAxis_held hs ht hg]
      exact ⟨State.axis_putAxis_self s a _, State.putAxis_lgv s a _⟩
    · exact State.moveAxis_replaces (.inr ⟨hm, .inr (.inr ⟨hs, hk⟩)⟩)
    · exact State.moveAxis_skipped (.inr (.inr (.inr (.inr ⟨hs, h⟩))))
    · exact State.moveAxis_replaces (.inr ⟨hm, hs.imp_right .inl⟩)
    · exact State.moveAxis_skipped (.inr (.inr (.inr (.inl ⟨hm, hs⟩))))

end Sys2Proof.Machine
end

section
/-! PROOFS. The motion period of an axis: the speed law within the soft limits (R147 to R150), homing and the
stop of a HOME (R153, R155, R157), and the switches (R153, R154). -/

namespace Sys2Proof.Machine

/-! ### Places along the travel -/

/-- The place `n` from `p` in a direction. -/
def moved (p : Int) (plus : Bool) (n : Nat) : Int := if plus then p + n else p - n

theorem Axis.stepBy_eq (x : Axis) (n : Nat) :
    x.stepBy n = { x with p := moved x.p x.plus n, pulses := pulsesOf x.p (moved x.p x.plus n) } := by
  have hplace : x.p + sign x.plus * n = moved x.p x.plus n := by
    cases x.plus
    · simp [sign, moved, sub_eq_add_neg]
    · simp [sign, moved]
  rw [Axis.stepBy, hplace]

/-- A step toward a goal, no longer than its distance, stays between the two (R149). -/
theorem moved_toward {p g : Int} {n : Nat} (h : n ≤ (g - p).natAbs) :
    min p g ≤ moved p (decide (p < g)) n ∧ moved p (decide (p < g)) n ≤ max p g := by
  simp only [moved, decide_eq_true_eq]
  split <;> omega

section
variable {c : AxisCfg} {p : Int}

theorem WithinLimits.between {g q : Int} (hp : WithinLimits c p) (hg : WithinLimits c g)
    (h : min p g ≤ q ∧ q ≤ max p g) : WithinLimits c q :=
  ⟨(le_min hp.1 hg.1).trans h.1, h.2.trans (max_le hp.2 hg.2)⟩

/-- A step no longer than the distance to the soft limit stays within the limits (R150). -/
theorem WithinLimits.room {plus : Bool} {n : Nat} (hp : WithinLimits c p) (h : n ≤ limitDistance c p plus) :
    WithinLimits c (moved p plus n) := by
  obtain ⟨hmin, hmax⟩ := hp
  unfold limitDistance at h
  unfold moved WithinLimits
  cases plus
  · rw [if_neg Bool.false_ne_true] at h ⊢
    omega
  · rw [if_pos rfl] at h ⊢
    omega

end

/-! ### The speed law (R149, R150) -/

section
variable {x : Axis} {c : AxisCfg} {t : Int} {pr : Profile}

theorem Axis.movingPeriod_arrived (h : x.p = t * 256) :
    x.movingPeriod c t pr = (x.atRest .idle none, .rest) := by
  simp [Axis.movingPeriod, h]

theorem Axis.movingPeriod_toward (hp : x.p ≠ t * 256)
    (h : decide (x.p < t * 256) = x.plus ∨ x.v = 0) :
    x.movingPeriod c t pr =
      (({ x with
          plus := decide (x.p < t * 256)
          v := nextSpeed pr x.v (t * 256 - x.p).natAbs }).stepBy
        (min (nextSpeed pr x.v (t * 256 - x.p).natAbs) (t * 256 - x.p).natAbs), .none) := by
  have hr : (t * 256 - x.p).natAbs ≠ 0 := by omega
  have htest : (decide (decide (x.p < t * 256) = x.plus) || decide (x.v = 0)) = true := by simpa using h
  simp only [Axis.movingPeriod, if_neg hr, if_pos htest]

theorem Axis.movingPeriod_away (hp : x.p ≠ t * 256) (hd : decide (x.p < t * 256) ≠ x.plus) (hv : x.v ≠ 0) :
    x.movingPeriod c t pr =
      (({ x with v := if limitDistance c x.p x.plus < x.v - pr.accel then 0 else x.v - pr.accel }).stepBy
        (min (x.v - pr.accel) (limitDistance c x.p x.plus)), .none) := by
  have hr : (t * 256 - x.p).natAbs ≠ 0 := by omega
  have htest : (decide (decide (x.p < t * 256) = x.plus) || decide (x.v = 0)) ≠ true := by simp [hd, hv]
  simp only [Axis.movingPeriod, if_neg hr, if_neg htest]

/-- A period that is not a reversal stays between the place and the target. -/
theorem Axis.movingPeriod_between (h : decide (x.p < t * 256) = x.plus ∨ x.v = 0) :
    min x.p (t * 256) ≤ (x.movingPeriod c t pr).1.p ∧ (x.movingPeriod c t pr).1.p ≤ max x.p (t * 256) := by
  by_cases hp : x.p = t * 256
  · rw [Axis.movingPeriod_arrived hp]
    exact ⟨min_le_left _ _, le_max_left _ _⟩
  · rw [Axis.movingPeriod_toward hp h, Axis.stepBy_eq]
    exact moved_toward (min_le_right _ _)

theorem Axis.movingPeriod_within (hp : WithinLimits c x.p) (ht : WithinLimits c (t * 256)) :
    WithinLimits c (x.movingPeriod c t pr).1.p := by
  by_cases h : decide (x.p < t * 256) = x.plus ∨ x.v = 0
  · exact hp.between ht (Axis.movingPeriod_between h)
  · obtain ⟨hd, hv⟩ := not_or.1 h
    by_cases hgoal : x.p = t * 256
    · rwa [Axis.movingPeriod_arrived hgoal]
    · rw [Axis.movingPeriod_away hgoal hd hv, Axis.stepBy_eq]
      exact hp.room (min_le_right _ _)

@[simp] theorem Axis.stopped_p (x : Axis) : x.stopped.p = x.p := by
  unfold Axis.stopped
  split <;> rfl

/-- The place to which a period of the stop of a MOVE brings its axis. -/
theorem Axis.stopMovePeriod_p (hp : x.p ≠ t * 256) :
    (x.stopMovePeriod c t pr).1.p =
      moved x.p x.plus (min (x.v - pr.accel)
        (if decide (x.p < t * 256) = x.plus then (t * 256 - x.p).natAbs else limitDistance c x.p x.plus)) := by
  have hr : (t * 256 - x.p).natAbs ≠ 0 := by omega
  simp only [Axis.stopMovePeriod, if_neg hr, Axis.stepBy_eq, apply_ite Prod.fst, apply_ite Axis.p,
    Axis.atRest, Axis.stopped_p, ite_self]

theorem Axis.stopMovePeriod_within (hp : WithinLimits c x.p) (ht : WithinLimits c (t * 256)) :
    WithinLimits c (x.stopMovePeriod c t pr).1.p := by
  by_cases hgoal : x.p = t * 256
  · simpa [Axis.stopMovePeriod, hgoal, Axis.atRest] using ht
  · rw [Axis.stopMovePeriod_p hgoal]
    split
    next hd =>
      rw [← hd]
      exact hp.between ht (moved_toward (min_le_right _ _))
    · exact hp.room (min_le_right _ _)

end

/-! ### The switches and the travel limit (R153, R154) -/

section
variable {x : Axis} {a : Fin 4} {c : AxisCfg} {pins : Pins}

/-- A homing or a stopping axis is judged by its direction field. -/
theorem Axis.travelPlus_eq (h : x.state = .homing ∨ x.state = .stopping) : x.travelPlus = x.plus := by
  rcases h with h | h <;> simp only [Axis.travelPlus, h]

theorem Axis.travelPlus_moving {t : Int} {k : Fin 4} (hs : x.state = .moving) (hm : x.move = some (.move t k)) :
    x.travelPlus = if x.v = 0 ∧ t * 256 ≠ x.p then decide (x.p < t * 256) else x.plus := by
  simp [Axis.travelPlus, hs, hm]

theorem Axis.period_limit (h : limitActive pins a x.travelPlus = true) :
    x.period a c pins =
      ({ x with state := .fault, v := 0, move := none, stopKind := none, pulses := 0 }, .limit) := if_pos h

/-- Homing and the stop of a HOME end where the home switch is found (R153). -/
theorem Axis.period_found (h : x.state = .homing ∨ x.state = .stopping ∧ x.move = some .home)
    (hl : limitActive pins a x.travelPlus = false) (hh : homeActive pins a = true) :
    x.period a c pins =
      ({ x with
          state := .idle, v := 0, move := none, stopKind := none, pulses := 0
          p := c.homeOffset * 256, homed := true }, .rest) := by
  refine (if_neg (ne_true_of_eq_false hl)).trans ?_
  obtain hs | ⟨hs, hm⟩ := h
  · simp only [hs, hh, if_true, Axis.found, Axis.atRest]
  · simp only [hs, hm, hh, if_true, Axis.found, Axis.atRest]

theorem Axis.period_homing (hs : x.state = .homing) (hl : limitActive pins a x.travelPlus = false)
    (hh : homeActive pins a = false) :
    x.period a c pins =
      ((({ x with pulses := 0 }).homingStep c
          (min (x.v + c.profiles[c.homeProfile].accel) c.profiles[c.homeProfile].vmax)).1,
        if (({ x with pulses := 0 }).homingStep c
          (min (x.v + c.profiles[c.homeProfile].accel) c.profiles[c.homeProfile].vmax)).2 then .notFound
        else .none) := by
  refine (if_neg (ne_true_of_eq_false hl)).trans ?_
  simp only [hs, hh, Bool.false_eq_true, if_false, profileOf]

theorem Axis.period_moving {t : Int} {k : Fin 4} (hs : x.state = .moving) (hm : x.move = some (.move t k))
    (hl : limitActive pins a x.travelPlus = false) :
    x.period a c pins = ({ x with pulses := 0 }).movingPeriod c t c.profiles[k] := by
  refine (if_neg (ne_true_of_eq_false hl)).trans ?_
  simp only [hs, hm, profileOf]

theorem Axis.period_stopping_home (hs : x.state = .stopping) (hm : x.move = some .home)
    (hl : limitActive pins a x.travelPlus = false) (hh : homeActive pins a = false) :
    x.period a c pins = ({ x with pulses := 0 }).stopHomePeriod c c.profiles[c.homeProfile] := by
  refine (if_neg (ne_true_of_eq_false hl)).trans ?_
  simp only [hs, hm, hh, Bool.false_eq_true, if_false, profileOf]

variable {v : Nat}

theorem Axis.homingStep_within (h : (moved x.p x.plus v).natAbs ≤ c.travelLimit * 256) :
    x.homingStep c v =
      ({ x with v := v, p := moved x.p x.plus v, pulses := pulsesOf x.p (moved x.p x.plus v) }, false) := by
  simp only [Axis.homingStep, Axis.stepBy_eq, if_neg h.not_gt]

theorem Axis.homingStep_past (h : c.travelLimit * 256 < (moved x.p x.plus v).natAbs) :
    x.homingStep c v =
      ({ x with
          state := .fault, v := 0, p := moved x.p x.plus v, move := none, stopKind := none, homed := false
          pulses := pulsesOf x.p (moved x.p x.plus v) }, true) := by
  simp only [Axis.homingStep, Axis.stepBy_eq, if_pos h, Axis.atRest]

/-! ### The stop of a HOME (R155, R157) -/

theorem Axis.stopped_abort (h : x.stopKind = some .abort) : x.stopped = x.atRest (restState x.move) none := by
  simp only [Axis.stopped, h]

theorem Axis.stopped_held (h : x.stopKind ≠ some .abort) : x.stopped = x.atRest .held x.move := by
  unfold Axis.stopped
  split
  · contradiction
  · rfl

variable {pr : Profile}

theorem Axis.stopHomePeriod_past (h : c.travelLimit * 256 < (moved x.p x.plus (x.v - pr.accel)).natAbs) :
    x.stopHomePeriod c pr =
      ({ x with
          state := .fault, v := 0, p := moved x.p x.plus (x.v - pr.accel), move := none, stopKind := none
          homed := false, pulses := pulsesOf x.p (moved x.p x.plus (x.v - pr.accel)) }, .notFound) := by
  simp only [Axis.stopHomePeriod, Axis.homingStep_past h, if_true]

variable (h : (moved x.p x.plus (x.v - pr.accel)).natAbs ≤ c.travelLimit * 256)
include h

theorem Axis.stopHomePeriod_slows (hv : 0 < x.v - pr.accel) :
    x.stopHomePeriod c pr =
      ({ x with
          v := x.v - pr.accel, p := moved x.p x.plus (x.v - pr.accel)
          pulses := pulsesOf x.p (moved x.p x.plus (x.v - pr.accel)) }, .none) := by
  simp only [Axis.stopHomePeriod, Axis.homingStep_within h, hv.ne', Bool.false_eq_true, if_false]

theorem Axis.stopHomePeriod_held (hv : x.v - pr.accel = 0) (hk : x.stopKind ≠ some .abort) :
    x.stopHomePeriod c pr =
      ({ x with
          state := .held, v := 0, p := moved x.p x.plus (x.v - pr.accel), stopKind := none
          pulses := pulsesOf x.p (moved x.p x.plus (x.v - pr.accel)) }, .rest) := by
  rw [hv] at h ⊢
  simp only [Axis.stopHomePeriod, hv, Axis.homingStep_within h, Bool.false_eq_true, if_false, if_true,
    Axis.stopped_held (x := { x with v := 0, p := _, pulses := _ }) hk, Axis.atRest]

theorem Axis.stopHomePeriod_aborted (hv : x.v - pr.accel = 0) (hk : x.stopKind = some .abort)
    (hm : x.move = some .home) :
    x.stopHomePeriod c pr =
      ({ x with
          state := .unhomed, v := 0, p := moved x.p x.plus (x.v - pr.accel), move := none, stopKind := none
          pulses := pulsesOf x.p (moved x.p x.plus (x.v - pr.accel)) }, .rest) := by
  rw [hv] at h ⊢
  simp only [Axis.stopHomePeriod, hv, Axis.homingStep_within h, Bool.false_eq_true, if_false, if_true,
    Axis.stopped_abort (x := { x with v := 0, p := moved _ _ _, pulses := pulsesOf _ _ }) hk, Axis.atRest]
  rw [hm]
  rfl

end

/-- Settles O47: the speed law by the places its steps lead to, and each period of homing, of a stop and at a
switch by its case. -/
theorem motionPeriods : Obligations.MotionPeriods := by
  unfold Obligations.MotionPeriods
  refine ⟨fun x c t pr hp ht => ⟨Axis.movingPeriod_within hp ht, Axis.stopMovePeriod_within hp ht,
    Axis.movingPeriod_arrived, fun hlt h => ?_, fun hlt h => ?_⟩, fun x a c pins => ⟨fun hs hl => ?_,
    fun t k hs hm hl => ?_, fun hs hl => ?_, fun hs hl hh v hv q hq n hn => ?_, fun hs hl => ?_,
    fun t k => Axis.period_moving, fun t pr r toPlus hr hr0 hto => ?_, fun hs hm hl => ?_⟩⟩
  · have hbetween := x.movingPeriod_between (c := c) (pr := pr) (t := t)
      (h.imp_left fun hplus => by rw [hplus, decide_eq_true hlt])
    omega
  · have hbetween := x.movingPeriod_between (c := c) (pr := pr) (t := t)
      (h.imp_left fun hplus => by rw [hplus, decide_eq_false hlt.not_gt])
    omega
  · exact Axis.period_limit (by rwa [Axis.travelPlus_eq (.inl hs)])
  · exact Axis.period_limit (by rwa [Axis.travelPlus_moving hs hm])
  · exact Axis.period_limit (by rwa [Axis.travelPlus_eq (.inr hs)])
  · obtain rfl : q = moved x.p x.plus v := hq
    subst hn
    rw [← Axis.travelPlus_eq (.inl hs)] at hl
    rw [Axis.period_homing hs hl hh, ← hv]
    refine ⟨fun hle => ?_, fun hlt => ?_⟩
    · rw [Axis.homingStep_within (x := { x with pulses := 0 }) hle]
      rfl
    · rw [Axis.homingStep_past (x := { x with pulses := 0 }) hlt]
      rfl
  · exact Axis.period_found (.inl hs) (by rwa [Axis.travelPlus_eq (.inl hs)])
  · have hp : x.p ≠ t * 256 := by omega
    subst hto hr
    refine ⟨fun hd v q hv hq => ?_, fun hd hv0 v room q hv hroom hq => ?_⟩
    · obtain rfl : v = nextSpeed pr x.v (t * 256 - x.p).natAbs := hv
      rw [Axis.movingPeriod_toward hp hd, Axis.stepBy_eq, hq]
      simp [moved, pulsesOf]
    · obtain rfl : room = limitDistance c x.p x.plus := by rw [hroom, limitDistance, apply_ite Int.toNat]
      rw [Axis.movingPeriod_away hp hd hv0.ne', Axis.stepBy_eq, hq, hv]
      simp [moved, pulsesOf]
  · rw [← Axis.travelPlus_eq (.inr hs)] at hl
    refine ⟨Axis.period_found (.inr ⟨hs, hm⟩) hl, fun hh v n q hv hq hn => ?_⟩
    obtain rfl : q = moved x.p x.plus v := hq
    subst hn hv
    rw [Axis.period_stopping_home hs hm hl hh]
    refine ⟨Axis.stopHomePeriod_past (x := { x with pulses := 0 }), fun hle => ⟨?_, ?_, ?_⟩⟩
    · exact Axis.stopHomePeriod_slows (x := { x with pulses := 0 }) hle
    · exact Axis.stopHomePeriod_held (x := { x with pulses := 0 }) hle
    · exact fun hv hk => Axis.stopHomePeriod_aborted (x := { x with pulses := 0 }) hle hv hk hm

end Sys2Proof.Machine
end

section
/-! PROOFS. Local hold by its sources, the release timer (R160, R161), and a report to the fault list by what
the list holds (R164). -/

namespace Sys2Proof.Machine

/-! ### Local hold (R160) -/

section
variable (s : State)

theorem State.syncLocalHold_localHold : s.syncLocalHold.hld.localHold = s.localSources :=
  (congrArg (·.hld.localHold) s.syncLocalHold_eq :)

variable {s}

theorem State.syncLocalHold_unchanged (h : s.localSources = s.hld.localHold) : s.syncLocalHold = s :=
  if_pos h

theorem State.syncLocalHold_changed (h : s.localSources ≠ s.hld.localHold) :
    s.syncLocalHold = (s.onHld fun x => { x with localHold := s.localSources }).earlyRequest :=
  if_neg h

end

/-! ### The release timer (R161) -/

/-- A low sample stops the timer. -/
theorem releaseNext_low (inEffect : Bool) (t : Option Nat) : releaseNext true inEffect t = none := rfl

/-- The first high sample in hold starts the timer. -/
theorem releaseNext_starts : releaseNext false true none = some 0 := rfl

theorem releaseNext_counts (n : Nat) : releaseNext false true (some n) = some (n + 1) := rfl

/-- Out of hold the timer rests. -/
theorem releaseNext_out_of_hold (t : Option Nat) : releaseNext false false t = none := rfl

/-- Settles O50: local hold by whether its sources differ from it, the release timer by the sample. -/
theorem localHoldAndReleaseTimer : Obligations.LocalHoldAndReleaseTimer := by
  unfold Obligations.LocalHoldAndReleaseTimer
  exact ⟨fun s => ⟨s.syncLocalHold_localHold, State.syncLocalHold_unchanged, State.syncLocalHold_changed⟩,
    releaseNext_low, releaseNext_starts, releaseNext_counts, releaseNext_out_of_hold⟩

/-! ### The fault list (R164) -/

section
variable {l : FaultList} {key : FaultKey} (now : ShowTime)

/-- The test of a report: some entry of the list has its key. -/
theorem FaultList.holds_iff :
    (l.entries.any fun e => e.key = key) = true ↔ ∃ e ∈ l.entries, e.key = key := by
  simp only [List.any_eq_true, decide_eq_true_eq]

theorem FaultList.report_held (h : ∃ e ∈ l.entries, e.key = key) :
    l.report key now =
      { l with entries := l.entries.map fun e => if e.key = key then e.again now else e } :=
  if_pos (FaultList.holds_iff.2 h)

theorem FaultList.report_new (h : ∀ e ∈ l.entries, e.key ≠ key) :
    l.report key now =
      if l.entries.length < 16 then
        { l with entries := l.entries ++ [{ key := key, first := now, last := now, count := 1 }] }
      else { l with overflow := true } :=
  if_neg fun hheld =>
    have ⟨e, he, hkey⟩ := FaultList.holds_iff.1 hheld
    h e he hkey

end

/-- Settles O52: the three outcomes of a report by what the list holds and its room; each keeps it sound. -/
theorem faultReports : Obligations.FaultReports := by
  unfold Obligations.FaultReports
  refine fun l key now => ⟨FaultList.report_held now, fun hnew hroom => ?_, fun hnew hfull => ?_,
    FaultList.report_sound key now⟩
  · rw [FaultList.report_new now hnew, if_pos hroom]
  · rw [FaultList.report_new now hnew, if_neg hfull.not_gt]

end Sys2Proof.Machine
end

section
/-! PROOFS. A step and its front command: what no command writes, and how every instant leaves the transmitter
and the show memory port. -/

namespace Sys2Proof.Machine

/-- Settles O1: both equations are the step's own. -/
theorem stepRunsFrontCommand : Obligations.StepRunsFrontCommand := by
  unfold Obligations.StepRunsFrontCommand
  exact ⟨fun _ _ _ => rfl, fun _ => rfl⟩

/-! ### The queue of commands and the station number -/

/-- The commands that wait and the station number are in `t` as in `s`. -/
structure SameQueueAndNumber (s t : State) : Prop where
  pending : t.pending = s.pending
  number : t.sul.number = s.sul.number

section
variable {s t u : State} {may : State → Bool} {effect : State → State}

theorem SameQueueAndNumber.refl (s : State) : SameQueueAndNumber s s := ⟨rfl, rfl⟩

theorem SameQueueAndNumber.trans (h : SameQueueAndNumber s t) (g : SameQueueAndNumber t u) :
    SameQueueAndNumber s u :=
  ⟨g.pending.trans h.pending, g.number.trans h.number⟩

theorem SameQueueAndNumber.of_holds (h : Holds s t) : SameQueueAndNumber s t := ⟨h.pending, h.number⟩

theorem SameQueueAndNumber.of_keeps (h : Keeps s t) : SameQueueAndNumber s t := .of_holds h.toHolds

theorem SameQueueAndNumber.of_act (h : act may effect s = .next t)
    (he : may s = true → SameQueueAndNumber s.tick (effect s.tick)) : SameQueueAndNumber s t := by
  cases hmay : may s with
  | false =>
    rw [act_may_not hmay] at h
    obtain rfl := Host.Outcome.next.inj h
    exact .refl s
  | true =>
    rw [act_may hmay] at h
    obtain rfl := Host.Outcome.next.inj h
    have htick : SameQueueAndNumber s s.tick := ⟨rfl, rfl⟩
    exact (htick.trans (he hmay)).trans (.of_keeps (State.finish_keeps (.refl _)))

theorem SameQueueAndNumber.of_act_keeps (h : act may effect s = .next t) (he : ∀ u, Keeps u (effect u)) :
    SameQueueAndNumber s t :=
  .of_act h fun _ => .of_keeps (he _)

/-! #### The commands that write the Show Clock or the Peer Table -/

theorem sameQueueAndNumber_beat (s : State) (pins : Pins) (leave : Bool) :
    SameQueueAndNumber s (s.beat pins leave) := by
  obtain ⟨u, hu, hb⟩ := s.beat_parts pins leave
  have hclock : SameQueueAndNumber u (u.beatClock pins) := ⟨rfl, rfl⟩
  exact ((SameQueueAndNumber.of_keeps hu).trans hclock).trans (.of_keeps hb)

theorem sameQueueAndNumber_samplePeriod (s : State) (leave : Bool) :
    SameQueueAndNumber s (s.samplePeriod leave) := by
  obtain ⟨u, hu, hb⟩ := s.samplePeriod_parts leave
  exact ((SameQueueAndNumber.of_keeps hu).trans (.of_holds u.sampleStart_holds)).trans (.of_keeps hb)

theorem sameQueueAndNumber_beaconFrame (sender : Byte) (stamp : BitVec 32) (g x : BitVec 16) (flags : Byte)
    (h : s.sul.station ≠ .reset) : SameQueueAndNumber s (s.beaconFrame sender stamp g x flags) :=
  .of_holds <| s.frame_holds sender _ fun st t hst _ hreset =>
    t.acceptBeacon_holds st stamp _ rfl hst fun ht => h (hreset ht)

end

/-! #### Every command -/

/-- The release writes the station number and nothing else that `SameQueueAndNumber` names (R170). -/
theorem State.releaseReset_pending (s : State) (straps : BitVec 5) :
    (s.releaseReset straps).pending = s.pending :=
  (State.askHeader_keeps (.refl ((s.onSul fun u =>
    { u with station := .loading, number := ⟨straps.toNat, straps.isLt⟩ }).onClk fun c =>
      { c with running := true }))).pending

theorem exec_resetRelease_pending {straps : BitVec 5} {s t : State}
    (h : exec (.resetRelease straps) s = .next t) : t.pending = s.pending := by
  rw [exec_resetRelease] at h
  unfold act at h
  obtain rfl := Host.Outcome.next.inj h
  split
  · exact (State.finish_keeps (.refl _)).pending.trans (s.tick.releaseReset_pending straps)
  · rfl

/-- Every command but the resets and the release: beats, sample periods, beacons and frame starts by their own
lemmas, the others because their effect keeps. -/
theorem exec_sameQueueAndNumber {c : Instr} {s t : State} (h : exec c s = .next t)
    (hpower : c ≠ .powerOnReset) (hpin : c ≠ .pinReset) (hrelease : ∀ straps, c ≠ .resetRelease straps) :
    SameQueueAndNumber s t := by
  unfold exec at h
  cases c with
  | powerOnReset => exact absurd rfl hpower
  | pinReset => exact absurd rfl hpin
  | resetRelease straps => exact absurd rfl (hrelease straps)
  | beat pins leave | slewBeat pins leave =>
    exact .of_act h fun _ => sameQueueAndNumber_beat _ pins leave
  | samplePeriod leave => exact .of_act h fun _ => sameQueueAndNumber_samplePeriod _ leave
  | receptionStart => exact .of_act h fun _ => .of_holds (State.receptionStarts_holds _)
  | beacon =>
    exact .of_act h fun hr => sameQueueAndNumber_beaconFrame _ _ _ _ _ (State.inReception_not_reset hr)
  | attemptBegin => exact .of_act h fun _ => .of_holds (State.attempt_holds _)
  | peerExpiry => exact .of_act_keeps h fun u => State.expirePeer_keeps _ (.refl u)
  | pendingCueDue => exact .of_act_keeps h fun u => State.takePendingCues_keeps (.refl u)
  | lineIdle => exact .of_act_keeps h fun u => State.lineFallsIdle_keeps (.refl u)
  | badFrame => exact .of_act_keeps h fun u => State.frameBad_keeps (.refl u)
  | rateDoubt => exact .of_act_keeps h fun u => State.doubt_keeps (.refl u)
  | cueLongForm =>
    exact .of_act_keeps h fun u => u.frame_keeps _ fun _ t => State.hearLong_keeps _ _ _ (.refl t)
  | cueShortForm =>
    exact .of_act_keeps h fun u => u.frame_keeps _ fun _ t => State.shortFrame_keeps _ _ _ _ (.refl t)
  | talk => exact .of_act_keeps h fun u => u.frame_keeps _ fun _ t => State.talkFrame_keeps _ _ (.refl t)
  | answer => exact .of_act_keeps h fun u => u.frame_keeps _ fun _ t => .refl t
  | start | stop | stopAll | setFlag | hold | query | clearFaults | restart =>
    exact .of_act_keeps h fun u => u.frame_keeps _ fun _ t => State.order_keeps _ _ _ _ (.refl t)
  | orderUnknownKind =>
    exact .of_act_keeps h fun u => u.frame_keeps _ fun _ t => State.orderUnknown_keeps _ _ _ (.refl t)
  | frameOfUnknownKind => exact .of_act_keeps h fun u => State.frameValid_keeps (.refl u)
  | jam => exact .of_act_keeps h fun u => State.jam_keeps (.refl u)
  | jamEnd => exact .of_act_keeps h fun u => State.endJam_keeps (.refl u)
  | busGiveUp => exact .of_act_keeps h fun u => State.giveUp_keeps (.refl u)
  | attemptSent => exact .of_act_keeps h fun u => State.sent_keeps (.refl u)
  | regularBoundary => exact .of_act_keeps h fun u => State.regularBoundary_keeps (.refl u)
  | earlySpacingEnd => exact .of_act_keeps h fun u => State.endSpacing_keeps (.refl u)
  | trialWindowEnd => exact .of_act_keeps h fun u => State.nextTrial_keeps (.refl u)
  | learningLimit => exact .of_act_keeps h fun u => State.fallBack_keeps (.refl u)
  | inputChange => exact .of_act_keeps h fun u => State.changeInput_keeps _ (.refl u)
  | inputStuck => exact .of_act_keeps h fun u => State.markStuck_keeps _ (.refl u)
  | lingerExpiry => exact .of_act_keeps h fun u => State.groupEnters_keeps _ _ _ (.refl u)
  | patienceExpiry => exact .of_act_keeps h fun u => State.expireRequest_keeps _ (.refl u)
  | sceneReadComplete | refillReadComplete | burstComplete | loadTransferComplete =>
    exact .of_act_keeps h fun u => State.completeTransfer_keeps _ (.refl u)
  | claimingComplete => exact .of_act_keeps h fun u => State.enterRunning_keeps _ (.refl u)
  | cueDue => exact .of_act_keeps h fun u => State.runCues_keeps _ (.refl u)
  | fade | cycle | clip | silence | move | home | flag | announce | direct | startCue | await =>
    exact .of_act_keeps h fun u => State.cueCommand_keeps _ _ (.refl u)
  | awaitTimeout => exact .of_act_keeps h fun u => State.timeoutAwait_keeps _ (.refl u)
  | endingResourcesIdle => exact .of_act_keeps h fun u => State.endRun_keeps _ (.refl u)
  | slotGoesFree => exact .of_act_keeps h fun u => State.goFree_keeps _ (.refl u)
  | blendEnd | overrideRampEnd => exact .of_act_keeps h fun u => State.onChannel_keeps _ _ (.refl u)
  | motionStarved => exact .of_act_keeps h fun u => State.starve_keeps _ (.refl u)
  | guardClear => exact .of_act_keeps h fun u => State.clearGuard_keeps _ (.refl u)
  | retryWaitEnd => exact .of_act_keeps h fun u => State.endRetry_keeps _ (.refl u)
  | claimGranted => exact .of_act_keeps h fun u => State.grant_keeps _ (.refl u)
  | quietLimit => exact .of_act_keeps h fun u => State.passQuietLimit_keeps _ (.refl u)
  | clipEnd => exact .of_act_keeps h fun u => State.endClip_keeps _ (.refl u)
  | tailEnd => exact .of_act_keeps h fun u => State.endTail_keeps _ (.refl u)
  | holdBegins => exact .of_act_keeps h fun u => State.beginHold_keeps (.refl u)
  | holdEnd => exact .of_act_keeps h fun u => State.endHold_keeps (.refl u)
  | holdLineStuck => exact .of_act_keeps h fun u => State.reportStuck_keeps (.refl u)
  | showMemoryTimeout => exact .of_act_keeps h fun u => State.timeOut_keeps (.refl u)
  | showMemoryFailed => exact .of_act_keeps h fun u => State.failPort_keeps (.refl u)
  | joiningIntervalEnd => exact .of_act_keeps h fun u => State.enterActive_keeps (.refl u)
  | restartBegin => exact .of_act_keeps h fun u => State.beginRestart_keeps (.refl u)
  | restartReload => exact .of_act_keeps h fun u => State.reload_keeps (.refl u)

/-- Settles O2: the resets and the release keep the queue, and every other command keeps the number too. -/
theorem commandsKeepQueueAndNumber : Obligations.CommandsKeepQueueAndNumber := by
  unfold Obligations.CommandsKeepQueueAndNumber
  intro c s t h
  refine ⟨?_, fun hpower hpin hrelease => (exec_sameQueueAndNumber h hpower hpin hrelease).number⟩
  by_cases hpower : c = .powerOnReset
  · subst hpower
    obtain rfl := Host.Outcome.next.inj h
    rfl
  by_cases hpin : c = .pinReset
  · subst hpin
    obtain rfl := Host.Outcome.next.inj h
    rfl
  by_cases hrelease : ∃ straps, c = .resetRelease straps
  · obtain ⟨straps, rfl⟩ := hrelease
    exact exec_resetRelease_pending h
  · exact (exec_sameQueueAndNumber h hpower hpin fun straps hc => hrelease ⟨straps, hc⟩).pending

/-! ### The end of an instant (TABLE XII, R166, R167) -/

/-- What the end of an instant brings about: a transmitter that is on the line or rests as TABLE XII gives, and a
port that is not READY with a request waiting. -/
structure State.Settled (s : State) : Prop where
  tx : s.bus.tx = .send ∨ s.bus.tx = .jam ∨ s.bus.tx = s.restingTx
  port : s.smp.state = .ready → s.smp.waiting = []

/-- Where a transmitter rests does not depend on where it is. -/
theorem State.restingTx_tx (s : State) (x : TxState) :
    ({ s with bus := { s.bus with tx := x } } : State).restingTx = s.restingTx := rfl

theorem Bus.onLine_iff (b : Bus) : b.onLine = true ↔ b.tx = .send ∨ b.tx = .jam := by
  simp [Bus.onLine]

theorem State.syncTx_rests (s : State) :
    s.syncTx.bus.tx = .send ∨ s.syncTx.bus.tx = .jam ∨ s.syncTx.bus.tx = s.syncTx.restingTx := by
  unfold State.syncTx
  split
  · rename_i hline
    exact ((Bus.onLine_iff s.bus).1 hline).imp_right .inl
  · exact .inr (.inr (s.restingTx_tx s.restingTx).symm)

theorem State.finish_settled (s : State) : s.finish.Settled := by
  refine ⟨State.syncTx_rests _, fun hready => ?_⟩
  unfold State.finish at hready ⊢
  rw [State.syncTx_eq] at hready ⊢
  exact State.arbitrate_ready _ hready

/-- A command whose effect is one instant. -/
theorem State.Settled.of_act {may : State → Bool} {effect : State → State} {s t : State} (hs : s.Settled)
    (h : act may effect s = .next t) : t.Settled := by
  unfold act at h
  obtain rfl := Host.Outcome.next.inj h
  split
  · exact State.finish_settled _
  · exact hs

/-- The resets leave the transmitter OFF and the port with no request; every other command is one instant. -/
theorem exec_settled {c : Instr} {s t : State} (hs : s.Settled) (h : exec c s = .next t) : t.Settled := by
  unfold exec at h
  cases c with
  | powerOnReset | pinReset =>
    obtain rfl := Host.Outcome.next.inj h
    exact ⟨.inr (.inr rfl), fun _ => rfl⟩
  | _ => exact hs.of_act h

/-- Settles O59: a step is its front command, and every command leaves the state settled. -/
theorem stepsKeepTransmitterAndPort : Obligations.StepsKeepTransmitterAndPort := by
  unfold Obligations.StepsKeepTransmitterAndPort
  intro s t h htx hport
  have ht : t.Settled := by
    unfold step at h
    split at h
    · obtain rfl := Host.Outcome.next.inj h
      exact ⟨htx, hport⟩
    · next c rest _ => exact exec_settled (s := { s with pending := rest }) ⟨htx, hport⟩ h
  exact ⟨ht.tx, ht.port⟩

end Sys2Proof.Machine
end

section
/-! PROOFS. The show memory port: the order of its arbiter, the read command, and its timeouts (R166 to R168). -/

namespace Sys2Proof.Machine

/-! ### The arbiter's order (R167) -/

/-- The keys stand in lexicographic order. -/
theorem keyLt_iff (x y : Nat × Nat × Nat) :
    keyLt x y = true ↔
      x.1 < y.1 ∨ x.1 = y.1 ∧ (x.2.1 < y.2.1 ∨ x.2.1 = y.2.1 ∧ x.2.2 < y.2.2) := by
  simp [keyLt]

theorem keyLt_irrefl (x : Nat × Nat × Nat) : ¬ keyLt x x := by
  rw [keyLt_iff]
  omega

theorem keyLt_asymm {x y : Nat × Nat × Nat} (h : keyLt x y) : ¬ keyLt y x := by
  rw [keyLt_iff] at h ⊢
  omega

/-- What does not precede `y` does not precede what `y` does not precede. -/
theorem not_keyLt_trans {x y z : Nat × Nat × Nat} (h : ¬ keyLt x y) (g : ¬ keyLt y z) : ¬ keyLt x z := by
  rw [keyLt_iff] at h g ⊢
  omega

section
variable {s : State} {t u : Transfer}

/-- No request precedes the one that the arbiter chooses. -/
theorem State.choice_least : ∀ {ts : List Transfer} {t : Transfer}, s.choice ts = some t →
    ∀ u ∈ ts, ¬ keyLt (s.portKey u) (s.portKey t)
  | [], _, h, _, _ => by simp [State.choice] at h
  | x :: rest, t, h, u, hu => by
    unfold State.choice at h
    split at h
    · next hnone =>
      have hrest : rest = [] := by
        by_contra hne
        simpa [hnone] using s.choice_isSome hne
      obtain rfl := Option.some.inj h
      rw [hrest, List.mem_singleton] at hu
      exact hu ▸ keyLt_irrefl _
    · next y hy =>
      have hleast := State.choice_least hy
      split at h
      · next hlt =>
        obtain rfl := Option.some.inj h
        rcases List.mem_cons.1 hu with rfl | hmem
        · exact keyLt_asymm hlt
        · exact hleast u hmem
      · next hnlt =>
        obtain rfl := Option.some.inj h
        rcases List.mem_cons.1 hu with rfl | hmem
        · exact keyLt_irrefl _
        · exact not_keyLt_trans (hleast u hmem) hnlt

/-! #### What it says of each class -/

theorem State.portKey_loader (h : t.who = .loader) : s.portKey t = (0, 0, 0) := by
  simp only [State.portKey, h]

theorem State.portKey_a (h : t.who = .voice .a) : s.portKey t = (1, s.nre.a.fill, 0) := by
  simp only [State.portKey, h]

theorem State.portKey_b (h : t.who = .voice .b) : s.portKey t = (1, s.nre.b.fill, 1) := by
  simp only [State.portKey, h]

theorem State.portKey_scene {i : Fin 4} {r : Nat} {k : ReadKind} (h : t.who = .scene i r k) :
    s.portKey t = (2, t.instant, i.val) := by
  simp only [State.portKey, h]

/-- The class of a voice, and the fill of its ring. -/
theorem State.portKey_voice {v : Voice} (h : t.who = .voice v) :
    (s.portKey t).1 = 1 ∧ (s.portKey t).2.1 = (s.voice v).fill := by
  cases v
  · rw [State.portKey_a h]
    exact ⟨rfl, rfl⟩
  · rw [State.portKey_b h]
    exact ⟨rfl, rfl⟩

variable (h : ¬ keyLt (s.portKey u) (s.portKey t))
include h

/-- Only the loader precedes the loader. -/
theorem State.loader_first (hu : u.who = .loader) : t.who = .loader := by
  rw [keyLt_iff, State.portKey_loader hu] at h
  rcases hw : t.who with _ | v | ⟨i, r, k⟩
  · rfl
  · rw [(State.portKey_voice hw).1] at h
    omega
  · rw [State.portKey_scene hw] at h
    omega

theorem State.voices_before_scenes {v : Voice} {i : Fin 4} {r : Nat} {k : ReadKind} (hu : u.who = .voice v) :
    t.who ≠ .scene i r k := by
  intro hw
  rw [keyLt_iff, (State.portKey_voice hu).1, State.portKey_scene hw] at h
  omega

theorem State.lower_fill_first {v w : Voice} (hu : u.who = .voice v) (ht : t.who = .voice w) :
    (s.voice w).fill ≤ (s.voice v).fill := by
  obtain ⟨hu₁, hu₂⟩ := State.portKey_voice (s := s) hu
  obtain ⟨ht₁, ht₂⟩ := State.portKey_voice (s := s) ht
  rw [keyLt_iff] at h
  omega

theorem State.voiceA_first_when_equal (hu : u.who = .voice .a) (ht : t.who = .voice .b) :
    s.nre.b.fill < s.nre.a.fill := by
  rw [keyLt_iff, State.portKey_a hu, State.portKey_b ht] at h
  dsimp only at h
  omega

theorem State.earlier_scene_first {i j : Fin 4} {r r' : Nat} {k k' : ReadKind} (hu : u.who = .scene i r k)
    (ht : t.who = .scene j r' k') : t.instant < u.instant ∨ t.instant = u.instant ∧ j ≤ i := by
  rw [keyLt_iff, State.portKey_scene hu, State.portKey_scene ht] at h
  dsimp only at h
  omega

end

/-! ### The read command (R166, R175) -/

/-- The four bytes of a read command; an address counts modulo the 24-bit space. -/
theorem readCommand_eq (address : Nat) :
    readCommand address =
      [0x03#8, BitVec.ofNat 8 (address / 65536), BitVec.ofNat 8 (address / 256), BitVec.ofNat 8 address] := by
  have hspace : addressSpace = 256 ^ 3 := rfl
  simp only [readCommand, bytesOf, hspace, List.cons.injEq, true_and, and_true]
  exact ⟨by bv_omega, by bv_omega, by bv_omega⟩

section
variable {s : State} {t : Transfer}

theorem State.arbitrate_takes (hr : s.smp.state = .ready) (hc : s.choice s.smp.waiting = some t) :
    s.arbitrate.smp =
      { state := .busy t false, waiting := s.smp.waiting.erase t, sent := readCommand t.address
        timer := 0 } := by
  simp only [State.arbitrate, hr, hc, State.onSmp]

theorem State.arbitrate_none_waiting (h : s.smp.waiting = []) : s.arbitrate = s := by
  unfold State.arbitrate
  split
  · rw [h]
    rfl
  · rfl

/-! ### Timeouts (R168) -/

theorem exec_showMemoryTimeout (s : State) :
    exec .showMemoryTimeout s = act State.mayTimeOut State.timeOut s := rfl

theorem exec_showMemoryFailed (s : State) : exec .showMemoryFailed s = act State.mayFail State.failPort s := rfl

theorem State.mayTimeOut_iff (s : State) :
    s.mayTimeOut = true ↔ (∃ t, s.smp.state = .busy t false) ∧ s.smp.timer = 2 := by
  unfold State.mayTimeOut Port.markLate
  split
  · next t retried hb => simp [hb]
  · next hno => exact iff_of_false Bool.false_ne_true fun ⟨⟨t, hb⟩, _⟩ => hno t _ hb

theorem State.mayFail_iff (s : State) :
    s.mayFail = true ↔ (∃ t, s.smp.state = .busy t true) ∧ s.smp.timer = 2 := by
  unfold State.mayFail Port.markLate
  split
  · next t retried hb => simp [hb]
  · next hno => exact iff_of_false Bool.false_ne_true fun ⟨⟨t, hb⟩, _⟩ => hno t _ hb

/-- At another count, and with no transfer, neither timeout comes (log entry 47). -/
theorem State.no_timeout (h : s.smp.timer ≠ 2 ∨ ∀ t retried, s.smp.state ≠ .busy t retried) :
    s.mayTimeOut = false ∧ s.mayFail = false := by
  have hno : ∀ retried, ¬ ((∃ t, s.smp.state = .busy t retried) ∧ s.smp.timer = 2) := by
    rintro retried ⟨⟨t, hb⟩, htimer⟩
    exact h.elim (· htimer) (· t retried hb)
  rw [← Bool.not_eq_true, ← Bool.not_eq_true, State.mayTimeOut_iff, State.mayFail_iff]
  exact ⟨hno false, hno true⟩

theorem State.timeOut_busy {retried : Bool} (hb : s.smp.state = .busy t retried) :
    s.timeOut =
      ({ s with
          smp := { s.smp with state := .busy t true, sent := readCommand t.address, timer := 0 } }).report
        .showMemoryTimeout s.sul.number.val := by
  simp only [State.timeOut, hb]
  rfl

theorem State.failPort_busy {retried : Bool} (hb : s.smp.state = .busy t retried) :
    s.failPort =
      (({ s with smp := { s.smp with state := .failed, waiting := [], timer := 0 } }).report
        .showMemoryFailed s.sul.number.val).post ((t :: s.smp.waiting).map Transfer.failure) := by
  simp only [State.failPort, hb]
  rfl

end

/-- Settles O53: what the least key says of each class, the four bytes sent, and the two timeouts. -/
theorem portArbiterAndTimeouts : Obligations.PortArbiterAndTimeouts := by
  unfold Obligations.PortArbiterAndTimeouts
  refine ⟨fun s ts => ⟨fun hne => Option.isSome_iff_exists.1 (s.choice_isSome hne), fun t ht =>
      ⟨s.choice_mem ht, fun u hu => ?_⟩⟩, fun s hr => ⟨State.arbitrate_none_waiting, fun t ht => ?_⟩,
    fun s h => ?_, fun s t waiting sent => ⟨fun hsmp => ?_, fun hsmp => ?_⟩⟩
  · have hleast := State.choice_least ht u hu
    exact ⟨State.loader_first hleast, fun v hv i r k => State.voices_before_scenes hleast hv,
      fun v w => State.lower_fill_first hleast, State.voiceA_first_when_equal hleast,
      fun i r k j r' k' => State.earlier_scene_first hleast⟩
  · rw [State.arbitrate_takes hr ht, readCommand_eq]
  · obtain ⟨htimeout, hfail⟩ := State.no_timeout h
    exact ⟨(exec_showMemoryTimeout s).trans (act_may_not htimeout),
      (exec_showMemoryFailed s).trans (act_may_not hfail)⟩
  · have hbusy : s.tick.smp.state = .busy t false := by rw [State.tick_smp, hsmp]
    have hmay : s.mayTimeOut = true := s.mayTimeOut_iff.2 ⟨⟨t, hbusy⟩, by rw [hsmp]⟩
    refine gives_of_act (exec_showMemoryTimeout s) hmay ?_ (by rw [State.report_agenda]; rfl)
    rw [State.timeOut_busy hbusy, State.tick_smp, hsmp]
    rfl
  · have hbusy : s.tick.smp.state = .busy t true := by rw [State.tick_smp, hsmp]
    have hmay : s.mayFail = true := s.mayFail_iff.2 ⟨⟨t, hbusy⟩, by rw [hsmp]⟩
    rw [exec_showMemoryFailed, act_may hmay, State.failPort_busy hbusy, State.tick_smp, hsmp]
    rfl

end Sys2Proof.Machine
end

section
/-! PROOFS. Frames read back (R173, R174, 13.1): a number from its bytes, a frame from its kind, sender, length,
payload and CRC-16, and each message from its payload. -/

namespace Sys2Proof.Machine

/-! ### Numbers from their bytes (R173) -/

theorem natOf_fold_bytesOf (x : Nat) : ∀ n acc : Nat,
    (bytesOf n x).foldl (fun acc b => acc * 256 + b.toNat) acc = acc * 256 ^ n + x % 256 ^ n
  | 0, acc => by simp [bytesOf, Nat.mod_one]
  | n + 1, acc => by
    have hbyte : (BitVec.ofNat 8 (x / 256 ^ n)).toNat = x / 256 ^ n % 256 := BitVec.toNat_ofNat _ 8
    have hsplit : x % 256 ^ (n + 1) = x % 256 ^ n + 256 ^ n * (x / 256 ^ n % 256) := Nat.mod_pow_succ
    rw [bytesOf, List.foldl_cons, natOf_fold_bytesOf x n, hbyte, hsplit]
    ring

/-- `n` bytes spell a number modulo `256 ^ n`. -/
theorem natOf_bytesOf (n x : Nat) : natOf (bytesOf n x) = x % 256 ^ n := by
  rw [natOf, natOf_fold_bytesOf]
  omega

@[simp] theorem field_bytesOf_append (n x : Nat) (rest : List Byte) :
    field (bytesOf n x ++ rest) 0 n = x % 256 ^ n := by
  rw [field, List.drop_zero, List.take_left' (length_bytesOf x n), natOf_bytesOf]

/-- A field that begins past the first part of the bytes. -/
theorem field_append {pre : List Byte} {o : Nat} (rest : List Byte) (k : Nat) (h : pre.length ≤ o) :
    field (pre ++ rest) o k = field rest (o - pre.length) k := by
  rw [field, List.drop_append, List.drop_eq_nil_of_le h, List.nil_append, field]

@[simp] theorem field_past_bytesOf {n o : Nat} (x : Nat) (rest : List Byte) (k : Nat) (h : n ≤ o) :
    field (bytesOf n x ++ rest) o k = field rest (o - n) k := by
  rw [field_append rest k (by rwa [length_bytesOf]), length_bytesOf]

@[simp] theorem field_bytesOf (n x : Nat) : field (bytesOf n x) 0 n = x % 256 ^ n := by
  have h := field_bytesOf_append n x []
  rwa [List.append_nil] at h

@[simp] theorem field_cons_succ (b : Byte) (rest : List Byte) (o k : Nat) :
    field (b :: rest) (o + 1) k = field rest o k := rfl

@[simp] theorem field_head (b : Byte) (rest : List Byte) : field (b :: rest) 0 1 = b.toNat := by
  simp [field, natOf]

/-- A word read back from as many bytes as it fills. -/
theorem ofNat_toNat_mod {w n : Nat} (h : 2 ^ w = 256 ^ n) (x : BitVec w) :
    BitVec.ofNat w (x.toNat % 256 ^ n) = x := by
  rw [← h, Nat.mod_eq_of_lt x.isLt, BitVec.ofNat_toNat, BitVec.setWidth_eq]

theorem word_reads (x : BitVec 32) : BitVec.ofNat 32 (x.toNat % 256 ^ 4) = x := ofNat_toNat_mod (by decide) x

theorem half_reads (x : BitVec 16) : BitVec.ofNat 16 (x.toNat % 256 ^ 2) = x := ofNat_toNat_mod (by decide) x

/-! ### The frame (13.1, R174) -/

/-- A frame whose payload has a length that its kind allows reads back as the message of its payload. -/
theorem frameCommand_frameBytes {kind : Byte} (sender : Byte) {payload : List Byte}
    (hlength : payload.length ≤ 24) (hallowed : lengthAllowed kind payload.length = true) :
    frameCommand (frameBytes kind sender payload) = messageCommand kind sender payload := by
  have hbyte : (BitVec.ofNat 8 payload.length).toNat = payload.length := by
    rw [BitVec.toNat_ofNat]
    omega
  have htake : ∀ crc : List Byte, (payload ++ crc).take payload.length = payload :=
    fun _ => List.take_left' rfl
  have hcrc : ∀ crc : BitVec 16, field (payload ++ bytesOf 2 crc.toNat) payload.length 2 = crc.toNat :=
    fun crc => by
      rw [field_append _ _ le_rfl, Nat.sub_self, field_bytesOf]
      exact Nat.mod_eq_of_lt crc.isLt
  simp only [frameBytes, frameHead, List.cons_append, frameCommand, hbyte, htake, hcrc, hallowed,
    List.length_append, length_bytesOf, Nat.lt_irrefl, not_lt.2 hlength, ne_eq, not_true_eq_false, if_false,
    if_true]

/-! ### The messages (13.1) -/

section
variable (sender : Byte)

theorem beacon_reads_back (stamp : BitVec 32) (g x : BitVec 16) (flags : Byte) :
    frameCommand (frameBytes kindBeacon sender (beaconPayload stamp g.toNat x.toNat flags)) =
      .beacon sender stamp g x flags := by
  have hlength : (beaconPayload stamp g.toNat x.toNat flags).length = 9 := by simp [beaconPayload]
  rw [frameCommand_frameBytes sender (by omega) (by rw [hlength]; rfl)]
  simp only [messageCommand, if_true, beaconPayload, List.append_assoc, field_bytesOf_append,
    field_past_bytesOf, Nat.reduceLeDiff, Nat.reduceSub, field_head, word_reads, half_reads, BitVec.ofNat_toNat,
    BitVec.setWidth_eq]

/-- A CUE is of the long form where its payload has 5 bytes. -/
theorem messageCommand_cue (payload : List Byte) :
    messageCommand kindCue sender payload =
      if payload.length = 5 then
        .cueLongForm sender (BitVec.ofNat 8 (field payload 0 1)) (BitVec.ofNat 32 (field payload 1 4))
      else
        .cueShortForm sender (BitVec.ofNat 8 (field payload 0 1)) (BitVec.ofNat 8 (field payload 1 1))
          (BitVec.ofNat 32 (field payload 2 4)) := rfl

theorem cueLong_reads_back (cue : Byte) (startAt : BitVec 32) :
    frameCommand (frameBytes kindCue sender (cueLongPayload cue startAt)) =
      .cueLongForm sender cue startAt := by
  have hlength : (cueLongPayload cue startAt).length = 5 := by simp [cueLongPayload]
  rw [frameCommand_frameBytes sender (by omega) (by rw [hlength]; rfl), messageCommand_cue, if_pos hlength]
  simp only [cueLongPayload, field_head, field_cons_succ, field_bytesOf, word_reads, BitVec.ofNat_toNat,
    BitVec.setWidth_eq]

theorem cueShort_reads_back (target : Fin 32) (scene : Fin 64) (startAt : BitVec 32) :
    frameCommand (frameBytes kindCue sender (cueShortPayload target.val scene.val startAt)) =
      .cueShortForm sender (BitVec.ofNat 8 target.val) (BitVec.ofNat 8 scene.val) startAt := by
  have hlength : (cueShortPayload target.val scene.val startAt).length = 6 := by simp [cueShortPayload]
  rw [frameCommand_frameBytes sender (by omega) (by rw [hlength]; rfl), messageCommand_cue,
    if_neg (by omega)]
  simp only [cueShortPayload, field_head, field_cons_succ, field_bytesOf, word_reads, BitVec.ofNat_toNat,
    BitVec.setWidth_eq]

theorem talk_reads_back (v : Voice) (clip : Fin 256) :
    frameCommand (frameBytes kindTalk sender (talkPayload v clip.val)) =
      .talk sender (voiceCode v) (BitVec.ofNat 8 clip.val) := by
  have hmessage : ∀ payload, messageCommand kindTalk sender payload =
      .talk sender (BitVec.ofNat 8 (field payload 0 1)) (BitVec.ofNat 8 (field payload 1 1)) := fun _ => rfl
  rw [frameCommand_frameBytes sender (by simp [talkPayload]) (by rfl), hmessage]
  simp only [talkPayload, field_head, field_cons_succ, BitVec.ofNat_toNat, BitVec.setWidth_eq]

theorem answer_reads_back (target : Fin 32) (kind outcome reason : Byte) {data : List Byte}
    (hdata : data.length ≤ 20) :
    frameCommand (frameBytes kindAnswer sender (answerPayload target.val kind outcome reason data)) =
      .answer sender (BitVec.ofNat 8 target.val) kind outcome reason data := by
  have hlength : (answerPayload target.val kind outcome reason data).length = data.length + 4 := rfl
  have hallowed : lengthAllowed kindAnswer (data.length + 4) = true :=
    decide_eq_true (p := 4 ≤ data.length + 4 ∧ data.length + 4 ≤ 24) (by omega)
  have hmessage : ∀ payload, messageCommand kindAnswer sender payload =
      .answer sender (BitVec.ofNat 8 (field payload 0 1)) (BitVec.ofNat 8 (field payload 1 1))
        (BitVec.ofNat 8 (field payload 2 1)) (BitVec.ofNat 8 (field payload 3 1)) (payload.drop 4) :=
    fun _ => rfl
  rw [frameCommand_frameBytes sender (by omega) (by rw [hlength, hallowed]), hmessage]
  simp only [answerPayload, field_head, field_cons_succ, BitVec.ofNat_toNat, BitVec.setWidth_eq,
    List.drop_succ_cons, List.drop_zero]

theorem order_reads_back (target code : Byte) {ops : List Byte} (hops : ops.length ≤ 6) :
    frameCommand (frameBytes kindOrder sender (target :: code :: ops)) =
      orderCommand sender target code ops := by
  have hlength : (target :: code :: ops).length = ops.length + 2 := rfl
  have hallowed : lengthAllowed kindOrder (ops.length + 2) = true :=
    decide_eq_true (p := 2 ≤ ops.length + 2 ∧ ops.length + 2 ≤ 8) (by omega)
  have hmessage : ∀ payload, messageCommand kindOrder sender payload =
      orderCommand sender (BitVec.ofNat 8 (field payload 0 1)) (BitVec.ofNat 8 (field payload 1 1))
        (payload.drop 2) := fun _ => rfl
  rw [frameCommand_frameBytes sender (by omega) (by rw [hlength, hallowed]), hmessage]
  simp only [field_head, field_cons_succ, BitVec.ofNat_toNat, BitVec.setWidth_eq, List.drop_succ_cons,
    List.drop_zero]

/-- A frame of a kind that 13.1 does not name is kept as it is (R17). -/
theorem unknown_reads_back {kind : Byte} {payload : List Byte} (hlength : payload.length ≤ 24)
    (hkind : kind = 0#8 ∨ 5 < kind.toNat) :
    frameCommand (frameBytes kind sender payload) = .frameOfUnknownKind kind sender payload := by
  have hbeacon : kind ≠ kindBeacon := by unfold kindBeacon; bv_omega
  have hcue : kind ≠ kindCue := by unfold kindCue; bv_omega
  have htalk : kind ≠ kindTalk := by unfold kindTalk; bv_omega
  have horder : kind ≠ kindOrder := by unfold kindOrder; bv_omega
  have hanswer : kind ≠ kindAnswer := by unfold kindAnswer; bv_omega
  rw [frameCommand_frameBytes sender hlength
    (by simp only [lengthAllowed, hbeacon, hcue, htalk, horder, hanswer, if_false])]
  simp only [messageCommand, hbeacon, hcue, htalk, horder, hanswer, if_false]

end

/-- Settles O16, kind by kind. -/
theorem framesReadBack : Obligations.FramesReadBack := by
  unfold Obligations.FramesReadBack
  exact fun sender => ⟨beacon_reads_back sender, cueLong_reads_back sender, cueShort_reads_back sender,
    talk_reads_back sender, fun target kind outcome reason _ => answer_reads_back sender target kind outcome reason,
    fun target code _ => order_reads_back sender target code, fun _ _ => unknown_reads_back sender⟩

end Sys2Proof.Machine
end

section
/-! PROOFS. The bytes of a load and the checks of the header (R169, R171, R175), and the end of the JOINING
interval with auto-home (R54, R58, R159, R170). -/

namespace Sys2Proof.Machine

/-! ### A transfer of the load completes (R166, R169, R175) -/

theorem exec_loadTransferComplete (smin : List Byte) (s : State) :
    exec (.loadTransferComplete smin) s =
      act (·.mayComplete Requester.isLoader smin) (·.completeTransfer smin) s := rfl

section
variable {s ready : State} {address count at_ timer : Nat} {retried : Bool} {sent skipped data smin : List Byte}

/-- A transfer of the load that completes hands the loader the requested bytes that follow the mark. -/
theorem State.completeTransfer_loader
    (h : s.smp.state =
      .busy { who := .loader, address := address, count := count, instant := at_ } retried)
    (hmark : dataStart ∉ skipped) :
    s.completeTransfer (skipped ++ dataStart :: data) = s.portReady.loadStep (data.take count) := by
  simp only [State.completeTransfer, State.inTransfer_of_busy h, afterMark_append data hmark]

/-- The command of a load's transfer that brings just the bytes asked for, with no other request waiting. -/
theorem exec_load
    (hsmp : s.smp =
      { state := .busy { who := .loader, address := address, count := count, instant := at_ } retried
        waiting := [], sent := sent, timer := timer })
    (hmark : dataStart ∉ skipped) (hcount : data.length = count)
    (hready : ready = { s.tick with smp := { state := .ready, waiting := [], sent := sent, timer := 0 } })
    (hsmin : smin = skipped ++ dataStart :: data) :
    exec (.loadTransferComplete smin) s = .next (State.finish (ready.loadStep data)) := by
  have hbusy : s.smp.state =
      .busy { who := .loader, address := address, count := count, instant := at_ } retried := by rw [hsmp]
  have hport : s.tick.portReady = ready := by
    rw [hready]
    show { s.tick with smp := { s.smp with state := .ready, timer := 0 } } = _
    rw [hsmp]
  subst hsmin
  rw [exec_loadTransferComplete, act_may (State.mayComplete_of_busy hbusy rfl hmark hcount.ge),
    State.completeTransfer_loader (s := s.tick) hbusy hmark, hport, ← hcount, List.take_length]

end

/-! ### The header (R169, checks 1 and 2) -/

theorem signatureOk_iff (h : List Byte) : signatureOk h = true ↔ h.take 4 = [0x44#8, 0x5A#8, 0x43#8, 0x49#8] :=
  decide_eq_true_iff

theorem versionOk_iff (h : List Byte) : versionOk h = true ↔ field h 4 2 = 1 ∧ field h 6 4 = 674 := by
  rw [versionOk, Bool.and_eq_true, decide_eq_true_iff, decide_eq_true_iff]
  rfl

section
variable {s : State} {head : List Byte}

theorem State.loadStep_header (h : s.sul.phase = .header) : s.loadStep head = s.takeHeader head := by
  simp only [State.loadStep, h]

theorem State.takeHeader_unsigned (h : head.take 4 ≠ [0x44#8, 0x5A#8, 0x43#8, 0x49#8]) :
    s.takeHeader head = (s.report .configCrc s.sul.number.val).enterFault := by
  have hno : signatureOk head = false := by rwa [← Bool.not_eq_true, signatureOk_iff]
  rw [State.takeHeader, hno]
  rfl

theorem State.takeHeader_other_version (hsigned : head.take 4 = [0x44#8, 0x5A#8, 0x43#8, 0x49#8])
    (h : field head 4 2 ≠ 1 ∨ field head 6 4 ≠ 674) :
    s.takeHeader head = (s.report .configRange s.sul.number.val).enterFault := by
  have hno : versionOk head = false := by
    rw [← Bool.not_eq_true, versionOk_iff]
    tauto
  rw [State.takeHeader, (signatureOk_iff head).2 hsigned, hno]
  rfl

/-- A good header is followed by the body, which a READY port takes at once. -/
theorem State.takeHeader_good (hsigned : head.take 4 = [0x44#8, 0x5A#8, 0x43#8, 0x49#8])
    (hversion : field head 4 2 = 1) (hlength : field head 6 4 = 674) (hr : s.smp.state = .ready)
    (hw : s.smp.waiting = []) :
    s.takeHeader head =
      { s with
        sul := { s.sul with phase := .body (BitVec.ofNat 16 (field head 10 2)) }
        smp :=
          { state := .busy { who := .loader, address := 16, count := 658, instant := s.instant } false
            waiting := [], sent := readCommand 16, timer := 0 } } := by
  rw [State.takeHeader, (signatureOk_iff head).2 hsigned, (versionOk_iff head).2 ⟨hversion, hlength⟩]
  exact State.askPort_ready (s := s.onSul _) _ _ _ hr hw

end

theorem readCommand_sixteen : readCommand 16 = [0x03#8, 0x00#8, 0x00#8, 0x10#8] := by decide

/-! ### Axes that home themselves (R159) -/

/-- An axis that is to home waits in the admission line for it. -/
def Axis.toHome (x : Axis) : Axis :=
  { x with state := .waitPower, move := some .home, waitTimer := 0, v := 0, stopKind := none }

section
variable {s : State} {a : Fin 4} {c : Config}

/-- Joining the line writes the axis and its place in the line, and reports. -/
theorem State.joinLine_eq (s : State) (a : Fin 4) (m : Move) : ∃ l,
    s.joinLine a m =
      { s with
        mte := (s.joinLine a m).mte
        lgv := { s.lgv with line := s.lgv.line.filter (fun b => decide (b ≠ a)) ++ [a] }
        agenda := l } := by
  refine ⟨(s.joinLine a m).agenda, ?_⟩
  unfold State.joinLine
  dsimp only
  rw [State.putAxis_eq]
  rfl

/-- An auto-home axis that is UNHOMED or in FAULT joins the line with its HOME. -/
theorem State.autoHome_joins (hc : s.cfg = some c) (h : c.axes[a].autoHome = true)
    (hs : (s.axis a).state = .unhomed ∨ (s.axis a).state = .fault) : s.autoHome a = s.joinLine a .home := by
  have hcfg : s.axisCfg a = some c.axes[a] := by rw [State.axisCfg, hc]; rfl
  rw [← State.homeAxis_joins hs, State.autoHome, hcfg]
  refine if_pos ?_
  rw [Bool.and_eq_true, Bool.or_eq_true, decide_eq_true_iff, decide_eq_true_iff]
  exact ⟨h, hs⟩

theorem State.autoHome_stays (hc : s.cfg = some c)
    (h : ¬ (c.axes[a].autoHome = true ∧ ((s.axis a).state = .unhomed ∨ (s.axis a).state = .fault))) :
    s.autoHome a = s := by
  have hcfg : s.axisCfg a = some c.axes[a] := by rw [State.axisCfg, hc]; rfl
  rw [State.autoHome, hcfg]
  refine if_neg ?_
  rwa [Bool.and_eq_true, Bool.or_eq_true, decide_eq_true_iff, decide_eq_true_iff]

theorem State.autoHome_cases (s : State) (a : Fin 4) :
    s.autoHome a = s ∨ s.autoHome a = s.joinLine a .home := by
  cases hc : s.cfg with
  | none =>
    left
    simp [State.autoHome, State.axisCfg, hc]
  | some c =>
    by_cases h : c.axes[a].autoHome = true ∧ ((s.axis a).state = .unhomed ∨ (s.axis a).state = .fault)
    · exact .inr (State.autoHome_joins hc h.1 h.2)
    · exact .inl (State.autoHome_stays hc h)

/-- Auto-home writes neither the station's own record nor the inputs. -/
theorem State.autoHome_frame (s : State) (a : Fin 4) :
    (s.autoHome a).sul = s.sul ∧ (s.autoHome a).viu = s.viu := by
  rcases s.autoHome_cases a with h | h
  · rw [h]
    exact ⟨rfl, rfl⟩
  · obtain ⟨l, hjoin⟩ := s.joinLine_eq a .home
    rw [h, hjoin]
    exact ⟨rfl, rfl⟩

/-- The axes of a list that are to home join the line in the list's order, and the others stand (R123, R159;
log entry 37). -/
theorem forEach_autoHome {home : Fin 4 → Bool} : ∀ {xs : List (Fin 4)} {s : State}, xs.Nodup →
    s.cfg = some c →
    (∀ a ∈ xs, home a = true ↔
      c.axes[a].autoHome = true ∧ ((s.axis a).state = .unhomed ∨ (s.axis a).state = .fault)) →
    (∀ a ∈ xs, home a = true → a ∉ s.lgv.line) →
    (forEach xs (fun a s => s.autoHome a) s).lgv = { s.lgv with line := s.lgv.line ++ xs.filter home } ∧
      ∀ a, (forEach xs (fun a s => s.autoHome a) s).axis a =
        if a ∈ xs ∧ home a = true then (s.axis a).toHome else s.axis a
  | [], s, _, _, _, _ => ⟨by simp [forEach], fun a => by simp [forEach]⟩
  | b :: xs, s, hdistinct, hc, hhome, hline => by
    obtain ⟨hb, hxs⟩ := List.nodup_cons.1 hdistinct
    have hne : ∀ a ∈ xs, a ≠ b := fun a ha hab => hb (hab ▸ ha)
    cases hbh : home b with
    | false =>
      have hstays : s.autoHome b = s :=
        State.autoHome_stays hc fun h => by simpa [hbh] using (hhome b List.mem_cons_self).2 h
      obtain ⟨hlgv, haxis⟩ := forEach_autoHome hxs hc (fun a ha => hhome a (List.mem_cons_of_mem b ha))
        fun a ha => hline a (List.mem_cons_of_mem b ha)
      have hround : forEach (b :: xs) (fun a s => s.autoHome a) s = forEach xs (fun a s => s.autoHome a) s :=
        congrArg (forEach xs _) hstays
      rw [hround, hlgv, List.filter_cons_of_neg (by simp [hbh])]
      refine ⟨rfl, fun a => ?_⟩
      rw [haxis]
      by_cases hab : a = b
      · subst hab
        simp [hb, hbh]
      · simp [hab]
    | true =>
      obtain ⟨hauto, hstate⟩ := (hhome b List.mem_cons_self).1 hbh
      have hjoins : s.autoHome b = s.joinLine b .home := State.autoHome_joins hc hauto hstate
      have hsame : ∀ a ∈ xs, SameFor a s (s.joinLine b .home) := fun a ha => State.joinLine_same _ (hne a ha)
      have hafter : (s.joinLine b .home).lgv = { s.lgv with line := s.lgv.line ++ [b] } := by
        obtain ⟨l, hjoin⟩ := s.joinLine_eq b .home
        have hstands := State.joinLine_appends (s := s) .home (hline b List.mem_cons_self hbh)
        rw [State.joinLine_line] at hstands
        rw [hjoin, ← hstands]
      have hcfg : (s.joinLine b .home).cfg = some c := by
        obtain ⟨l, hjoin⟩ := s.joinLine_eq b .home
        rw [hjoin]
        exact hc
      obtain ⟨hlgv, haxis⟩ := forEach_autoHome (s := s.joinLine b .home) hxs hcfg
        (fun a ha => by rw [(hsame a ha).axis]; exact hhome a (List.mem_cons_of_mem b ha))
        fun a ha hah => by rw [(hsame a ha).line]; exact hline a (List.mem_cons_of_mem b ha) hah
      have hround : forEach (b :: xs) (fun a s => s.autoHome a) s =
          forEach xs (fun a s => s.autoHome a) (s.joinLine b .home) := congrArg (forEach xs _) hjoins
      rw [hround, hlgv, hafter, List.filter_cons_of_pos hbh]
      refine ⟨by simp, fun a => ?_⟩
      rw [haxis]
      by_cases hab : a = b
      · subst hab
        simp only [hb, hbh, State.axis_joinLine_self, Axis.toHome, false_and, if_false, List.mem_cons_self,
          and_self, if_true]
      · simp only [(State.joinLine_same (s := s) .home hab).axis, List.mem_cons, hab, false_or]

end

/-! ### The end of the JOINING interval (R54, R58, R170) -/

theorem exec_joiningIntervalEnd (s : State) :
    exec .joiningIntervalEnd s = act State.joiningDue State.enterActive s := rfl

section
variable {s : State} {c : Config}

/-- The station in ACTIVE, its axes still to be looked at: held timers at 0, and the groups to be judged. -/
def State.activated (s : State) : State :=
  { s with
    sul := { s.sul with station := .active }
    viu := { s.viu with judgeGroups := true, inputs := vmap (fun x => { x with held := 0 }) s.viu.inputs } }

theorem State.enterActive_eq (s : State) : ∃ l,
    s.enterActive = (forEach allAxes (fun a s => s.autoHome a) s.activated).post l := by
  unfold State.enterActive
  dsimp only
  split
  · exact ⟨_, rfl⟩
  · exact ⟨_, rfl⟩

theorem State.enterActive_frame (s : State) :
    s.enterActive.sul = { s.sul with station := .active } ∧ s.enterActive.viu = s.activated.viu := by
  obtain ⟨l, hactive⟩ := s.enterActive_eq
  rw [hactive]
  exact forEach_induct (P := fun u => u.sul = s.activated.sul ∧ u.viu = s.activated.viu)
    (fun a u ⟨hsul, hviu⟩ => ⟨(u.autoHome_frame a).1.trans hsul, (u.autoHome_frame a).2.trans hviu⟩) _ _
    ⟨rfl, rfl⟩

/-- The axes on entry to ACTIVE (R123, R159). -/
theorem State.enterActive_axes {home : Fin 4 → Bool} (hc : s.cfg = some c)
    (hhome : ∀ a : Fin 4, home a = true ↔
      c.axes[a].autoHome = true ∧ ((s.axis a).state = .unhomed ∨ (s.axis a).state = .fault))
    (hline : ∀ a : Fin 4, home a = true → a ∉ s.lgv.line) :
    s.enterActive.lgv = { s.lgv with line := s.lgv.line ++ [0, 1, 2, 3].filter home } ∧
      ∀ a, s.enterActive.axis a = if home a = true then (s.axis a).toHome else s.axis a := by
  obtain ⟨l, hactive⟩ := s.enterActive_eq
  obtain ⟨hlgv, haxis⟩ := forEach_autoHome (s := s.activated) nodup_allAxes hc
    (fun a _ => hhome a) fun a _ => hline a
  rw [hactive]
  refine ⟨hlgv, fun a => ?_⟩
  rw [State.axis_post, haxis]
  simp only [mem_allAxes, true_and]
  rfl

/-- With no axis that homes itself only the opening scene and the service of the queue are to come (R71). -/
theorem State.enterActive_no_home (hc : s.cfg = some c) (h : ∀ a : Fin 4, c.axes[a].autoHome = false) :
    s.enterActive =
      s.activated.post
        (match c.opening with
        | some n => [.request n .opening, .serve]
        | none => [.serve]) := by
  have hstay : ∀ a, s.activated.autoHome a = s.activated := fun a =>
    State.autoHome_stays hc fun ⟨hauto, _⟩ => Bool.false_ne_true ((h a).symm.trans hauto)
  have hstays : forEach allAxes (fun a s => s.autoHome a) s.activated = s.activated :=
    forEach_induct (P := (· = s.activated)) (fun a u hu => by rw [hu]; exact hstay a) _ _ rfl
  have hopening : s.activated.opening = c.opening := by
    show (match s.cfg with | some c => c.opening | none => none) = _
    rw [hc]
  have hactive : s.enterActive =
      match (forEach allAxes (fun a s => s.autoHome a) s.activated).opening with
      | some n => (forEach allAxes (fun a s => s.autoHome a) s.activated).post [.request n .opening, .serve]
      | none => (forEach allAxes (fun a s => s.autoHome a) s.activated).post [.serve] := rfl
  rw [hactive, hstays, hopening]
  cases c.opening <;> rfl

theorem State.joiningDue_iff (s : State) :
    s.joiningDue = true ↔ s.sul.station = .joining ∧ s.staleLimit ≤ s.sul.joinTimer := by
  simp [State.joiningDue]

end

/-- Settles O54: the header's checks one after another; then ACTIVE, from what auto-home makes of the axes. -/
theorem startUp : Obligations.StartUp := by
  unfold Obligations.StartUp
  refine ⟨?_, fun s hstation htimer => ?_⟩
  · intro s address at_ timer retried sent skipped head hsmp hmark hcount hphase ready hready smin hsmin
    have hexec := exec_load hsmp hmark hcount hready hsmin
    have hsul : ready.sul = s.sul := by rw [hready]; rfl
    rw [State.loadStep_header (by rw [hsul]; exact hphase)] at hexec
    refine ⟨fun h => ?_, fun hsigned h => ?_, fun hsigned hversion hlength => ?_⟩
    · rw [hexec, State.takeHeader_unsigned h, hsul]
    · rw [hexec, State.takeHeader_other_version hsigned h, hsul]
    · have hport : ready.smp.state = .ready ∧ ready.smp.waiting = [] := by
        rw [hready]
        exact ⟨rfl, rfl⟩
      obtain ⟨hr, hw⟩ := hport
      refine ⟨_, hexec, ?_⟩
      rw [State.takeHeader_good hsigned hversion hlength hr hw, readCommand_sixteen, hready,
        State.finish_of_not_ready (by rfl) (by simp)]
      exact ⟨rfl, rfl, rfl⟩
  · have hexec := (exec_joiningIntervalEnd s).trans (act_may (s.joiningDue_iff.2 ⟨hstation, htimer⟩))
    obtain ⟨hsul, hviu⟩ := s.enterActive_frame
    refine ⟨hexec, hsul, by rw [hviu]; rfl, fun c home hc => State.enterActive_axes hc, fun c hc h => ?_⟩
    rw [hexec, State.enterActive_no_home (s := s.tick) hc h]
    cases c.opening <;> rfl

end Sys2Proof.Machine
end

section
/-! PROOFS. The checks that an image's body passes (R169, R175, R176): what each block's range check asks of the
bytes at its offsets. -/

namespace Sys2Proof.Machine

/-! ### Fields, flags and lists of places -/

theorem bitOf_iff (x i : Nat) : bitOf x i = true ↔ x / 2 ^ i % 2 = 1 := by
  rw [bitOf, Nat.testBit_eq_decide_div_mod_eq, decide_eq_true_iff]

theorem within_iff (lo hi x : Nat) : within lo hi x = true ↔ lo ≤ x ∧ x ≤ hi := by
  simp [within]

theorem optSceneOk_iff (x : Nat) : optSceneOk x = true ↔ x ≤ 63 ∨ x = 255 := by
  rw [optSceneOk, Bool.or_eq_true, decide_eq_true_iff, decide_eq_true_iff, or_comm]
  rfl

theorem regionOk_iff (address count : Nat) : regionOk address count = true ↔ address + 11 * count ≤ 16777216 :=
  decide_eq_true_iff

theorem all_range_iff (n : Nat) (p : Nat → Bool) : (List.range n).all p = true ↔ ∀ k < n, p k = true := by
  simp

theorem all_four_iff (p : Nat → Bool) : [0, 1, 2, 3].all p = true ↔ ∀ k < 4, p k = true := all_range_iff 4 p

theorem all_eight_iff (p : Nat → Bool) : [0, 1, 2, 3, 4, 5, 6, 7].all p = true ↔ ∀ k < 8, p k = true :=
  all_range_iff 8 p

theorem all_sixteen_iff (p : Nat → Bool) :
    [0, 1, 2, 3, 4, 5, 6, 7, 8, 9, 10, 11, 12, 13, 14, 15].all p = true ↔ ∀ k < 16, p k = true :=
  all_range_iff 16 p

section
variable (b : List Byte) (k : Nat)

/-! ### Bus, clock, narration, feeder, orders, timing, scenes -/

theorem busOk_iff : busOk b = true ↔
    img b 16 1 ≤ 3 ∧ img b 17 1 ≤ 2 ∧ 100 ≤ img b 18 2 ∧ img b 18 2 ≤ 1000 ∧ 300 ≤ img b 20 2 ∧
      img b 20 2 ≤ 5000 ∧ 2 * img b 18 2 ≤ img b 20 2 ∧ 10 ≤ img b 22 1 ∧ img b 22 1 ≤ 100 := by
  simp only [busOk, Bool.and_eq_true, decide_eq_true_eq, within_iff, and_assoc]

theorem clockOk_iff : clockOk b = true ↔ 50 ≤ img b 28 2 ∧ img b 28 2 ≤ 1000 := within_iff _ _ _

theorem narrationOk_iff : narrationOk b = true ↔
    10 ≤ img b 34 1 ∧ img b 34 1 ≤ 200 ∧ img b 35 2 ≤ 256 ∧ img b 37 2 ≤ 256 ∧ img b 39 2 ≤ 256 ∧
      img b 44 2 ≤ 256 ∧ img b 41 3 + 11 * img b 44 2 ≤ 16777216 := by
  simp only [narrationOk, Bool.and_eq_true, decide_eq_true_eq, within_iff, regionOk_iff, and_assoc]

theorem feederOk_iff : feederOk b = true ↔ img b 52 2 ≤ img b 54 2 ∧ 1 ≤ img b 56 1 ∧ img b 56 1 ≤ 16 := by
  simp only [feederOk, Bool.and_eq_true, decide_eq_true_eq, within_iff]

theorem windowOk_iff : windowOk b k = true ↔
    img b (64 + 4 * k) 1 ≤ img b (65 + 4 * k) 1 ∧ -63 ≤ imgInt b (66 + 4 * k) 1 ∧
      imgInt b (66 + 4 * k) 1 ≤ 63 := by
  simp only [windowOk, windowAt, Nat.add_right_comm 63, Nat.reduceAdd, Bool.and_eq_true, decide_eq_true_eq,
    and_assoc]

theorem ordersOk_iff : ordersOk b = true ↔
    img b 61 2 ≤ 10000 ∧ ∀ k < 8, img b (64 + 4 * k) 1 ≤ img b (65 + 4 * k) 1 ∧
      -63 ≤ imgInt b (66 + 4 * k) 1 ∧ imgInt b (66 + 4 * k) 1 ≤ 63 := by
  simp only [ordersOk, Bool.and_eq_true, decide_eq_true_eq, all_eight_iff, windowOk_iff]

theorem timingOk_iff : timingOk b = true ↔
    img b 95 2 ≤ 5000 ∧ img b 97 2 ≤ 5000 ∧ img b 99 2 ≤ 10000 := by
  simp only [timingOk, Bool.and_eq_true, decide_eq_true_eq, and_assoc]

theorem scenesOk_iff : scenesOk b = true ↔
    (img b 101 1 ≤ 63 ∨ img b 101 1 = 255) ∧ img b 105 1 ≤ 64 ∧
      img b 102 3 + 11 * img b 105 1 ≤ 16777216 := by
  simp only [scenesOk, Bool.and_eq_true, decide_eq_true_eq, optSceneOk_iff, regionOk_iff, and_assoc]

/-! ### Channels and cycle tables -/

theorem channelOk_iff : channelOk b k = true ↔
    img b (106 + 12 * k) 2 ≤ 2000 ∧ (img b (111 + 12 * k) 1 ≤ 3 ∨ img b (111 + 12 * k) 1 = 255) ∧
      1 ≤ img b (114 + 12 * k) 2 := by
  simp only [channelOk, Bool.and_eq_true, Bool.or_eq_true, decide_eq_true_eq, and_assoc, or_comm]
  simp only [channelAt, Nat.add_right_comm 106, Nat.reduceAdd, noneByte]

@[simp] theorem readPoints_length : ∀ n o : Nat, (readPoints b n o).length = n
  | 0, _ => rfl
  | n + 1, o => congrArg (· + 1) (readPoints_length n (o + 4))

/-- The points of a cycle table stand 4 bytes apart (R175). -/
theorem readPoints_getElem? : ∀ n o j : Nat,
    (readPoints b n o)[j]? =
      if j < n then some { phase := img b (o + 4 * j) 2, level := img b (o + 4 * j + 2) 2 } else none
  | 0, _, _ => rfl
  | n + 1, o, 0 => rfl
  | n + 1, o, j + 1 => by
    rw [readPoints, List.getElem?_cons_succ, readPoints_getElem? n (o + 4) j]
    simp only [Nat.add_lt_add_iff_right, Nat.mul_add_one, Nat.add_assoc, Nat.add_comm 4]

/-- The points after one ascend from its phase where each phase lies past the one before. -/
theorem ascending_readPoints_iff : ∀ n o : Nat,
    ascending (img b o 2) (readPoints b n (o + 4)) = true ↔
      ∀ j, j + 1 < n + 1 → img b (o + 4 * j) 2 < img b (o + 4 * (j + 1)) 2
  | 0, _ => by simp [readPoints, ascending]
  | n + 1, o => by
    have hnext : ∀ j, o + 4 + 4 * j = o + 4 * (j + 1) := fun j => by omega
    simp only [readPoints, ascending, Bool.and_eq_true, decide_eq_true_eq, ascending_readPoints_iff n (o + 4),
      hnext]
    constructor
    · rintro ⟨hfirst, hrest⟩ j hj
      cases j with
      | zero => exact hfirst
      | succ j => exact hrest j (Nat.lt_of_succ_lt_succ hj)
    · intro hall
      exact ⟨hall 0 (by omega), fun j hj => hall (j + 1) (Nat.succ_lt_succ hj)⟩

/-- The first phase is 0 and the phases ascend strictly, of a table with a point (R102). -/
theorem phasesOk_readPoints_iff {n : Nat} (o : Nat) (hn : 0 < n) :
    phasesOk (readPoints b n o) = true ↔
      img b o 2 = 0 ∧ ∀ j, j + 1 < n → img b (o + 4 * j) 2 < img b (o + 4 * (j + 1)) 2 := by
  obtain ⟨m, rfl⟩ := Nat.exists_eq_add_one.2 hn
  have hascending := ascending_readPoints_iff b m o
  simp only [readPoints, phasesOk, Bool.and_eq_true, decide_eq_true_eq]
  refine and_congr_right fun hzero => ?_
  rwa [hzero] at hascending

theorem tableOk_iff : tableOk b k = true ↔
    1000 ≤ img b (298 + 37 * k) 4 ∧ img b (298 + 37 * k) 4 ≤ 16000000 ∧
      2 ≤ img b (302 + 37 * k) 1 ∧ img b (302 + 37 * k) 1 ≤ 8 ∧ img b (303 + 37 * k) 2 = 0 ∧
      ∀ j, j + 1 < img b (302 + 37 * k) 1 →
        img b (303 + 37 * k + 4 * j) 2 < img b (303 + 37 * k + 4 * (j + 1)) 2 := by
  simp only [tableOk, readTable, tableAt, Nat.add_right_comm 298, Nat.reduceAdd, within_iff, Bool.and_eq_true,
    and_assoc]
  refine and_congr_right fun _ => and_congr_right fun _ => and_congr_right fun htwo =>
    and_congr_right fun _ => phasesOk_readPoints_iff b _ (by omega)

/-! ### Axes -/

theorem profileOk_iff (o : Nat) : profileOk b o = true ↔
    1 ≤ img b o 2 ∧ img b o 2 ≤ 16384 ∧ 1 ≤ img b (o + 2) 2 ∧ img b (o + 2) 2 ≤ 4096 := by
  simp only [profileOk, Bool.and_eq_true, within_iff, and_assoc]

/-- The four profiles of an axis stand 4 bytes apart (R175). -/
theorem profilesOk_iff : ([14, 18, 22, 26].all fun d => profileOk b (axisAt k + d)) = true ↔
    ∀ j < 4, 1 ≤ img b (460 + 38 * k + 4 * j) 2 ∧ img b (460 + 38 * k + 4 * j) 2 ≤ 16384 ∧
      1 ≤ img b (462 + 38 * k + 4 * j) 2 ∧ img b (462 + 38 * k + 4 * j) 2 ≤ 4096 := by
  have hplaces : [14, 18, 22, 26] = (List.range 4).map fun j => 14 + 4 * j := rfl
  have hfirst : ∀ j, axisAt k + (14 + 4 * j) = 460 + 38 * k + 4 * j := fun j => by unfold axisAt; omega
  have hsecond : ∀ j, 460 + 38 * k + 4 * j + 2 = 462 + 38 * k + 4 * j := fun j => by omega
  simp only [hplaces, List.all_map, all_range_iff, Function.comp_apply, hfirst, profileOk_iff, hsecond]

theorem axisOk_iff : axisOk b k = true ↔
    imgInt b (446 + 38 * k) 3 ≤ imgInt b (449 + 38 * k) 3 ∧ img b (452 + 38 * k) 1 ≤ 1 ∧
      imgInt b (446 + 38 * k) 3 ≤ imgInt b (453 + 38 * k) 3 ∧
      imgInt b (453 + 38 * k) 3 ≤ imgInt b (449 + 38 * k) 3 ∧
      img b (456 + 38 * k) 1 ≤ 3 ∧ 1 ≤ img b (457 + 38 * k) 3 ∧ img b (457 + 38 * k) 3 ≤ 8388543 ∧
      (∀ j < 4, 1 ≤ img b (460 + 38 * k + 4 * j) 2 ∧ img b (460 + 38 * k + 4 * j) 2 ≤ 16384 ∧
        1 ≤ img b (462 + 38 * k + 4 * j) 2 ∧ img b (462 + 38 * k + 4 * j) 2 ≤ 4096) ∧
      img b (476 + 38 * k) 2 ≤ 2000 ∧ img b (479 + 38 * k) 2 ≤ 10000 ∧
      1 ≤ img b (481 + 38 * k) 2 ∧ img b (481 + 38 * k) 2 ≤ 60000 := by
  simp only [axisOk, profilesOk_iff, within_iff, Bool.and_eq_true, decide_eq_true_eq, and_assoc]
  simp only [axisAt, Nat.add_right_comm 446, Nat.reduceAdd]

/-! ### Inputs and groups -/

/-- The kinds by their codes (R173). -/
theorem kindOf_button_iff (x : Nat) : kindOf x = .button ↔ x = 0 := by
  unfold kindOf
  split <;> simp_all

theorem kindOf_presence_iff (x : Nat) : kindOf x = .presence ↔ x = 1 := by
  unfold kindOf
  split <;> simp_all

theorem kindOf_unused_iff (x : Nat) : kindOf x = .unused ↔ ¬ x < 4 := by
  unfold kindOf
  split <;> simp_all
  omega

theorem inputOk_iff : inputOk b k = true ↔
    img b (598 + 8 * k) 1 ≤ 4 ∧
      (img b (598 + 8 * k) 1 < 4 → img b (599 + 8 * k) 1 ≤ 1 ∧ 1 ≤ img b (600 + 8 * k) 1) ∧
      (img b (598 + 8 * k) 1 = 0 →
        (img b (601 + 8 * k) 1 ≤ 63 ∨ img b (601 + 8 * k) 1 = 255) ∧
        (img b (602 + 8 * k) 2 ≤ 255 ∨ img b (602 + 8 * k) 2 = 65535) ∧ 1 ≤ img b (604 + 8 * k) 1) ∧
      (img b (598 + 8 * k) 1 = 1 → img b (605 + 8 * k) 1 ≤ 3) := by
  simp only [inputOk, Bool.and_eq_true, Bool.or_eq_true, decide_eq_true_eq, ne_eq, kindOf_unused_iff,
    kindOf_button_iff, kindOf_presence_iff, optSceneOk_iff, or_iff_not_imp_left, not_not, and_assoc]
  simp only [inputAt, Nat.add_right_comm 598, Nat.reduceAdd]

theorem groupOk_iff : groupOk b k = true ↔
    img b (662 + 3 * k) 2 ≤ 60000 ∧ (img b (664 + 3 * k) 1 ≤ 63 ∨ img b (664 + 3 * k) 1 = 255) := by
  simp only [groupOk, Bool.and_eq_true, decide_eq_true_eq, optSceneOk_iff]
  simp only [groupAt, Nat.add_right_comm 662, Nat.reduceAdd]

/-- The whole body passes check 3 where each of its parts does. -/
theorem bodyOk_iff_parts : bodyOk b = true ↔
    busOk b = true ∧ clockOk b = true ∧ narrationOk b = true ∧ feederOk b = true ∧ ordersOk b = true ∧
      timingOk b = true ∧ scenesOk b = true ∧ (∀ k < 16, channelOk b k = true) ∧
      (∀ k < 4, tableOk b k = true) ∧ (∀ k < 4, axisOk b k = true) ∧ (∀ k < 8, inputOk b k = true) ∧
      ∀ k < 4, groupOk b k = true := by
  simp only [bodyOk, Bool.and_eq_true, all_sixteen_iff, all_four_iff, all_eight_iff, and_assoc]

end

end Sys2Proof.Machine
end

section
/-! PROOFS. The layout of an image's body and of the directories (R175, R176): which bytes each setting is read
from, and what the checks make sure of. -/

namespace Sys2Proof.Machine

/-! ### Codes -/

theorem bitOf_zero_iff (x : Nat) : bitOf x 0 = true ↔ x % 2 = 1 := by
  rw [bitOf_iff, Nat.pow_zero, Nat.div_one]

theorem ite_none_iff {α : Type} {p : Prop} [Decidable p] (x : α) : (if p then none else some x) = none ↔ p := by
  by_cases h : p <;> simp [h]

theorem optScene_none_iff (x : Nat) : optScene x = none ↔ x = 255 := ite_none_iff _

/-- A scene field within its range holds the scene that it reads as. -/
theorem optScene_some {x : Nat} {n : Fin 64} (hx : x ≤ 63 ∨ x = 255) (h : optScene x = some n) : n.val = x := by
  unfold optScene noneByte at h
  split at h
  · cases h
  · obtain rfl := Option.some.inj h
    exact Nat.mod_eq_of_lt (by omega)

/-- The rate codes (R173). -/
theorem rateOf_code : ∀ p ∈ [(0, Rate.r250), (1, Rate.r500), (2, Rate.r1000)], rateOf p.1 = some p.2 := by
  decide

/-- The codes of the input kinds (R173). -/
theorem kindOf_code : ∀ p ∈ [(0, InputKind.button), (1, InputKind.presence), (2, InputKind.guard),
    (3, InputKind.holdKey), (4, InputKind.unused)], kindOf p.1 = p.2 := by
  decide

section
variable (crc : BitVec 16) (b : List Byte)

/-! ### Each part at its place -/

theorem readBody_windows (k : Fin 8) : (readBody crc b).windows[k] = readWindow b k := by
  fin_cases k <;> rfl

theorem readBody_channels (k : Fin 16) : (readBody crc b).channels[k] = readChannel b k := by
  fin_cases k <;> rfl

theorem readBody_tables (k : Fin 4) : (readBody crc b).tables[k] = readTable b k := by
  fin_cases k <;> rfl

theorem readBody_axes (k : Fin 4) : (readBody crc b).axes[k] = readAxis b k := by
  fin_cases k <;> rfl

theorem readBody_inputs (k : Fin 8) : (readBody crc b).inputs[k] = readInput b k := by
  fin_cases k <;> rfl

theorem readBody_groups (k : Fin 4) : (readBody crc b).groups[k] = readGroup b k := by
  fin_cases k <;> rfl

variable (k : Nat)

theorem readWindow_at : readWindow b k =
    { enabled := bitOf (img b (63 + 4 * k) 1) 7
      origin := if bitOf (img b (63 + 4 * k) 1) 6 then none else some (finMod 31 (img b (63 + 4 * k) 1))
      low := img b (64 + 4 * k) 1
      high := img b (65 + 4 * k) 1
      offset := imgInt b (66 + 4 * k) 1 } := by
  simp only [readWindow, windowAt, Nat.add_right_comm 63, Nat.reduceAdd]
  rfl

theorem readChannel_at : readChannel b k =
    { load := img b (106 + 12 * k) 2
      square := bitOf (img b (108 + 12 * k) 1) 0
      exempt := bitOf (img b (108 + 12 * k) 1) 1
      goTo := bitOf (img b (108 + 12 * k) 1) 2
      initialTable :=
        if bitOf (img b (108 + 12 * k) 1) 3 then some (finMod 3 (img b (108 + 12 * k) 1 / 16)) else none
      holdLevel := img b (109 + 12 * k) 2
      group := if img b (111 + 12 * k) 1 = 255 then none else some (finMod 3 (img b (111 + 12 * k) 1))
      walkLevel := img b (112 + 12 * k) 2
      walkRate := img b (114 + 12 * k) 2
      powerUp := img b (116 + 12 * k) 2 } := by
  simp only [readChannel, channelAt, Nat.add_right_comm 106, Nat.reduceAdd, noneByte]

theorem readTable_at : readTable b k =
    { period := img b (298 + 37 * k) 4
      points := readPoints b (img b (302 + 37 * k) 1) (303 + 37 * k) } := by
  simp only [readTable, tableAt, Nat.add_right_comm 298, Nat.reduceAdd]

theorem readAxis_at : readAxis b k =
    { softMin := imgInt b (446 + 38 * k) 3
      softMax := imgInt b (449 + 38 * k) 3
      homePlus := img b (452 + 38 * k) 1 = 0
      homeOffset := imgInt b (453 + 38 * k) 3
      homeProfile := finMod 3 (img b (456 + 38 * k) 1)
      travelLimit := img b (457 + 38 * k) 3
      profiles := #v[readProfile b (460 + 38 * k), readProfile b (464 + 38 * k), readProfile b (468 + 38 * k),
        readProfile b (472 + 38 * k)]
      reservation := img b (476 + 38 * k) 2
      guardMask := BitVec.ofNat 8 (img b (478 + 38 * k) 1)
      guardDelay := img b (479 + 38 * k) 2
      powerWait := img b (481 + 38 * k) 2
      autoHome := bitOf (img b (483 + 38 * k) 1) 0
      faultHolds := bitOf (img b (483 + 38 * k) 1) 1 } := by
  simp only [readAxis, axisAt, Nat.add_right_comm 446, Nat.reduceAdd]

theorem readInput_at : readInput b k =
    { kind := kindOf (img b (598 + 8 * k) 1)
      activeLow := img b (599 + 8 * k) 1 = 1
      debounce := img b (600 + 8 * k) 1
      localScene := optScene (img b (601 + 8 * k) 1)
      cue := if img b (602 + 8 * k) 2 = 65535 then none else some (BitVec.ofNat 8 (img b (602 + 8 * k) 2))
      stuckLimit := img b (604 + 8 * k) 1
      group := finMod 3 (img b (605 + 8 * k) 1) } := by
  simp only [readInput, inputAt, Nat.add_right_comm 598, Nat.reduceAdd]

theorem readGroup_at : readGroup b k =
    { linger := img b (662 + 3 * k) 2, arrival := optScene (img b (664 + 3 * k) 1) } := by
  simp only [readGroup, groupAt, Nat.add_right_comm 662, Nat.reduceAdd]

/-! ### What each part holds -/

theorem readWindow_reads {w : Window} (hw : w = readWindow b k) :
    (w.enabled = true ↔ img b (63 + 4 * k) 1 / 128 % 2 = 1) ∧
      (w.origin = none ↔ img b (63 + 4 * k) 1 / 64 % 2 = 1) ∧
      (∀ st, w.origin = some st → st.val = img b (63 + 4 * k) 1 % 32) ∧
      w.low = img b (64 + 4 * k) 1 ∧ w.high = img b (65 + 4 * k) 1 ∧ w.offset = imgInt b (66 + 4 * k) 1 := by
  rw [hw, readWindow_at]
  refine ⟨bitOf_iff _ 7, (ite_none_iff _).trans (bitOf_iff _ 6), fun st hst => ?_, rfl, rfl, rfl⟩
  · dsimp only at hst
    split at hst
    · cases hst
    · obtain rfl := Option.some.inj hst
      rfl

theorem readChannel_reads {x : ChannelCfg} (hx : x = readChannel b k) (hok : channelOk b k = true) {mode : Nat}
    (hmode : mode = img b (108 + 12 * k) 1) :
    x.load = img b (106 + 12 * k) 2 ∧
      (x.square = true ↔ mode % 2 = 1) ∧
      (x.exempt = true ↔ mode / 2 % 2 = 1) ∧
      (x.goTo = true ↔ mode / 4 % 2 = 1) ∧
      (x.initialTable = none ↔ mode / 8 % 2 = 0) ∧
      (∀ n, x.initialTable = some n → n.val = mode / 16 % 4) ∧
      x.holdLevel = img b (109 + 12 * k) 2 ∧
      (x.group = none ↔ img b (111 + 12 * k) 1 = 255) ∧
      (∀ g, x.group = some g → g.val = img b (111 + 12 * k) 1) ∧
      x.walkLevel = img b (112 + 12 * k) 2 ∧ x.walkRate = img b (114 + 12 * k) 2 ∧
      x.powerUp = img b (116 + 12 * k) 2 := by
  obtain ⟨-, hgroup, -⟩ := (channelOk_iff b k).1 hok
  rw [hx, readChannel_at, hmode]
  have hcycle : bitOf (img b (108 + 12 * k) 1) 3 = true ↔ img b (108 + 12 * k) 1 / 8 % 2 = 1 := bitOf_iff _ 3
  refine ⟨rfl, bitOf_zero_iff _, bitOf_iff _ 1, bitOf_iff _ 2, ?_, fun n hn => ?_, rfl, ite_none_iff _,
    fun g hg => ?_, rfl, rfl, rfl⟩
  · dsimp only
    split
    · next h => simp [hcycle.1 h]
    · next h =>
      rw [hcycle] at h
      exact iff_of_true rfl (by omega)
  · dsimp only at hn
    split at hn
    · obtain rfl := Option.some.inj hn
      rfl
    · cases hn
  · dsimp only at hg
    split at hg
    · cases hg
    · obtain rfl := Option.some.inj hg
      exact Nat.mod_eq_of_lt (by omega)

theorem readTable_reads {x : CycleTable} (hx : x = readTable b k) :
    x.period = img b (298 + 37 * k) 4 ∧ x.points.length = img b (302 + 37 * k) 1 ∧
      ∀ j p, x.points[j]? = some p →
        p.phase = img b (303 + 37 * k + 4 * j) 2 ∧ p.level = img b (305 + 37 * k + 4 * j) 2 := by
  rw [hx, readTable_at]
  refine ⟨rfl, readPoints_length b _ _, fun j p hp => ?_⟩
  have hlevel : 303 + 37 * k + 4 * j + 2 = 305 + 37 * k + 4 * j := by omega
  rw [readPoints_getElem?, hlevel] at hp
  split at hp
  · obtain rfl := Option.some.inj hp
    exact ⟨rfl, rfl⟩
  · cases hp

/-- The profiles of an axis stand 4 bytes apart. -/
theorem readAxis_profile (j : Fin 4) :
    (readAxis b k).profiles[j] =
      { vmax := img b (460 + 38 * k + 4 * j) 2, accel := img b (462 + 38 * k + 4 * j) 2 } := by
  have hfirst : ∀ n, 460 + n + 38 * k = 460 + 38 * k + n := fun n => by omega
  have hplace : (readAxis b k).profiles[j] = readProfile b (460 + 38 * k + 4 * j) := by
    rw [readAxis_at]
    fin_cases j
    · rfl
    · exact congrArg (readProfile b) (hfirst 4)
    · exact congrArg (readProfile b) (hfirst 8)
    · exact congrArg (readProfile b) (hfirst 12)
  have haccel : 460 + 38 * k + 4 * j.val + 2 = 462 + 38 * k + 4 * j.val := by omega
  rw [hplace, readProfile, haccel]

theorem readAxis_reads {x : AxisCfg} (hx : x = readAxis b k) (hok : axisOk b k = true) :
    x.softMin = imgInt b (446 + 38 * k) 3 ∧ x.softMax = imgInt b (449 + 38 * k) 3 ∧
      (x.homePlus = true ↔ img b (452 + 38 * k) 1 = 0) ∧
      x.homeOffset = imgInt b (453 + 38 * k) 3 ∧ x.homeProfile.val = img b (456 + 38 * k) 1 ∧
      x.travelLimit = img b (457 + 38 * k) 3 ∧
      (∀ j : Fin 4, (x.profiles[j]).vmax = img b (460 + 38 * k + 4 * j) 2 ∧
        (x.profiles[j]).accel = img b (462 + 38 * k + 4 * j) 2) ∧
      x.reservation = img b (476 + 38 * k) 2 ∧
      x.guardMask = BitVec.ofNat 8 (img b (478 + 38 * k) 1) ∧
      x.guardDelay = img b (479 + 38 * k) 2 ∧ x.powerWait = img b (481 + 38 * k) 2 ∧
      (x.autoHome = true ↔ img b (483 + 38 * k) 1 % 2 = 1) ∧
      (x.faultHolds = true ↔ img b (483 + 38 * k) 1 / 2 % 2 = 1) := by
  obtain ⟨-, -, -, -, hprofile, -⟩ := (axisOk_iff b k).1 hok
  subst hx
  have hprofiles : ∀ j : Fin 4, ((readAxis b k).profiles[j]).vmax = img b (460 + 38 * k + 4 * j) 2 ∧
      ((readAxis b k).profiles[j]).accel = img b (462 + 38 * k + 4 * j) 2 := fun j => by
    rw [readAxis_profile]
    exact ⟨rfl, rfl⟩
  refine ⟨?_, ?_, ?_, ?_, ?_, ?_, hprofiles, ?_⟩
  all_goals rw [readAxis_at]
  case refine_3 => exact decide_eq_true_iff
  case refine_5 => exact Nat.mod_eq_of_lt (Nat.lt_succ_of_le hprofile)
  case refine_7 => exact ⟨rfl, rfl, rfl, rfl, bitOf_zero_iff _, bitOf_iff _ 1⟩

theorem readInput_reads {x : InputCfg} (hx : x = readInput b k) (hok : inputOk b k = true) :
    (∀ p ∈ [(0, InputKind.button), (1, InputKind.presence), (2, InputKind.guard),
        (3, InputKind.holdKey), (4, InputKind.unused)],
      img b (598 + 8 * k) 1 = p.1 → x.kind = p.2) ∧
      (x.activeLow = true ↔ img b (599 + 8 * k) 1 = 1) ∧
      x.debounce = img b (600 + 8 * k) 1 ∧ x.stuckLimit = img b (604 + 8 * k) 1 ∧
      (x.kind = .button →
        (x.localScene = none ↔ img b (601 + 8 * k) 1 = 255) ∧
        (∀ n, x.localScene = some n → n.val = img b (601 + 8 * k) 1) ∧
        (x.cue = none ↔ img b (602 + 8 * k) 2 = 65535) ∧
        ∀ n, x.cue = some n → n.toNat = img b (602 + 8 * k) 2) ∧
      (x.kind = .presence → x.group.val = img b (605 + 8 * k) 1) := by
  obtain ⟨-, -, hbutton, hpresence⟩ := (inputOk_iff b k).1 hok
  rw [hx, readInput_at]
  refine ⟨fun p hp hcode => ?_, decide_eq_true_iff, rfl, rfl, fun hkind => ?_, fun hkind => ?_⟩
  · dsimp only
    rw [hcode, kindOf_code p hp]
  · obtain ⟨hscene, hcue, -⟩ := hbutton ((kindOf_button_iff _).1 hkind)
    refine ⟨optScene_none_iff _, fun n => optScene_some hscene, ite_none_iff _, fun n hn => ?_⟩
    dsimp only at hn
    split at hn
    · cases hn
    · obtain rfl := Option.some.inj hn
      rw [BitVec.toNat_ofNat]
      omega
  · exact Nat.mod_eq_of_lt (Nat.lt_succ_of_le (hpresence ((kindOf_presence_iff _).1 hkind)))

theorem readGroup_reads {x : GroupCfg} (hx : x = readGroup b k) (hok : groupOk b k = true) :
    x.linger = img b (662 + 3 * k) 2 ∧
      (x.arrival = none ↔ img b (664 + 3 * k) 1 = 255) ∧
      ∀ n, x.arrival = some n → n.val = img b (664 + 3 * k) 1 := by
  obtain ⟨-, harrival⟩ := (groupOk_iff b k).1 hok
  rw [hx, readGroup_at]
  exact ⟨rfl, optScene_none_iff _, fun n => optScene_some harrival⟩

end

/-! ### Directories (R176) -/

theorem readClip_reads (e : List Byte) :
    ((readClip e).present = true ↔ field e 8 1 % 2 = 1) ∧ ((readClip e).earshot = true ↔ field e 8 1 / 2 % 2 = 1) ∧
      ((readClip e).mustPlay = true ↔ field e 8 1 / 4 % 2 = 1) :=
  ⟨bitOf_zero_iff _, bitOf_iff _ 1, bitOf_iff _ 2⟩

theorem readScene_reads (e : List Byte) :
    ((readScene e).present = true ↔ field e 0 1 % 2 = 1) ∧ ((readScene e).loop = true ↔ field e 0 1 / 2 % 2 = 1) ∧
      (field e 4 1 ≤ 3 → (readScene e).priority.val = field e 4 1) :=
  ⟨bitOf_zero_iff _, bitOf_iff _ 1, fun h => Nat.mod_eq_of_lt (Nat.lt_succ_of_le h)⟩

/-- The entries of a directory stand 11 bytes apart. -/
theorem entriesOf_getElem? : ∀ (n k : Nat) (data : List Byte),
    (entriesOf n data)[k]? = if k < n then some ((data.drop (11 * k)).take 11) else none
  | 0, _, _ => rfl
  | n + 1, 0, data => rfl
  | n + 1, k + 1, data => by
    rw [entriesOf, List.getElem?_cons_succ, entriesOf_getElem? n k, List.drop_drop]
    simp only [Nat.add_lt_add_iff_right, Nat.mul_add_one, Nat.add_comm]

theorem clipOk_iff (e : ClipEntry) : clipOk e = true ↔ e.gain ≤ 256 ∧ e.quietLimit ≤ 60000 := by
  simp [clipOk]

theorem sceneOk_iff (e : List Byte) : sceneOk e = true ↔
    field e 5 1 < 64 ∧ (field e 0 1 % 2 = 1 → field e 4 1 ≤ 3 ∧ 1 ≤ field e 10 1 ∧ field e 10 1 ≤ 64) := by
  simp only [sceneOk, Bool.and_eq_true, Bool.or_eq_true, Bool.not_eq_true', ← Bool.not_eq_true, bitOf_zero_iff,
    within_iff, decide_eq_true_eq, or_iff_not_imp_left, not_not]

end Sys2Proof.Machine
end

section
/-! PROOFS. What an accepted image makes of the inputs, the lights and the axes, and what it leaves of the air and
of the Peer Table (R41, R48, R114, R115, R147, R148, R155, R156). -/

namespace Sys2Proof.Machine

section
variable {s t u : State}

/-! ### Stale entries leave the Peer Table (R39, R41) -/

/-- From `s` to `t` only the voices, the bus and the signals changed, and of the bus not its rate. -/
def AirOnly (s t : State) : Prop :=
  ∃ n b g, b.rate = s.bus.rate ∧ b.rateState = s.bus.rateState ∧ t = { s with nre := n, bus := b, agenda := g }

theorem AirOnly.refl (s : State) : AirOnly s s := ⟨s.nre, s.bus, s.agenda, rfl, rfl, rfl⟩

theorem AirOnly.trans (h : AirOnly s t) (g : AirOnly t u) : AirOnly s u := by
  obtain ⟨_, _, _, hrate, hstate, rfl⟩ := h
  obtain ⟨n, b, l, hrate', hstate', rfl⟩ := g
  exact ⟨n, b, l, hrate'.trans hrate, hstate'.trans hstate, rfl⟩

theorem State.setVoice_airOnly (s : State) (v : Voice) (x : VoiceRec) : AirOnly s (s.setVoice v x) := by
  cases v
  · exact ⟨_, _, _, rfl, rfl, rfl⟩
  · exact ⟨_, _, _, rfl, rfl, rfl⟩

/-- A TALK that finds no room is no fault (R21). -/
theorem State.enqueueTalk_airOnly (s : State) (v : Voice) (n : Fin 256) (id : Nat) :
    AirOnly s (s.enqueue (.talk v n id) .nre) := by
  unfold State.enqueue
  split
  · exact ⟨s.nre, s.bus.place (.talk v n id) .nre, s.agenda, rfl, rfl, rfl⟩
  · exact .refl s

theorem State.judgeAir_airOnly (s : State) (v : Voice) : AirOnly s (s.judgeAir v) := by
  unfold State.judgeAir
  dsimp only
  repeat' split
  · exact .refl s
  · exact (s.setVoice_airOnly v _).trans (State.enqueueTalk_airOnly _ _ _ _)
  · exact s.setVoice_airOnly v _
  · exact .refl s

theorem State.airPresented_airOnly (s : State) (v : Voice) (talk : Bool) : AirOnly s (s.airPresented v talk) := by
  unfold State.airPresented
  dsimp only
  split
  · rw [State.backOff_eq]
    exact (s.setVoice_airOnly v _).trans (State.judgeAir_airOnly _ v)
  · exact s.judgeAir_airOnly v

theorem State.presentGone_airOnly (s : State) (st : Fin 32) : AirOnly s (s.presentGone st) := by
  have hpost : ∀ t : State, AirOnly t (t.post [.peerSeen st]) := fun t => ⟨_, _, _, rfl, rfl, rfl⟩
  refine AirOnly.trans ?_ (hpost _)
  unfold State.presentAir
  split
  · exact (s.airPresented_airOnly .a false).trans (State.airPresented_airOnly _ .b false)
  · exact .refl s

/-- Beside the entries that leave, the air alone is judged anew. -/
theorem State.dropStale_airOnly (s : State) :
    AirOnly { s with ptb := s.ptb.filter fun e => e.fresh || inSet s.feeder e.station.val } s.dropStale :=
  forEach_induct (P := AirOnly _) (fun e u hu => hu.trans (u.presentGone_airOnly e.station)) _ _ (.refl _)

/-! ### Inputs (R48) -/

/-- An input whose kind, polarity and debounce time stay goes on. -/
theorem InputRec.accept_same {x : InputRec} {old : Option InputCfg} {new : InputCfg}
    (h : ∃ o, old = some o ∧ o.kind = new.kind ∧ o.activeLow = new.activeLow ∧ o.debounce = new.debounce) :
    x.accept old new = x := by
  obtain ⟨o, rfl, hkind, hlow, hdebounce⟩ := h
  simp [InputRec.accept, hkind, hlow, hdebounce]

/-- Any other input starts anew. -/
theorem InputRec.accept_anew {x : InputRec} {old : Option InputCfg} {new : InputCfg}
    (h : ∀ o, old = some o → o.kind ≠ new.kind ∨ o.activeLow ≠ new.activeLow ∨ o.debounce ≠ new.debounce) :
    x.accept old new = { x with level := false, stability := 0 } := by
  cases old with
  | none => rfl
  | some o =>
    refine if_neg fun hsame => ?_
    simp only [Bool.and_eq_true, decide_eq_true_eq] at hsame
    obtain ⟨⟨hkind, hlow⟩, hdebounce⟩ := hsame
    rcases h o rfl with hne | hne | hne
    · exact hne hkind
    · exact hne hlow
    · exact hne hdebounce

theorem mem_allInputs (i : Fin 8) : i ∈ allInputs := by revert i; decide

theorem State.input_onInput_ne (s : State) {i j : Fin 8} (f : InputRec → InputRec) (h : j ≠ i) :
    (s.onInput i f).viu.inputs[j] = s.viu.inputs[j] := by
  have hne : (i : Nat) ≠ j := fun e => h (Fin.ext e.symm)
  simp [State.onInput, hne]

/-- Each input takes its own new settings, and the inputs alone are written. -/
theorem State.inputsAccept_eq (s : State) (old : Option Config) (c : Config) : ∃ v : Viu,
    s.inputsAccept old c = { s with viu := v } ∧
      ∀ i : Fin 8, v.inputs[i] = (s.viu.inputs[i]).accept (old.map fun o => o.inputs[i]) c.inputs[i] := by
  obtain ⟨v, hv⟩ : ∃ v, s.inputsAccept old c = { s with viu := v } :=
    forEach_induct (P := fun u => ∃ v, u = { s with viu := v })
      (fun i u ⟨v, hu⟩ => by rw [hu]; exact ⟨_, rfl⟩) _ s ⟨s.viu, rfl⟩
  refine ⟨v, hv, fun i => ?_⟩
  have hread := forEach_reads (read := fun u (i : Fin 8) => u.viu.inputs[i])
    (f := fun i u => u.onInput i fun x => x.accept (old.map fun o => o.inputs[i]) c.inputs[i])
    (g := fun i x => x.accept (old.map fun o => o.inputs[i]) c.inputs[i])
    (fun i u => by simp [State.onInput]) (fun i j u hne => u.input_onInput_ne _ hne) (xs := allInputs)
    (by decide) s i
  rw [if_pos (mem_allInputs i)] at hread
  rw [← hread]
  exact congrArg (fun u : State => u.viu.inputs[i]) hv.symm

/-! ### Lights (R114, R115) -/

/-- The course that an acceptance gives a channel of value `v`, over `d` frames. -/
def openingCourse (c : ChannelCfg) (v d : Nat) : Course :=
  match c.initialTable with
  | none => .fade v c.powerUp 0 d
  | some table => if d = 0 then .cycle table else .blend table v 0 d

theorem Channel.first_course (x : Channel) (c : ChannelCfg) : (x.first c).course = openingCourse c x.v 0 := by
  unfold Channel.first openingCourse
  cases c.initialTable <;> rfl

theorem Channel.newOverride_v (x : Channel) (wasGoTo : Bool) (c : ChannelCfg) (h : Nat) (hold : Bool) :
    (x.newOverride wasGoTo c h hold).v = x.v := by
  unfold Channel.newOverride
  repeat' split
  all_goals rfl

theorem Channel.restartFade_course (x : Channel) (c : ChannelCfg) (d : Nat) :
    (x.restartFade c d).course = openingCourse c x.v d := by
  unfold Channel.restartFade openingCourse
  cases c.initialTable <;> rfl

/-- What hold latches is not the course. -/
theorem Channel.latchNew_course (x : Channel) (tables : Vector CycleTable 4) (now : ShowTime) (hold : Bool) :
    (x.latchNew tables now hold).course = x.course := by
  unfold Channel.latchNew
  repeat' split
  all_goals rfl

theorem Channel.reloaded_course (x : Channel) (wasGoTo : Bool) (c : ChannelCfg) (cfg : Config)
    (now : ShowTime) (hold : Bool) :
    (x.reloaded wasGoTo c cfg now hold).course = openingCourse c x.v cfg.restartFade := by
  rw [Channel.reloaded, Channel.latchNew_course, Channel.restartFade_course, Channel.newOverride_v]

/-- Each channel begins its initial or its restart course, and the lights alone are written. -/
theorem State.lightsAccept_eq (s : State) (old : Option Config) (c : Config) : ∃ l : Lte,
    s.lightsAccept old c = { s with lte := l } ∧
      ∀ k : Fin 16, (l.channels[k]).course =
        openingCourse c.channels[k] (s.channel k).v (if s.sul.restarting then c.restartFade else 0) := by
  unfold State.lightsAccept
  split
  · refine ⟨_, rfl, fun k => ?_⟩
    dsimp only
    rw [vmap2_getElem, Channel.reloaded_course, vmap2_getElem]
    rfl
  · refine ⟨_, rfl, fun k => ?_⟩
    dsimp only
    rw [vmap2_getElem, Channel.first_course]
    rfl

/-! ### Axes (R147, R148, R155, R156) -/

/-- From `s` to `t` only axes, the admission line, the ledger and the signals changed, and no reservation was
made. -/
def AxesOnly (s t : State) : Prop :=
  ∃ m l r g, (∀ x ∈ r, x ∈ s.lgv.ledger) ∧
    t = { s with mte := m, lgv := { s.lgv with line := l, ledger := r }, agenda := g }

theorem AxesOnly.refl (s : State) : AxesOnly s s := ⟨s.mte, s.lgv.line, s.lgv.ledger, s.agenda, fun _ => id, rfl⟩

theorem AxesOnly.trans (h : AxesOnly s t) (g : AxesOnly t u) : AxesOnly s u := by
  obtain ⟨_, _, _, _, hledger, rfl⟩ := h
  obtain ⟨m, l, r, g, hledger', rfl⟩ := g
  exact ⟨m, l, r, g, fun x hx => hledger x (hledger' x hx), rfl⟩

/-- The inputs stand, and the settings by which they name a guard. -/
theorem AxesOnly.guardActive (h : AxesOnly s t) (mask : BitVec 8) : t.guardActive mask = s.guardActive mask := by
  obtain ⟨_, _, _, _, -, rfl⟩ := h
  rfl

theorem AxesOnly.no_reservation {a : Fin 4} (h : AxesOnly s t) (hs : ∀ r ∈ s.lgv.ledger, r.axis ≠ a) :
    ∀ r ∈ t.lgv.ledger, r.axis ≠ a := by
  obtain ⟨_, _, _, _, hledger, rfl⟩ := h
  exact fun r hr => hs r (hledger r hr)

variable (s) (a : Fin 4)

theorem State.setAxis_axesOnly (x : Axis) : AxesOnly s (s.setAxis a x) :=
  ⟨_, _, _, _, fun _ => id, rfl⟩

theorem State.putAxis_axesOnly (x : Axis) : AxesOnly s (s.putAxis a x) := by
  rw [State.putAxis_eq]
  exact ⟨_, _, _, _, fun _ => id, rfl⟩

theorem State.joinLine_axesOnly (m : Move) : AxesOnly s (s.joinLine a m) := by
  obtain ⟨l, hjoin⟩ := s.joinLine_eq a m
  rw [hjoin]
  exact ⟨_, _, _, _, fun _ => id, rfl⟩

theorem State.leaveLine_axesOnly : AxesOnly s (s.leaveLine a) := by
  unfold State.leaveLine
  split
  · exact ⟨_, _, _, _, fun _ => id, rfl⟩
  · exact .refl s

theorem State.releaseReservation_axesOnly : AxesOnly s (s.releaseReservation a) := by
  unfold State.releaseReservation
  split
  · exact ⟨_, _, _, _, fun _ hx => List.mem_of_mem_filter hx, rfl⟩
  · exact .refl s

/-- A released reservation is out of the ledger; the line and the axes stand. -/
theorem State.releaseReservation_eq :
    (s.releaseReservation a).mte = s.mte ∧ (s.releaseReservation a).lgv.line = s.lgv.line ∧
      ∀ r ∈ (s.releaseReservation a).lgv.ledger, r.axis ≠ a := by
  unfold State.releaseReservation
  split
  · refine ⟨rfl, rfl, fun r hr => ?_⟩
    exact of_decide_eq_true (List.mem_filter.1 hr).2
  · next hno => exact ⟨rfl, rfl, by simpa using hno⟩

/-- An axis resumes with the move that it holds, or stands (R156). -/
theorem State.resume_cases :
    s.resume a = s ∨
      (s.axis a).state = .held ∧ ∃ m, (s.axis a).move = some m ∧ s.resume a = s.joinLine a m := by
  unfold State.resume
  dsimp only
  split
  · next hheld =>
    simp only [Bool.and_eq_true, decide_eq_true_eq] at hheld
    split
    · next m hm => exact .inr ⟨hheld.1.1, m, hm, rfl⟩
    · exact .inl rfl
  · exact .inl rfl

/-- A resumed axis keeps its place and its move. -/
theorem State.resume_axis :
    ((s.resume a).axis a).enable = (s.axis a).enable ∧ ((s.resume a).axis a).p = (s.axis a).p ∧
      ((s.resume a).axis a).homed = (s.axis a).homed ∧ ((s.resume a).axis a).move = (s.axis a).move ∧
      ((s.resume a).axis a).guardClear = (s.axis a).guardClear ∧
      ((s.axis a).state ≠ .held → ((s.resume a).axis a).state = (s.axis a).state) := by
  rcases s.resume_cases a with h | ⟨hheld, m, hm, h⟩
  · rw [h]
    exact ⟨rfl, rfl, rfl, rfl, rfl, fun _ => rfl⟩
  · rw [h, State.axis_joinLine_self]
    exact ⟨rfl, rfl, rfl, hm.symm, rfl, fun hne => absurd hheld hne⟩

theorem State.resume_axesOnly : AxesOnly s (s.resume a) := by
  rcases s.resume_cases a with h | ⟨-, m, -, h⟩
  · rw [h]
    exact .refl s
  · rw [h]
    exact s.joinLine_axesOnly a m

variable (first : Bool) (c : Config)

/-- A record under new settings: its driver enabled, its guard judged anew (R148, R155). -/
def Axis.underSettings (x : Axis) (k : AxisCfg) (active first : Bool) : Axis :=
  { x.newGuard k active first with enable := true }

/-- The axis `a` with its record under the new settings. -/
def State.underSettings : State :=
  s.setAxis a ((s.axis a).underSettings c.axes[a] (s.guardActive (c.axes[a]).guardMask) first)

/-- The axis `a` at rest where it stands and unhomed, out of the line and without a reservation (R147). -/
def State.unhome : State :=
  ((s.putAxis a { (s.axis a).atRest .unhomed none with homed := false }).leaveLine a).releaseReservation a

/-- A homed axis outside its soft limits (R147). -/
abbrev OutOfLimits (k : AxisCfg) (x : Axis) : Prop :=
  x.homed = true ∧ (x.p < k.softMin * 256 ∨ k.softMax * 256 < x.p)

theorem State.axisAccept_eq :
    State.axisAccept first c a s =
      if OutOfLimits c.axes[a] (s.axis a) then (s.underSettings a first c).unhome a
      else (s.underSettings a first c).resume a := by
  have hrecord : (s.underSettings a first c).axis a =
      (s.axis a).underSettings c.axes[a] (s.guardActive (c.axes[a]).guardMask) first :=
    State.axis_setAxis_self s a _
  have htest : ((((s.underSettings a first c).axis a).homed &&
      (decide (((s.underSettings a first c).axis a).p < (c.axes[a]).softMin * 256) ||
        decide ((c.axes[a]).softMax * 256 < ((s.underSettings a first c).axis a).p))) = true) =
      OutOfLimits c.axes[a] (s.axis a) := by
    rw [hrecord, Bool.and_eq_true, Bool.or_eq_true, decide_eq_true_iff, decide_eq_true_iff]
    rfl
  simp only [← htest]
  rfl

theorem State.unhome_axesOnly : AxesOnly s (s.unhome a) :=
  ((State.putAxis_axesOnly _ a _).trans (State.leaveLine_axesOnly _ a)).trans
    (State.releaseReservation_axesOnly _ a)

theorem State.axisAccept_axesOnly : AxesOnly s (State.axisAccept first c a s) := by
  have hset : AxesOnly s (s.underSettings a first c) := s.setAxis_axesOnly a _
  rw [State.axisAccept_eq]
  split
  · exact hset.trans (State.unhome_axesOnly _ a)
  · exact hset.trans (State.resume_axesOnly _ a)

variable {s a first c}

theorem State.leaveLine_same {b : Fin 4} (h : a ≠ b) : SameFor a s (s.leaveLine b) := by
  unfold State.leaveLine
  split
  · exact ⟨rfl, rfl, rfl, rfl, by simp [h]⟩
  · exact .refl a s

theorem State.releaseReservation_same {b : Fin 4} : SameFor a s (s.releaseReservation b) := by
  unfold State.releaseReservation
  split
  · exact ⟨rfl, rfl, rfl, rfl, Iff.rfl⟩
  · exact .refl a s

theorem State.axisAccept_same {b : Fin 4} (h : a ≠ b) : SameFor a s (State.axisAccept first c b s) := by
  have hset : SameFor a s (s.underSettings b first c) := ⟨rfl, rfl, rfl, State.axis_setAxis_ne s _ h, Iff.rfl⟩
  rw [State.axisAccept_eq]
  split
  · exact hset.trans (((State.putAxis_same _ h).trans (State.leaveLine_same h)).trans
      State.releaseReservation_same)
  · exact hset.trans (State.resume_same h)

/-- What an acceptance makes of axis `a`, found as `x`, in `t`: its driver is enabled, outside its new limits it
is unhomed, and its guard is judged by the new settings (log entry 43). -/
structure AxisTook (first : Bool) (k : AxisCfg) (a : Fin 4) (x : Axis) (t : State) : Prop where
  enable : (t.axis a).enable = true
  place : (t.axis a).p = x.p
  outside : x.p < k.softMin * 256 ∨ k.softMax * 256 < x.p → x.homed = true →
    (t.axis a).state = .unhomed ∧ (t.axis a).homed = false ∧ (t.axis a).move = none ∧
      a ∉ t.lgv.line ∧ ∀ r ∈ t.lgv.ledger, r.axis ≠ a
  inside : k.softMin * 256 ≤ x.p → x.p ≤ k.softMax * 256 →
    (t.axis a).homed = x.homed ∧ (t.axis a).move = x.move ∧ (x.state ≠ .held → (t.axis a).state = x.state)
  guardFirst : first = true → (t.axis a).guardClear = false
  guard : first = false → ((t.axis a).guardClear = true ↔
    k.guardMask = 0#8 ∨ (t.guardActive k.guardMask = false ∧ k.guardDelay ≤ x.guardTimer))

theorem AxisTook.of_same {k : AxisCfg} {x : Axis} (h : AxisTook first k a x t) (hsame : SameFor a t u)
    (honly : AxesOnly t u) : AxisTook first k a x u where
  enable := by rw [hsame.axis]; exact h.enable
  place := by rw [hsame.axis]; exact h.place
  outside hout hhomed := by
    obtain ⟨hstate, hclear, hmove, hline, hledger⟩ := h.outside hout hhomed
    rw [hsame.axis, hsame.line]
    exact ⟨hstate, hclear, hmove, hline, honly.no_reservation hledger⟩
  inside := by rw [hsame.axis]; exact h.inside
  guardFirst := by rw [hsame.axis]; exact h.guardFirst
  guard := by rw [hsame.axis, honly.guardActive]; exact h.guard

/-- The guard of an axis under new settings (R155, log entry 43). -/
theorem Axis.newGuard_clear (x : Axis) (k : AxisCfg) (active : Bool) :
    (x.newGuard k active true).guardClear = false ∧
      ((x.newGuard k active false).guardClear = true ↔
        k.guardMask = 0#8 ∨ (active = false ∧ k.guardDelay ≤ x.guardTimer)) :=
  ⟨rfl, by simp [Axis.newGuard]⟩

section
variable {k : AxisCfg} {x : Axis}
  (hrecord : s.axis a = x.underSettings k (s.guardActive k.guardMask) first)
include hrecord

/-- A homed axis outside its new limits. -/
theorem State.unhome_took (hout : OutOfLimits k x) : AxisTook first k a x (s.unhome a) := by
  obtain ⟨hmte, hline, hledger⟩ :=
    ((s.putAxis a { (s.axis a).atRest .unhomed none with homed := false }).leaveLine a).releaseReservation_eq a
  have haxis : (s.unhome a).axis a =
      { (x.underSettings k (s.guardActive k.guardMask) first).atRest .unhomed none with homed := false } := by
    rw [← hrecord, State.axis, State.unhome, hmte]
    exact (State.axis_leaveLine _ a a).trans (s.axis_putAxis_self a _)
  have hleft : a ∉ (s.unhome a).lgv.line := by
    rw [State.unhome, hline]
    exact State.not_mem_leaveLine _ a
  obtain ⟨hfirst, hclear⟩ := x.newGuard_clear k (s.guardActive k.guardMask)
  refine ⟨by rw [haxis]; rfl, by rw [haxis]; rfl, fun _ _ => ?_, fun hmin hmax => ?_, fun h => ?_, fun h => ?_⟩
  · rw [haxis]
    exact ⟨rfl, rfl, rfl, hleft, hledger⟩
  · exact (hout.2.elim hmin.not_gt hmax.not_gt).elim
  · subst h
    rw [haxis]
    exact hfirst
  · subst h
    rw [haxis, (s.unhome_axesOnly a).guardActive]
    exact hclear

/-- An axis within its new limits, or not homed: it stands, or resumes from HELD with its move. -/
theorem State.resume_took (hin : ¬ OutOfLimits k x) : AxisTook first k a x (s.resume a) := by
  obtain ⟨hfirst, hclear⟩ := x.newGuard_clear k (s.guardActive k.guardMask)
  obtain ⟨henable, hplace, hhomed, hmove, hguard, hstate⟩ := s.resume_axis a
  rw [hrecord] at henable hplace hhomed hmove hguard hstate
  refine ⟨henable, hplace, fun hout hh => (hin ⟨hh, hout⟩).elim, fun _ _ => ⟨hhomed, hmove, hstate⟩,
    fun h => ?_, fun h => ?_⟩
  · subst h
    rw [hguard]
    exact hfirst
  · subst h
    rw [hguard, (s.resume_axesOnly a).guardActive]
    exact hclear

end

/-- The turn of an axis at an acceptance. -/
theorem State.axisAccept_took : AxisTook first c.axes[a] a (s.axis a) (State.axisAccept first c a s) := by
  have hrecord : (s.underSettings a first c).axis a =
      (s.axis a).underSettings c.axes[a] ((s.underSettings a first c).guardActive (c.axes[a]).guardMask) first :=
    State.axis_setAxis_self s a _
  rw [State.axisAccept_eq]
  split
  · exact State.unhome_took hrecord ‹_›
  · exact State.resume_took hrecord ‹_›

/-- Rounds over other places than `a` keep what each of them keeps. -/
theorem forEach_others {α : Type} {R : State → State → Prop} {f : α → State → State} {x : α}
    (hrefl : ∀ s, R s s) (htrans : ∀ s t u, R s t → R t u → R s u) (hf : ∀ y s, x ≠ y → R s (f y s)) :
    ∀ {xs : List α} (s : State), x ∉ xs → R s (forEach xs f s)
  | [], s, _ => hrefl s
  | y :: xs, s, h => by
    obtain ⟨hy, hxs⟩ : x ≠ y ∧ x ∉ xs := by simpa using h
    exact htrans _ _ _ (hf y s hy) (forEach_others hrefl htrans hf _ hxs)

/-- The turn of axis `a` in a round over the axes, between what the others' turns keep. -/
theorem forEach_axes_turn {R : State → State → Prop} {f : Fin 4 → State → State}
    (hrefl : ∀ s, R s s) (htrans : ∀ s t u, R s t → R t u → R s u) (hf : ∀ b s, a ≠ b → R s (f b s))
    (s : State) : ∃ t, R s t ∧ R (f a t) (forEach allAxes f s) := by
  obtain ⟨before, after, hsplit⟩ := List.append_of_mem (mem_allAxes a)
  have hnodup : (a :: (before ++ after)).Nodup := by
    rw [← List.nodup_middle, ← hsplit]
    exact nodup_allAxes
  obtain ⟨hbefore, hafter⟩ : a ∉ before ∧ a ∉ after := by simpa using (List.nodup_cons.1 hnodup).1
  rw [hsplit, forEach_append_cons]
  exact ⟨_, forEach_others hrefl htrans hf s hbefore, forEach_others hrefl htrans hf _ hafter⟩

/-- All axes take the settings; nothing but axes, line, ledger and signals is written. -/
theorem State.axesAccept (s : State) (first : Bool) (c : Config) :
    AxesOnly s (forEach allAxes (fun a s => s.axisAccept first c a) s) ∧
      ∀ a, AxisTook first c.axes[a] a (s.axis a) (forEach allAxes (fun a s => s.axisAccept first c a) s) := by
  refine ⟨forEach_induct (P := AxesOnly s) (fun a u hu => hu.trans (u.axisAccept_axesOnly a first c)) _ _ (.refl s),
    fun a => ?_⟩
  obtain ⟨t, ⟨hsame, -⟩, hafter, honly⟩ := forEach_axes_turn (a := a)
    (R := fun s t => SameFor a s t ∧ AxesOnly s t) (f := fun a s => s.axisAccept first c a)
    (fun s => ⟨.refl a s, .refl s⟩) (fun _ _ _ h g => ⟨h.1.trans g.1, h.2.trans g.2⟩)
    (fun b s hne => ⟨State.axisAccept_same hne, s.axisAccept_axesOnly b first c⟩) s
  have hturn := State.axisAccept_took (s := t) (a := a) (first := first) (c := c)
  rw [hsame.axis] at hturn
  exact hturn.of_same hafter honly

end

end Sys2Proof.Machine
end

section
/-! PROOFS. An image is accepted (R169): every block takes its settings, and the station goes on to JOINING or
LEARNING (R27, R34, R118, R170). -/

namespace Sys2Proof.Machine

section
variable {s t u : State} {c : Config}

/-! ### Every block takes its settings -/

/-- What an axis took is read from the axes, the line, the ledger, the settings and the inputs. -/
theorem AxisTook.of_eq {first : Bool} {k : AxisCfg} {a : Fin 4} {x : Axis} (h : AxisTook first k a x t)
    (hmte : u.mte = t.mte) (hline : u.lgv.line = t.lgv.line) (hledger : u.lgv.ledger = t.lgv.ledger)
    (hcfg : u.cfg = t.cfg) (hviu : u.viu = t.viu) : AxisTook first k a x u := by
  have haxis : u.axis a = t.axis a := by rw [State.axis, hmte, State.axis]
  have hactive : u.guardActive k.guardMask = t.guardActive k.guardMask := by
    simp only [State.guardActive, State.inputKind, State.inputCfg, hcfg, hviu]
    rfl
  obtain ⟨henable, hplace, hout, hin, hfirst, hguard⟩ := h
  rw [← haxis] at henable hplace hout hin hfirst hguard
  rw [← hactive] at hguard
  rw [← hline, ← hledger] at hout
  exact ⟨henable, hplace, hout, hin, hfirst, hguard⟩

/-- What an acceptance of `c` in `s` leaves in every block but the bus and the station's own record (R6, R41, R48,
R114, R115, R117, R147, R148, R155, R160). -/
structure TookSettings (s : State) (c : Config) (t : State) : Prop where
  cfg : t.cfg = some c
  clk : t.clk = s.clk
  peers : t.ptb = s.ptb.filter fun e => e.fresh || c.feeder.getLsbD e.station.val
  localHold : t.hld.localHold = (t.keyHold || t.hld.orderHold || t.showHold)
  inputs : ∀ i : Fin 8,
    t.viu.inputs[i] = (s.viu.inputs[i]).accept (s.cfg.map fun o => o.inputs[i]) c.inputs[i]
  courses : ∀ k : Fin 16, (t.channel k).course =
    openingCourse c.channels[k] (s.channel k).v (if s.sul.restarting then c.restartFade else 0)
  axes : ∀ a : Fin 4, AxisTook s.cfg.isNone c.axes[a] a (s.axis a) t
  exempt : t.lgv.exempt = s.lgv.exempt
  demand : t.lgv.demand = s.lgv.demand
  lamps : t.lgv.lamps = s.lgv.lamps
  scale : t.lgv.scale = s.lgv.scale

/-- What comes after the settings are taken writes none of what they are read from. -/
theorem TookSettings.after (h : TookSettings s c t) (r : Sul) (b : Bus) (x y : Nat) (g : List Signal) :
    TookSettings s c
      { t with sul := r, bus := b, lgv := { t.lgv with allowance := x, granted := y }, agenda := g } :=
  { h with axes := fun a => (h.axes a).of_eq rfl rfl rfl rfl rfl }

/-- Under settings in force local hold is what its sources give (R160). -/
theorem State.syncLocalHold_brings (hc : s.cfg = some c) : ∃ b : Bus,
    b.rate = s.bus.rate ∧ b.rateState = s.bus.rateState ∧
      s.syncLocalHold =
        { s with
          hld := { s.hld with localHold := s.keyHold || s.hld.orderHold || s.showHold }, bus := b } := by
  have hsources : s.localSources = (s.keyHold || s.hld.orderHold || s.showHold) := by
    rw [State.localSources, State.configured, hc]
    rfl
  by_cases h : s.localSources = s.hld.localHold
  · refine ⟨s.bus, rfl, rfl, ?_⟩
    rw [State.syncLocalHold, if_pos h, ← hsources, h]
  · refine ⟨s.bus.raiseEarly, by rw [Bus.raiseEarly_eq], by rw [Bus.raiseEarly_eq], ?_⟩
    rw [State.syncLocalHold, if_neg h, hsources]
    rfl

/-- Peers, inputs, channels and the allowance have taken the settings; the axes and local hold have not. -/
def State.takesFirst (s : State) (c : Config) : State :=
  ((({ s with cfg := some c } : State).dropStale.inputsAccept s.cfg c).lightsAccept s.cfg c).onLgv
    fun l => { l with allowance := c.floor }

/-- The settings taken by every block, the station state and the rate still to come. -/
def State.takesSettings (s : State) (c : Config) : State :=
  (((forEach allAxes (fun a u => u.axisAccept s.cfg.isNone c a) (s.takesFirst c)).post
    [.examine]).syncLocalHold).onSul fun u => { u with restarting := false, phase := .idle }

theorem State.accept_eq (s : State) (c : Config) :
    s.accept c = (s.takesSettings c).afterAccept s.sul.restarting c := rfl

theorem State.takesFirst_eq (s : State) (c : Config) : ∃ n b g v l,
    s.takesFirst c =
      { s with
        cfg := some c, ptb := s.ptb.filter fun e => e.fresh || c.feeder.getLsbD e.station.val
        nre := n, bus := b, viu := v, lte := l, lgv := { s.lgv with allowance := c.floor }, agenda := g } ∧
      b.rate = s.bus.rate ∧ b.rateState = s.bus.rateState ∧
      (∀ i : Fin 8,
        v.inputs[i] = (s.viu.inputs[i]).accept (s.cfg.map fun o => o.inputs[i]) c.inputs[i]) ∧
      ∀ k : Fin 16, (l.channels[k]).course =
        openingCourse c.channels[k] (s.channel k).v (if s.sul.restarting then c.restartFade else 0) := by
  obtain ⟨n, b, g, hrate, hstate, hdrop⟩ := ({ s with cfg := some c } : State).dropStale_airOnly
  obtain ⟨v, hinputs, hinput⟩ := ({ s with cfg := some c } : State).dropStale.inputsAccept_eq s.cfg c
  obtain ⟨l, hlights, hcourse⟩ :=
    (({ s with cfg := some c } : State).dropStale.inputsAccept s.cfg c).lightsAccept_eq s.cfg c
  rw [hinputs, hdrop] at hcourse
  rw [hdrop] at hinput
  refine ⟨n, b, g, v, l, ?_, hrate, hstate, hinput, hcourse⟩
  rw [State.takesFirst, hlights, hinputs, hdrop]
  rfl

/-- The blocks one after another; local hold last, by the keys and the marks as they then stand. -/
theorem State.takesSettings_took (s : State) (c : Config) :
    TookSettings s c (s.takesSettings c) ∧ (s.takesSettings c).lgv.allowance = c.floor ∧
      (s.takesSettings c).bus.rate = s.bus.rate ∧ (s.takesSettings c).bus.rateState = s.bus.rateState ∧
      (s.takesSettings c).sul = { s.sul with restarting := false, phase := .idle } := by
  obtain ⟨n, b, g, v, l, hfirst, hrate, hstate, hinput, hcourse⟩ := s.takesFirst_eq c
  obtain ⟨⟨m, line, ledger, g', -, haxes⟩, htook⟩ := State.axesAccept (s.takesFirst c) s.cfg.isNone c
  rw [haxes, hfirst] at htook
  obtain ⟨b', hrate', hstate', hhold⟩ := State.syncLocalHold_brings (c := c)
    (s := (forEach allAxes (fun a u => u.axisAccept s.cfg.isNone c a) (s.takesFirst c)).post [.examine])
    (by rw [haxes, hfirst]; rfl)
  rw [haxes, hfirst] at hhold hrate' hstate'
  rw [State.takesSettings, haxes, hfirst, hhold]
  exact ⟨⟨rfl, rfl, rfl, rfl, hinput, hcourse, fun a => (htook a).of_eq rfl rfl rfl rfl rfl, rfl, rfl, rfl, rfl⟩,
    rfl, hrate'.trans hrate, hstate'.trans hstate, rfl⟩

/-! ### The station after an acceptance (R27, R34, R118, R170) -/

theorem Bus.raiseRegular_eq (b : Bus) : ∃ n,
    b.raiseRegular = { b with request := some n, deferred := false, markedInFlight := false } := by
  unfold Bus.raiseRegular Bus.raise
  cases h : b.request with
  | none => exact ⟨0, rfl⟩
  | some n => exact ⟨n, by simp only [← h]⟩

/-- The recompute under settings in force (R118). -/
theorem State.recompute_eq (hc : s.cfg = some c) :
    s.recompute =
      { s with
        lgv := { s.lgv with allowance := recomputed c s.peerLoad s.lgv.compose, granted := s.lgv.compose }
        agenda := .examine :: s.agenda } := by
  unfold State.recompute
  split
  case h_1 d hd =>
    obtain rfl := Option.some.inj (hd.symm.trans hc)
    rfl
  case h_2 hd => exact absurd (hd.symm.trans hc) (by simp)

/-- Entry to JOINING brings a regular boundary, with a recompute, at that instant (log entry 28). -/
theorem State.enterJoining_eq (hc : s.cfg = some c) : ∃ n,
    s.enterJoining =
      { s with
        sul := { s.sul with station := .joining, joinTimer := 0 }
        bus := { s.bus with period := some 0, request := some n, deferred := false, markedInFlight := false }
        lgv := { s.lgv with
          allowance := recomputed c s.peerLoad s.lgv.compose, granted := s.lgv.compose }
        agenda := .examine :: s.agenda } := by
  obtain ⟨n, hraise⟩ := Bus.raiseRegular_eq { s.bus with period := some 0 }
  refine ⟨n, ?_⟩
  have hrecompute : ∀ u : State, u.cfg = some c → u.recompute.regularRequest =
      { u with
        bus := u.bus.raiseRegular
        lgv := { u.lgv with allowance := recomputed c u.peerLoad u.lgv.compose, granted := u.lgv.compose }
        agenda := .examine :: u.agenda } := fun u hu => by rw [State.recompute_eq hu]; rfl
  refine (hrecompute ((s.onSul _).onBus _) hc).trans ?_
  rw [State.onBus, State.onSul, hraise]
  rfl

theorem Bus.learn_rateState (b : Bus) : b.learn.rateState = .learning := by
  unfold Bus.learn
  split
  · assumption
  · rfl

/-- What entry to JOINING adds to settings that have been taken. -/
structure Joined (c : Config) (t : State) : Prop where
  station : t.sul.station = .joining
  timer : t.sul.joinTimer = 0
  period : t.bus.period = some 0
  request : t.bus.request.isSome = true
  granted : t.lgv.granted = ({ t.lgv with allowance := c.floor } : Lgv).compose
  allowance : t.lgv.allowance = recomputed c t.peerLoad t.lgv.granted

theorem State.enterJoining_joined (h : TookSettings s c t) (hfloor : t.lgv.allowance = c.floor) :
    TookSettings s c t.enterJoining ∧ Joined c t.enterJoining ∧
      t.enterJoining.sul.restarting = t.sul.restarting ∧ t.enterJoining.bus.rate = t.bus.rate ∧
      t.enterJoining.bus.rateState = t.bus.rateState := by
  obtain ⟨n, hjoin⟩ := State.enterJoining_eq h.cfg
  have hgranted : t.lgv.compose = ({ t.lgv with allowance := c.floor } : Lgv).compose := by rw [← hfloor]
  rw [hjoin]
  exact ⟨h.after _ _ _ _ _, ⟨rfl, rfl, rfl, rfl, hgranted, rfl⟩, rfl, rfl, rfl⟩

theorem TookSettings.onBus (h : TookSettings s c t) (f : Bus → Bus) : TookSettings s c (t.onBus f) :=
  h.after t.sul (f t.bus) t.lgv.allowance t.lgv.granted t.agenda

theorem TookSettings.onSul (h : TookSettings s c t) (f : Sul → Sul) : TookSettings s c (t.onSul f) :=
  h.after (f t.sul) t.bus t.lgv.allowance t.lgv.granted t.agenda

theorem State.afterAccept_at_rate {r : Rate} (hrate : c.rate = some r) :
    t.afterAccept false c = (t.onBus (·.adopt r)).enterJoining := by
  rw [State.afterAccept, hrate]
  rfl

theorem State.afterAccept_without_rate (hrate : c.rate = none) :
    t.afterAccept false c = (t.onSul fun u => { u with station := .learning }).onBus (·.learn) := by
  rw [State.afterAccept, hrate]
  rfl

/-- What an acceptance in `s` leaves in `t`: all blocks have the settings, and the station learns the rate or has
entered JOINING. -/
structure Accepted (s : State) (c : Config) (t : State) : Prop where
  took : TookSettings s c t
  restarting : t.sul.restarting = false
  learns : s.sul.restarting = false → c.rate = none →
    t.sul.station = .learning ∧ t.lgv.allowance = c.floor ∧ t.bus.rateState = .learning
  rate : ∀ r, s.sul.restarting = false → c.rate = some r → t.bus.rate = some r ∧ t.bus.rateState = .rateSet
  rateKept : s.sul.restarting = true → t.bus.rate = s.bus.rate ∧ t.bus.rateState = s.bus.rateState
  joined : s.sul.restarting = true ∨ c.rate ≠ none → Joined c t

theorem TookSettings.accepted (htook : TookSettings s c t) (hfloor : t.lgv.allowance = c.floor)
    (hrate : t.bus.rate = s.bus.rate) (hstate : t.bus.rateState = s.bus.rateState)
    (hagain : t.sul.restarting = false) : Accepted s c (t.afterAccept s.sul.restarting c) := by
  cases hr : s.sul.restarting with
  | true =>
    obtain ⟨htook', hjoined, hover, hkept, hkept'⟩ := State.enterJoining_joined htook hfloor
    exact
      { took := htook'
        restarting := hover.trans hagain
        learns := fun h => absurd (hr.symm.trans h) (by simp)
        rate := fun _ h => absurd (hr.symm.trans h) (by simp)
        rateKept := fun _ => ⟨hkept.trans hrate, hkept'.trans hstate⟩
        joined := fun _ => hjoined }
  | false =>
    cases hc : c.rate with
    | some r =>
      obtain ⟨htook', hjoined, hover, hset, hset'⟩ :=
        State.enterJoining_joined (htook.onBus (·.adopt r)) hfloor
      rw [State.afterAccept_at_rate hc]
      exact
        { took := htook'
          restarting := hover.trans hagain
          learns := fun _ h => absurd (hc.symm.trans h) (by simp)
          rate := fun q _ hq => ⟨hset.trans (hc.symm.trans hq), hset'⟩
          rateKept := fun h => absurd (hr.symm.trans h) (by simp)
          joined := fun _ => hjoined }
    | none =>
      rw [State.afterAccept_without_rate hc]
      exact
        { took := (htook.onSul _).onBus _
          restarting := hagain
          learns := fun _ _ => ⟨rfl, hfloor, Bus.learn_rateState _⟩
          rate := fun _ _ h => absurd (hc.symm.trans h) (by simp)
          rateKept := fun h => absurd (hr.symm.trans h) (by simp)
          joined := fun h => by simp [hr, hc] at h }

theorem State.accept_accepted (s : State) (c : Config) : Accepted s c (s.accept c) := by
  obtain ⟨htook, hfloor, hrate, hstate, hsul⟩ := s.takesSettings_took c
  rw [State.accept_eq]
  exact htook.accepted hfloor hrate hstate (by rw [hsul])

/-! ### Input by input, channel by channel, axis by axis -/

section
variable (h : TookSettings s c t)
include h

theorem TookSettings.input_same {i : Fin 8}
    (hsame : ∃ o, s.cfg = some o ∧ o.inputs[i].kind = c.inputs[i].kind ∧
      o.inputs[i].activeLow = c.inputs[i].activeLow ∧ o.inputs[i].debounce = c.inputs[i].debounce) :
    t.viu.inputs[i] = s.viu.inputs[i] := by
  obtain ⟨o, ho, hsame⟩ := hsame
  rw [h.inputs]
  exact InputRec.accept_same ⟨o.inputs[i], by rw [ho]; rfl, hsame⟩

theorem TookSettings.input_anew {i : Fin 8}
    (hother : ∀ o, s.cfg = some o → o.inputs[i].kind ≠ c.inputs[i].kind ∨
      o.inputs[i].activeLow ≠ c.inputs[i].activeLow ∨ o.inputs[i].debounce ≠ c.inputs[i].debounce) :
    t.viu.inputs[i] = { s.viu.inputs[i] with level := false, stability := 0 } := by
  rw [h.inputs]
  refine InputRec.accept_anew fun o ho => ?_
  obtain ⟨d, hd, rfl⟩ := Option.map_eq_some_iff.1 ho
  exact hother d hd

theorem TookSettings.course (k : Fin 16) {ch : ChannelCfg} (hch : ch = c.channels[k]) {d : Nat}
    (hd : d = (if s.sul.restarting then c.restartFade else 0)) :
    (t.channel k).course =
      match ch.initialTable with
      | none => .fade (s.channel k).v ch.powerUp 0 d
      | some tb => if d = 0 then .cycle tb else .blend tb (s.channel k).v 0 d := by
  rw [h.courses, hch, hd]
  unfold openingCourse
  cases (c.channels[k]).initialTable <;> rfl

end

end

end Sys2Proof.Machine
end

section
/-! PROOFS. What follows each transfer of a load (R169), and the acceptance of an image. -/

namespace Sys2Proof.Machine

/-! ### After the body (R169, checks 1 and 3) -/

section
variable {s : State} {data : List Byte} {crc : BitVec 16}

theorem State.loadStep_bad_crc (h : s.sul.phase = .body crc) (hcrc : crc16 data ≠ crc) :
    s.loadStep data = (s.report .configCrc s.sul.number.val).enterFault := by
  rw [State.loadStep, h]
  exact if_pos hcrc

theorem State.loadStep_bad_body (h : s.sul.phase = .body crc) (hcrc : crc16 data = crc) (hok : bodyOk data = false) :
    s.loadStep data = (s.report .configRange s.sul.number.val).enterFault := by
  rw [State.loadStep, h]
  exact (if_neg (not_not.2 hcrc)).trans (if_pos (by rw [hok]; rfl))

theorem State.loadStep_good_body (h : s.sul.phase = .body crc) (hcrc : crc16 data = crc) (hok : bodyOk data = true) :
    s.loadStep data = s.loadClips (readBody crc data) := by
  rw [State.loadStep, h]
  exact (if_neg (not_not.2 hcrc)).trans (if_neg (by simp [hok]))

/-! ### After a directory (R169, check 4; R175) -/

variable {c : Config}

theorem State.loadClips_some (h : c.clipCount ≠ 0) :
    s.loadClips c = s.loadAsk (.clips c) c.clipAddress (11 * c.clipCount) := if_neg h

theorem State.loadClips_none (h : c.clipCount = 0) : s.loadClips c = s.loadScenes c := if_pos h

theorem State.loadScenes_some (h : c.sceneCount ≠ 0) :
    s.loadScenes c = s.loadAsk (.scenes c) c.sceneAddress (11 * c.sceneCount) := if_neg h

theorem State.loadScenes_none (h : c.sceneCount = 0) : s.loadScenes c = s.accept c := if_pos h

theorem all_clipOk_iff (clips : List ClipEntry) :
    clips.all clipOk = true ↔ ∀ e ∈ clips, e.gain ≤ 256 ∧ e.quietLimit ≤ 60000 := by
  simp only [List.all_eq_true, clipOk_iff]

theorem all_sceneOk_iff (entries : List (List Byte)) :
    entries.all sceneOk = true ↔ ∀ e ∈ entries, field e 5 1 < 64 ∧
      (field e 0 1 % 2 = 1 → field e 4 1 ≤ 3 ∧ 1 ≤ field e 10 1 ∧ field e 10 1 ≤ 64) := by
  simp only [List.all_eq_true, sceneOk_iff]

section
variable {clips : List ClipEntry} (h : s.sul.phase = .clips c)
  (hclips : clips = (entriesOf c.clipCount data).map readClip)
include h hclips

theorem State.loadStep_bad_clips (hbad : ∃ e ∈ clips, 256 < e.gain ∨ 60000 < e.quietLimit) :
    s.loadStep data = (s.report .configRange s.sul.number.val).enterFault := by
  subst hclips
  obtain ⟨e, he, hlimit⟩ := hbad
  have hno : ¬ ((entriesOf c.clipCount data).map readClip).all clipOk = true := fun hall => by
    have hgood := (all_clipOk_iff _).1 hall e he
    omega
  rw [State.loadStep, h]
  exact if_neg hno

theorem State.loadStep_good_clips (hgood : ∀ e ∈ clips, e.gain ≤ 256 ∧ e.quietLimit ≤ 60000) :
    s.loadStep data = s.loadScenes { c with clips := clips } := by
  subst hclips
  rw [State.loadStep, h]
  exact if_pos ((all_clipOk_iff _).2 hgood)

end

section
variable {entries : List (List Byte)} (h : s.sul.phase = .scenes c)
  (hentries : entries = entriesOf c.sceneCount data)
include h hentries

theorem State.loadStep_bad_scenes
    (hbad : ∃ e ∈ entries, 64 ≤ field e 5 1 ∨
      (field e 0 1 % 2 = 1 ∧ (3 < field e 4 1 ∨ field e 10 1 < 1 ∨ 64 < field e 10 1))) :
    s.loadStep data = (s.report .configRange s.sul.number.val).enterFault := by
  subst hentries
  obtain ⟨e, he, hlimit⟩ := hbad
  have hno : ¬ (entriesOf c.sceneCount data).all sceneOk = true := fun hall => by
    obtain ⟨hclaims, hpresent⟩ := (all_sceneOk_iff _).1 hall e he
    rcases hlimit with hlimit | ⟨hbit, hlimit⟩
    · omega
    · have hrange := hpresent hbit
      omega
  rw [State.loadStep, h]
  exact if_neg hno

theorem State.loadStep_good_scenes
    (hgood : ∀ e ∈ entries, field e 5 1 < 64 ∧
      (field e 0 1 % 2 = 1 → field e 4 1 ≤ 3 ∧ 1 ≤ field e 10 1 ∧ field e 10 1 ≤ 64)) :
    s.loadStep data = s.accept { c with scenes := entries.map readScene } := by
  subst hentries
  rw [State.loadStep, h]
  exact if_pos ((all_sceneOk_iff _).2 hgood)

end

end

/-! ### The body as a whole (R175) -/

section
variable (crc : BitVec 16) (b : List Byte)

theorem readBody_rate :
    (img b 16 1 = 3 → (readBody crc b).rate = none) ∧
      ∀ p ∈ [(0, Rate.r250), (1, Rate.r500), (2, Rate.r1000)],
        (img b 16 1 = p.1 → (readBody crc b).rate = some p.2) ∧
          (img b 17 1 = p.1 → (readBody crc b).fallback = p.2) := by
  have hrate : (readBody crc b).rate = rateOf (img b 16 1) := rfl
  have hfallback : (readBody crc b).fallback = (rateOf (img b 17 1)).getD .r250 := rfl
  rw [hrate, hfallback]
  refine ⟨fun h => by rw [h]; rfl, fun p hp => ⟨fun h => ?_, fun h => ?_⟩⟩
  · rw [h, rateOf_code p hp]
  · rw [h, rateOf_code p hp]
    rfl

theorem readBody_opening (hok : scenesOk b = true) :
    ((readBody crc b).opening = none ↔ img b 101 1 = 255) ∧
      ∀ n, (readBody crc b).opening = some n → n.val = img b 101 1 := by
  obtain ⟨hscene, -⟩ := (scenesOk_iff b).1 hok
  exact ⟨optScene_none_iff _, fun n => optScene_some hscene⟩

end

/-- Settles O55: the transfers of the load one after another; the body's parts at their places; then what each
block takes at the acceptance. -/
theorem imageAccepted : Obligations.ImageAccepted := by
  unfold Obligations.ImageAccepted
  refine ⟨?load, ?layout, ?entry, entriesOf_getElem?, ?acceptance⟩
  case load =>
    intro s address count at_ timer retried sent skipped data hsmp hmark hcount ready hready smin hsmin
    have hsul : ready.sul = s.sul := by rw [hready]; rfl
    rw [exec_load hsmp hmark hcount hready hsmin, ← hsul]
    refine ⟨fun crc h => ⟨fun hcrc => ?_, fun hcrc hok => ?_, fun hcrc hok c hc => ⟨fun hclips => ?_,
      fun hclips hscenes => ?_, fun hclips hscenes => ?_⟩⟩, fun c clips h hclips => ⟨fun hbad => ?_,
      fun hgood hscenes => ?_, fun hgood hscenes => ?_⟩, fun c entries h hentries => ⟨fun hbad => ?_, fun hgood => ?_⟩⟩
    · rw [State.loadStep_bad_crc h hcrc]
    · rw [State.loadStep_bad_body h hcrc hok]
    · rw [State.loadStep_good_body h hcrc hok, ← hc, State.loadClips_some hclips]
    · rw [State.loadStep_good_body h hcrc hok, ← hc, State.loadClips_none hclips, State.loadScenes_some hscenes]
    · rw [State.loadStep_good_body h hcrc hok, ← hc, State.loadClips_none hclips, State.loadScenes_none hscenes]
    · rw [State.loadStep_bad_clips h hclips hbad]
    · rw [State.loadStep_good_clips h hclips hgood, State.loadScenes_some (c := { c with clips := clips }) hscenes]
    · rw [State.loadStep_good_clips h hclips hgood, State.loadScenes_none (c := { c with clips := clips }) hscenes]
    · rw [State.loadStep_bad_scenes h hentries hbad]
    · rw [State.loadStep_good_scenes h hentries hgood]
  case layout =>
    intro b u i hu hi
    obtain rfl : u = img b := funext fun o => funext fun n => hu o n
    obtain rfl : i = imgInt b := funext fun o => funext fun n => hi o n
    refine ⟨?_, fun crc c hok hc => ?_⟩
    · simp only [bodyOk_iff_parts, busOk_iff, clockOk_iff, narrationOk_iff, feederOk_iff, ordersOk_iff, timingOk_iff,
        scenesOk_iff, channelOk_iff, tableOk_iff, axisOk_iff, inputOk_iff, groupOk_iff, and_assoc]
    · obtain ⟨-, -, -, -, -, -, hscenes, hchannels, -, haxes, hinputs, hgroups⟩ := (bodyOk_iff_parts b).1 hok
      obtain ⟨hlearn, hrate⟩ := readBody_rate crc b
      obtain ⟨hnone, hopening⟩ := readBody_opening crc b hscenes
      subst hc
      exact ⟨rfl, rfl, rfl, hlearn, hrate, rfl, rfl, rfl, rfl, rfl, rfl, rfl, rfl, rfl, rfl, rfl, rfl, rfl, rfl, rfl,
        rfl, rfl, rfl, rfl, fun k => readWindow_reads b k (readBody_windows crc b k), rfl, rfl, rfl, hnone, hopening,
        rfl, rfl,
        fun k mode hmode => readChannel_reads b k (readBody_channels crc b k) (hchannels k k.isLt) hmode,
        fun k => readTable_reads b k (readBody_tables crc b k),
        fun k => readAxis_reads b k (readBody_axes crc b k) (haxes k k.isLt),
        fun k => readInput_reads b k (readBody_inputs crc b k) (hinputs k k.isLt),
        fun k => readGroup_reads b k (readBody_groups crc b k) (hgroups k k.isLt)⟩
  case entry =>
    rintro e x y rfl rfl
    obtain ⟨hpresent, hearshot, hmust⟩ := readClip_reads e
    obtain ⟨hscene, hloop, hpriority⟩ := readScene_reads e
    exact ⟨rfl, rfl, rfl, hpresent, hearshot, hmust, rfl, hscene, hloop, rfl, hpriority, rfl, rfl, rfl, rfl⟩
  case acceptance =>
    rintro s t c rfl
    have h := s.accept_accepted c
    have hfirst : s.cfg ≠ none → s.cfg.isNone = false := fun h =>
      Option.isNone_eq_false_iff.2 (Option.isSome_iff_ne_none.2 h)
    refine ⟨h.took.cfg, h.took.clk, h.restarting, h.took.peers, h.took.localHold,
      fun i => ⟨h.took.input_same, h.took.input_anew⟩, fun k ch hch d hd => h.took.course k hch hd,
      fun a k hk => ?_, h.took.exempt, h.took.demand, h.took.lamps, h.took.scale, h.learns, h.rate, h.rateKept,
      fun hjoins => ?_⟩
    · subst hk
      have haxis := h.took.axes a
      exact ⟨haxis.enable, haxis.place, haxis.outside, haxis.inside,
        fun hnone => haxis.guardFirst (Option.isNone_iff_eq_none.2 hnone),
        fun hsome => haxis.guard (hfirst hsome)⟩
    · obtain ⟨hstation, htimer, hperiod, hrequest, hgranted, hallowance⟩ := h.joined hjoins
      exact ⟨hstation, htimer, hperiod, hrequest, hgranted, hallowance⟩

end Sys2Proof.Machine
end

section
/-! PROOFS. The end of a reception (R17): bad frames and rate doubt (R31, R33), frames that change the line
alone or carry this station's own number (R19, R20, R36, R174), and CUE frames with the entries that become
due (R92, R96). -/

namespace Sys2Proof.Machine

/-! ### Bad frames and rate doubt (R17, R33) -/

theorem exec_badFrame (cause : BadCause) (s : State) :
    exec (.badFrame cause) s = act State.inReception State.frameBad s := rfl

theorem exec_rateDoubt (s : State) : exec .rateDoubt s = act State.doubtDue State.doubt s := rfl

section
variable {s : State}

theorem State.inReception_of_listening (h : s.Listening) (hr : s.bus.receiving = true) :
    s.inReception = true := by
  simp [State.inReception, State.receives_of_listening h, hr]

/-- A BBI with a rate in force begins to learn with the first trial window (R31). -/
theorem Bus.learn_of_rateSet {b : Bus} (h : b.rateState = .rateSet) :
    b.learn =
      { b with
        rateState := .learning, rate := none, learnTimer := 0, trial := 0, trialTimer := 0, badRun := 0
        lineIdle := false, receiving := false } := by
  simp only [Bus.learn, h]

/-- Rate doubt without a configured rate ends in rate learning (R33). -/
theorem State.doubt_unconfigured (h : s.cfg = none ∨ ∃ c, s.cfg = some c ∧ c.rate = none) :
    s.doubt =
      ((s.onBus fun b => { b with badRun := 0 }).report .rateDoubt s.sul.number.val).onBus (·.learn) := by
  rcases h with hc | ⟨c, hc, hr⟩
  · simp only [State.doubt, State.report_cfg, State.onBus_cfg, hc]
  · simp only [State.doubt, State.report_cfg, State.onBus_cfg, hc, hr, Option.isNone_none, if_true]

/-- Rate doubt at a rate in force, without a configured one: the report, then the first trial window. -/
theorem State.doubt_learns {u : State} (h : s.cfg = none ∨ ∃ c, s.cfg = some c ∧ c.rate = none)
    (hr : s.bus.rateState = .rateSet)
    (hu : u = (s.onBus fun b => { b with badRun := 0 }).report .rateDoubt s.sul.number.val) :
    s.doubt =
      { u with
        bus :=
          { u.bus with
            rateState := .learning, rate := none, learnTimer := 0, trial := 0, trialTimer := 0
            badRun := 0, lineIdle := false, receiving := false } } := by
  have hrate : u.bus.rateState = .rateSet := by
    rw [hu, State.report_rateState]
    exact hr
  rw [State.doubt_unconfigured h, ← hu, State.onBus, Bus.learn_of_rateSet hrate]

/-- The 32nd bad frame in a run raises rate doubt (R17, R33). -/
theorem State.frameBad_last (h : 31 ≤ s.bus.badRun) :
    s.frameBad =
      (s.onBus fun b =>
        { b with receiving := false, lineIdle := false, badRun := min (b.badRun + 1) 32 }).doubt := by
  unfold State.frameBad
  dsimp only
  rw [if_pos (by simp [State.doubtDue, h])]

end

/-- Settles O8: a bad frame below the 32nd in a run counts, and the doubt of the 32nd does what RATE_DOUBT
does. -/
theorem badFramesRaiseRateDoubt : Obligations.BadFramesRaiseRateDoubt := by
  unfold Obligations.BadFramesRaiseRateDoubt
  refine ⟨fun s cause h hr => ⟨fun hb => ?_, fun u hu => ⟨fun c r hc hcr hb => ?_, fun hc hb hrate => ?_⟩⟩,
    fun s hb u hu => ⟨fun c r hc hcr => ?_, fun hc hrate => ?_⟩⟩
  · exact gives_of_act (exec_badFrame cause s) (State.inReception_of_listening h hr)
      (State.frameBad_below (by exact hb)) rfl
  · exact gives_of_act (exec_badFrame cause s) (State.inReception_of_listening h hr)
      ((State.frameBad_doubts (by exact hc) hcr (by exact hb)).trans hu.symm)
      (by rw [hu]; exact State.report_agenda _ _ _ _)
  · refine gives_of_act (exec_badFrame cause s) (State.inReception_of_listening h hr)
      ((State.frameBad_last (by exact hb)).trans (State.doubt_learns (by exact hc) (by exact hrate) hu)) ?_
    rw [hu]
    exact State.report_agenda _ _ _ _
  · exact gives_of_act (exec_rateDoubt s) (decide_eq_true hb)
      ((State.doubt_configured (by exact hc) hcr).trans hu.symm)
      (by rw [hu]; exact State.report_agenda _ _ _ _)
  · refine gives_of_act (exec_rateDoubt s) (decide_eq_true hb)
      (State.doubt_learns (by exact hc) (by exact hrate) hu) ?_
    rw [hu]
    exact State.report_agenda _ _ _ _

/-! ### Frames that change the line alone, and frames of this station's own number (R19, R20, R36, R174) -/

section
variable {s u : State} {sender : Byte} {c : Instr} {f : Fin 32 → State → State}

theorem State.tick_frameValid (h : s.Receiving) : s.tick.frameValid = s.heard := by
  obtain ⟨-, hrate, -⟩ := h
  exact State.frameValid_rateSet (by exact hrate)

/-- A frame that the dispatch to its sender leaves alone, of another station or of none. -/
theorem State.frame_ignored (h : s.Receiving) (hn : sender.toNat ≠ s.sul.number.val)
    (hf : ∀ st : Fin 32, st.val = sender.toNat → f st s.heard = s.heard) :
    s.tick.frame sender f = s.heard := by
  unfold State.frame
  rw [State.tick_frameValid h]
  by_cases hs : sender.toNat < 32
  · have hst : finOf 32 sender = some ⟨sender.toNat, hs⟩ := dif_pos hs
    rw [hst]
    exact (if_neg fun hown => hn (congrArg Fin.val hown)).trans (hf ⟨sender.toNat, hs⟩ rfl)
  · rw [finOf_eq_none (not_lt.1 hs)]

/-- A frame of this station's own number is a duplicate, whatever it carries (log entry 34). -/
theorem State.frame_own (h : s.Receiving) (hn : sender.toNat = s.sul.number.val) :
    s.tick.frame sender f = s.heard.duplicate := by
  have hst : finOf 32 sender = some s.sul.number := by
    rw [finOf, dif_pos (by omega)]
    exact congrArg some (Fin.ext hn)
  unfold State.frame
  rw [State.tick_frameValid h, hst]
  exact if_pos rfl

theorem gives_heard (h : s.Receiving) (hc : exec c s = act State.inReception (·.frame sender f) s)
    (hn : sender.toNat ≠ s.sul.number.val)
    (hf : ∀ st : Fin 32, st.val = sender.toNat → f st s.heard = s.heard) : Gives c s s.heard :=
  gives_of_act hc (State.inReception_of_receiving h) (State.frame_ignored h hn hf) rfl

theorem gives_duplicate (h : s.Receiving) (hn : sender.toNat = s.sul.number.val)
    (hu : u = s.heard.report .duplicateStation s.sul.number.val)
    (hc : exec c s = act State.inReception (·.frame sender f) s) : Gives c s u := by
  refine gives_of_act hc (State.inReception_of_receiving h) ((State.frame_own h hn).trans hu.symm) ?_
  rw [hu]
  exact State.report_agenda _ _ _ _

/-- A sender above 31 is no station, so that no dispatch is made (R174). -/
theorem gives_no_station (h : s.Receiving) (hn : 32 ≤ sender.toNat)
    (hc : exec c s = act State.inReception (·.frame sender f) s) : Gives c s s.heard :=
  gives_heard h hc (by omega) fun st hst => absurd st.isLt (by omega)

end

theorem State.shortFrame_no_scene {s : State} {scene : Byte} (st : Fin 32) (target : Byte)
    (at_ : BitVec 32) (h : 64 ≤ scene.toNat) : s.shortFrame st target scene at_ = s := by
  unfold State.shortFrame
  rw [finOf_eq_none h]
  split
  · contradiction
  · rfl

theorem State.shortFrame_elsewhere {s : State} {target : Byte} (st : Fin 32) (scene : Byte)
    (at_ : BitVec 32) (h : target.toNat ≠ s.sul.number.val) : s.shortFrame st target scene at_ = s := by
  unfold State.shortFrame
  split
  case h_1 t n ht hn =>
    have hval : target.toNat = t.val := by
      unfold finOf at ht
      split at ht
      · exact congrArg Fin.val (Option.some.inj ht)
      · contradiction
    exact if_neg fun hown => h (hval.trans (congrArg Fin.val hown))
  · rfl

theorem State.order_elsewhere {s : State} {target : Byte} (kind : OrderKind) (ops : List Byte)
    (sender : Fin 32) (h : target.toNat ≠ s.sul.number.val) : s.order kind target ops sender = s := if_neg h

theorem State.orderUnknown_elsewhere {s : State} {target : Byte} (code : Byte) (sender : Fin 32)
    (h : target.toNat ≠ s.sul.number.val) : s.orderUnknown code target sender = s := if_neg h

/-- Settles O9: what a dispatch leaves alone leaves the instant at which its frame was heard, and none is made
for this station's own number. -/
theorem framesTurnedAway : Obligations.FramesTurnedAway := by
  unfold Obligations.FramesTurnedAway
  refine ⟨fun s sender target h => ⟨fun kind payload => ?_, fun hn => ⟨?_, ?_, fun ht => ⟨?_, fun ops => ?_⟩⟩,
    fun hs => ⟨?_, ?_, ?_⟩⟩, fun s sender h hn u hu => ⟨?_, ?_, ?_, ?_, ?_, fun target ops => ?_⟩⟩
  · exact gives_of_act (effect := State.frameValid) rfl (State.inReception_of_receiving h)
      (State.tick_frameValid h) rfl
  · exact fun dest kind outcome reason data => gives_heard (f := fun _ s => s) h rfl hn fun _ _ => rfl
  · exact fun scene at_ hscene => gives_heard (f := fun st s => s.shortFrame st target scene at_) h rfl hn
      fun st _ => State.shortFrame_no_scene st target at_ hscene
  · exact fun scene at_ => gives_heard (f := fun st s => s.shortFrame st target scene at_) h rfl hn
      fun st _ => State.shortFrame_elsewhere st scene at_ ht
  · have horder : ∀ {c : Instr} (kind : OrderKind),
        exec c s = act State.inReception (·.frame sender (State.order kind target ops)) s →
        Gives c s s.heard := fun kind hc =>
      gives_heard h hc hn fun st _ => State.order_elsewhere kind ops st ht
    exact ⟨horder .start rfl, horder .stop rfl, horder .stopAll rfl, horder .setFlag rfl, horder .hold rfl,
      horder .query rfl, horder .clearFaults rfl, horder .restart rfl, fun kind =>
        gives_heard (f := State.orderUnknown kind target) h rfl hn
          fun st _ => State.orderUnknown_elsewhere kind st ht⟩
  · exact fun stamp g x flags =>
      gives_no_station (f := fun st s => s.acceptBeacon st stamp (peerOf st g x flags)) h hs rfl
  · exact fun cue at_ => gives_no_station (f := fun st s => s.hearLong st cue at_) h hs rfl
  · exact fun voice clip => gives_no_station (f := fun st s => s.talkFrame st voice) h hs rfl
  · exact fun stamp g x flags =>
      gives_duplicate (f := fun st s => s.acceptBeacon st stamp (peerOf st g x flags)) h hn hu rfl
  · exact fun cue at_ => gives_duplicate (f := fun st s => s.hearLong st cue at_) h hn hu rfl
  · exact fun target scene at_ =>
      gives_duplicate (f := fun st s => s.shortFrame st target scene at_) h hn hu rfl
  · exact fun voice clip => gives_duplicate (f := fun st s => s.talkFrame st voice) h hn hu rfl
  · exact fun target kind outcome reason data => gives_duplicate (f := fun _ s => s) h hn hu rfl
  · have horder : ∀ {c : Instr} (kind : OrderKind),
        exec c s = act State.inReception (·.frame sender (State.order kind target ops)) s → Gives c s u :=
      fun _ hc => gives_duplicate h hn hu hc
    exact ⟨horder .start rfl, horder .stop rfl, horder .stopAll rfl, horder .setFlag rfl, horder .hold rfl,
      horder .query rfl, horder .clearFaults rfl, horder .restart rfl, fun kind =>
        gives_duplicate (f := State.orderUnknown kind target) h hn hu rfl⟩

/-! ### CUE frames and due entries (R92, R96) -/

theorem exec_cueLongForm (sender cue : Byte) (at_ : BitVec 32) (s : State) :
    exec (.cueLongForm sender cue at_) s =
      act State.inReception (·.frame sender fun st s => s.hearLong st cue at_) s := rfl

theorem exec_cueShortForm (sender target scene : Byte) (at_ : BitVec 32) (s : State) :
    exec (.cueShortForm sender target scene at_) s =
      act State.inReception (·.frame sender fun st s => s.shortFrame st target scene at_) s := rfl

theorem exec_pendingCueDue (s : State) :
    exec .pendingCueDue s = act State.pendingDue State.takePendingCues s := rfl

theorem State.shortFrame_here {s : State} {target : Byte} (st : Fin 32) (n : Fin 64) (at_ : BitVec 32)
    (h : target = BitVec.ofNat 8 s.sul.number.val) :
    s.shortFrame st target (BitVec.ofNat 8 n.val) at_ = s.hearShort st n at_ := by
  subst h
  rw [State.shortFrame, finOf_ofNat, finOf_ofNat_of_le (by decide) n]
  exact if_pos rfl

/-- The reached entries at the head of the list are all of it that show time has reached. -/
theorem State.takePendingCues_reached {s : State} {due rest : List PendingCue} (h : s.csc = due ++ rest)
    (hdue : ∀ x ∈ due, reached s.clk.showTime x.startAt = true)
    (hrest : ∀ x, rest.head? = some x → reached s.clk.showTime x.startAt = false) :
    s.takePendingCues =
      ({ s with csc := rest } : State).post (due.map fun x => .request x.scene (.cue x.station x.long)) := by
  have hhead : rest.takeWhile (fun x => reached s.clk.showTime x.startAt) = [] ∧
      rest.dropWhile (fun x => reached s.clk.showTime x.startAt) = rest := by
    cases rest with
    | nil => exact ⟨rfl, rfl⟩
    | cons x rest => simp [hrest x rfl]
  unfold State.takePendingCues
  rw [h, List.takeWhile_append_of_pos hdue, List.dropWhile_append_of_pos hdue, hhead.1, hhead.2,
    List.append_nil]

/-- Settles O32: a CUE frame is dispatched to the Cue Scheduler, and the reached head of the list is
`State.takePendingCues`. -/
theorem cueFramesAndDueEntries : Obligations.CueFramesAndDueEntries := by
  unfold Obligations.CueFramesAndDueEntries
  refine fun s => ⟨fun st cue at_ h hn => ?_, fun st n at_ h hn => ?_, fun due rest e hcsc hdue hrest => ?_⟩
  · rw [exec_cueLongForm, act_may (State.inReception_of_receiving h), State.frame_heard _ h hn]
  · rw [exec_cueShortForm, act_may (State.inReception_of_receiving h), State.frame_heard _ h hn,
      State.shortFrame_here (s := s.heard) (target := BitVec.ofNat 8 s.sul.number.val) st n at_ rfl,
      State.hearShort]
  · have hmay : s.pendingDue = true := by
      rw [State.pendingDue, hcsc]
      exact hdue e List.mem_cons_self
    rw [exec_pendingCueDue, act_may hmay, State.takePendingCues_reached (by exact hcsc) (by exact hdue)
      (by exact hrest)]
    simp [State.post]

end Sys2Proof.Machine
end

section
/-! PROOFS. Beacon requests (R27 to R29): regular boundaries with their recompute (R118), the early spacing and
early requests; and the learning of a rate, with the entry to JOINING that it leads to (R31, R32). -/

namespace Sys2Proof.Machine

/-! ### A regular boundary (R27, R118) -/

/-- A raised request is pending: the one that was, or a new one with no failed attempt (R27, R29). -/
theorem Bus.raise_eq (b : Bus) : b.raise = { b with request := some (b.request.getD 0) } := by
  have hmerges : ∀ n, b.request = some n → b = { b with request := some n } := fun n h => by rw [← h]
  unfold Bus.raise
  cases h : b.request with
  | none => rfl
  | some n => exact hmerges n h

theorem State.recompute_bus (s : State) : s.recompute.bus = s.bus := by
  unfold State.recompute
  split <;> rfl

theorem State.recompute_sul (s : State) : s.recompute.sul = s.sul := by
  unfold State.recompute
  split <;> rfl

/-- Without a configuration a recompute leaves nothing granted, and examines no line (R118). -/
theorem State.recompute_unconfigured {s : State} (hc : s.cfg = none) :
    s.recompute = { s with lgv := { s.lgv with allowance := 0, granted := 0 } } := by
  simp only [State.recompute, hc, State.onLgv]

/-- What a regular boundary makes of the BBI, whatever the recompute finds. -/
theorem State.regularBoundary_bus (s : State) :
    s.regularBoundary.bus =
      { s.bus with
        period := some 0, request := some (s.bus.request.getD 0), deferred := false
        markedInFlight := false } := by
  simp only [State.regularBoundary, State.regularRequest, State.onBus_bus, State.recompute_bus,
    Bus.raiseRegular, Bus.raise_eq]

theorem State.regularBoundary_sul (s : State) : s.regularBoundary.sul = s.sul := by
  rw [State.regularBoundary, State.regularRequest, State.onBus_sul, State.recompute_sul, State.onBus_sul]

/-- A regular boundary is its recompute with what it makes of the BBI. -/
theorem State.regularBoundary_eq (s : State) :
    s.regularBoundary = { s.recompute with bus := s.regularBoundary.bus } := by
  have hperiod : (s.onBus fun b => { b with period := some 0 }).recompute =
      s.recompute.onBus fun b => { b with period := some 0 } := by
    unfold State.recompute
    rw [State.onBus_cfg]
    split <;> rfl
  rw [State.regularBoundary, hperiod]
  rfl

theorem State.examineLine_no_line {s : State} (h : s.lgv.line = []) : s.examineLine = s := by
  unfold State.examineLine
  split
  case h_1 _ _ hl => simp [h] at hl
  case h_2 => rfl

/-- An instant that ends with an examination of an empty admission line. -/
theorem gives_of_examine {c : Instr} {may : State → Bool} {effect : State → State} {s u : State}
    (hc : exec c s = act may effect s) (h : may s = true) (he : effect s.tick = u.post [.examine])
    (ha : u.agenda = []) (hl : u.lgv.line = []) : Gives c s u := by
  show exec c s = _
  have hexamined : u.handle .examine = u := State.examineLine_no_line hl
  rw [hc, act_may h, he, State.finish_one ha hexamined ha]

theorem exec_regularBoundary (s : State) :
    exec .regularBoundary s = act State.boundaryDue State.regularBoundary s := rfl

theorem State.boundaryDue_of_period {s : State} {n : Nat} (hp : s.bus.period = some n)
    (h : s.beaconPeriod ≤ n) : s.boundaryDue = true := by
  simp [State.boundaryDue, hp, h]

/-! ### The early spacing and early requests (R28) -/

theorem exec_earlySpacingEnd (s : State) :
    exec .earlySpacingEnd s = act State.spacingDue State.endSpacing s := rfl

theorem State.endSpacing_eq (s : State) :
    s.endSpacing =
      { s with
        bus :=
          if s.bus.deferred = true ∧ s.bus.markedInFlight = false then
            { s.bus with
              spacing := none, deferred := false, request := some (s.bus.request.getD 0) }
          else { s.bus with spacing := none } } := by
  unfold State.endSpacing
  by_cases h : s.bus.deferred = true ∧ s.bus.markedInFlight = false
  · simp [h, State.onBus, Bus.raise_eq]
  · rw [if_neg h]
    exact if_neg (by simpa using h)

/-- Settles O15: a boundary by its recompute, the end of the spacing by the deferred mark, and an early request
by what is in flight and whether the spacing runs. -/
theorem boundariesRaiseBeacons : Obligations.BoundariesRaiseBeacons := by
  unfold Obligations.BoundariesRaiseBeacons
  refine ⟨fun s => ⟨fun c n hc hp hn hline => ?_, fun hc n hp hn => ?_, fun hspacing => ?_⟩,
    fun s => ⟨fun h => ?_, fun h hs => ?_, fun h hs => ?_⟩⟩
  · have hperiod : s.beaconPeriod ≤ n := by rwa [State.beaconPeriod, hc]
    refine gives_of_examine (exec_regularBoundary s) (State.boundaryDue_of_period hp hperiod) ?_ rfl hline
    rw [State.regularBoundary_eq, State.regularBoundary_bus, State.recompute_eq (by exact hc)]
    rfl
  · have hperiod : s.beaconPeriod ≤ n := by rwa [State.beaconPeriod, hc]
    refine gives_of_act (exec_regularBoundary s) (State.boundaryDue_of_period hp hperiod) ?_ rfl
    rw [State.regularBoundary_eq, State.regularBoundary_bus, State.recompute_unconfigured (by exact hc)]
    rfl
  · exact gives_of_act (exec_earlySpacingEnd s) (decide_eq_true hspacing) (State.endSpacing_eq _) rfl
  · simp only [State.earlyRequest, State.onBus, Bus.raiseEarly, h, if_true]
  · simp only [State.earlyRequest, State.onBus, Bus.raiseEarly, h, hs, Bool.false_eq_true, if_false, if_true]
  · simp only [State.earlyRequest, State.onBus, Bus.raiseEarly, h, hs, Option.isSome_none, Bool.false_eq_true,
      if_false, Bus.raise_eq]

/-! ### Learning a rate (R31, R32) -/

theorem State.enterJoining_sul (s : State) :
    s.enterJoining.sul = { s.sul with station := .joining, joinTimer := 0 } := by
  rw [State.enterJoining, State.regularBoundary_sul, State.onSul_sul]

theorem State.enterJoining_bus (s : State) :
    s.enterJoining.bus =
      { s.bus with
        period := some 0, request := some (s.bus.request.getD 0), deferred := false
        markedInFlight := false } := by
  rw [State.enterJoining, State.regularBoundary_bus, State.onSul_bus]

theorem State.adoptRate_joins {s : State} (r : Rate) (h : s.sul.station = .learning) :
    s.adoptRate r = (s.onBus (·.adopt r)).enterJoining := if_pos h

theorem State.adoptRate_stays {s : State} (r : Rate) (h : s.sul.station ≠ .learning) :
    s.adoptRate r = s.onBus (·.adopt r) := if_neg h

theorem State.frameValid_learning {s : State} (h : s.bus.rateState = .learning) :
    s.frameValid =
      (s.onBus fun b => { b with receiving := false, lineIdle := false, badRun := 0 }).adoptRate
        (trialRate s.bus.trial) := if_pos h

theorem exec_trialWindowEnd (s : State) :
    exec .trialWindowEnd s = act State.trialDue State.nextTrial s := rfl

theorem exec_learningLimit (s : State) :
    exec .learningLimit s = act State.limitDue State.fallBack s := rfl

section
variable {s : State} {c : Config}

theorem State.limitDue_of_timer (hr : s.bus.rateState = .learning) (hc : s.cfg = some c)
    (ht : 10000 ≤ s.bus.learnTimer) : s.limitDue = true := by
  simp [State.limitDue, State.configured, hr, hc, ht]

theorem State.fallBack_configured (hc : s.cfg = some c) : s.fallBack = s.adoptRate c.fallback := by
  simp only [State.fallBack, hc]

end

/-- Settles O10: learning ends where a rate is adopted, with the entry to JOINING for a station in LEARNING. -/
theorem learningARate : Obligations.LearningARate := by
  unfold Obligations.LearningARate
  refine ⟨fun s hr => ?_, fun s hr => ⟨fun ht => ?_, fun c hc ht hs => ?_, fun c hc ht hs => ?_⟩⟩
  · rw [State.frameValid_learning hr]
    by_cases hs : s.sul.station = .learning
    · rw [State.adoptRate_joins _ (by exact hs), State.enterJoining_bus, State.enterJoining_sul]
      exact ⟨rfl, rfl, rfl, rfl, fun hne => absurd hs hne, fun _ => ⟨rfl, rfl, rfl⟩⟩
    · rw [State.adoptRate_stays _ (by exact hs)]
      exact ⟨rfl, rfl, rfl, rfl, fun _ => ⟨rfl, rfl, rfl⟩, fun heq => absurd heq hs⟩
  · exact gives_of_act (exec_trialWindowEnd s) (by simp [State.trialDue, hr, ht]) rfl rfl
  · rw [exec_learningLimit, act_may (State.limitDue_of_timer hr hc ht),
      State.fallBack_configured (by exact hc), State.adoptRate_joins _ (by exact hs)]
  · exact gives_of_act (exec_learningLimit s) (State.limitDue_of_timer hr hc ht)
      ((State.fallBack_configured (by exact hc)).trans (State.adoptRate_stays _ (by exact hs))) rfl

end Sys2Proof.Machine
end

section
/-! PROOFS. The outbound queue, the candidate and its wait (R21 to R23, R25, TABLE XI). -/

namespace Sys2Proof.Machine

/-! ### A full queue (R21) -/

section
variable {s : State} {o : Origin}

theorem State.enqueue_full_talk (h : 8 ≤ s.bus.queue.length) (v : Voice) (n : Fin 256) (id : Nat) :
    s.enqueue (.talk v n id) o = s := by
  simp [State.enqueue, State.outboundRoom, h]

/-- A CUE or an ANSWER without room is dropped and reported. -/
theorem State.enqueue_full {m : OutMsg} (h : 8 ≤ s.bus.queue.length) (hm : ∀ v n id, m ≠ .talk v n id) :
    s.enqueue m o = s.report .queueDrop (m.detail s.sul.number.val) .outbound := by
  have hroom : s.outboundRoom = false := decide_eq_false (not_lt.2 h)
  cases m
  case talk v n id => exact absurd rfl (hm v n id)
  all_goals exact if_neg (ne_true_of_eq_false hroom)

end

/-! ### The candidate (R22) -/

theorem OutMsg.cls_le (m : OutMsg) : m.cls ≤ 2 := by
  cases m <;> simp [OutMsg.cls]

section
variable {b : Bus} {e : OutEntry} {cls : Nat}

theorem Bus.firstOf_eq_none_iff : b.firstOf cls = none ↔ ∀ f ∈ b.queue, f.msg.cls ≠ cls := by
  simp [Bus.firstOf]

/-- The first entry of a class has no entry of its class before it. -/
theorem Bus.firstOf_eq_some (h : b.firstOf cls = some e) :
    e.msg.cls = cls ∧
      ∃ before after, b.queue = before ++ e :: after ∧ ∀ f ∈ before, f.msg.cls ≠ cls := by
  obtain ⟨hcls, before, after, hqueue, hbefore⟩ := List.find?_eq_some_iff_append.1 h
  exact ⟨by simpa using hcls, before, after, hqueue, fun f hf => by simpa using hbefore f hf⟩

/-- The first entry in send order is the first of its class, and no entry is of a class before it. -/
theorem Bus.first_eq_some (h : b.first = some e) :
    b.firstOf e.msg.cls = some e ∧ ∀ f ∈ b.queue, e.msg.cls ≤ f.msg.cls := by
  have hof : ∀ k, b.firstOf k = some e → b.firstOf e.msg.cls = some e := fun k hk => by
    rwa [(Bus.firstOf_eq_some hk).1]
  unfold Bus.first at h
  split at h
  case h_1 e₀ h₀ =>
    obtain rfl := Option.some.inj h
    exact ⟨hof 0 h₀, fun f _ => (Bus.firstOf_eq_some h₀).1 ▸ Nat.zero_le _⟩
  case h_2 h₀ =>
    have hno0 := Bus.firstOf_eq_none_iff.1 h₀
    split at h
    case h_1 e₁ h₁ =>
      obtain rfl := Option.some.inj h
      refine ⟨hof 1 h₁, fun f hf => ?_⟩
      rw [(Bus.firstOf_eq_some h₁).1]
      exact Nat.one_le_iff_ne_zero.2 (hno0 f hf)
    case h_2 h₁ =>
      refine ⟨hof 2 h, fun f hf => ?_⟩
      have hne0 := hno0 f hf
      have hne1 := Bus.firstOf_eq_none_iff.1 h₁ f hf
      rw [(Bus.firstOf_eq_some h).1]
      omega

/-- An entry of the queue leaves some first entry. -/
theorem Bus.queue_of_first_none (h : b.first = none) : b.queue = [] := by
  unfold Bus.first at h
  split at h
  · contradiction
  case h_2 h₀ =>
    split at h
    · contradiction
    case h_2 h₁ =>
      refine List.eq_nil_iff_forall_not_mem.2 fun f hf => ?_
      have hne0 := Bus.firstOf_eq_none_iff.1 h₀ f hf
      have hne1 := Bus.firstOf_eq_none_iff.1 h₁ f hf
      have hne2 := Bus.firstOf_eq_none_iff.1 h f hf
      have hle := f.msg.cls_le
      omega

theorem Bus.first_of_queue_nil (h : b.queue = []) : b.first = none := by
  simp [Bus.first, Bus.firstOf, h]

end

section
variable {s : State}

theorem Station.beacons_iff (x : Station) :
    x.beacons = true ↔ x = .joining ∨ x = .active ∨ x = .configFault := by
  cases x <;> simp [Station.beacons]

/-- An entry is the candidate where it is the first in send order. -/
theorem State.candidate_eq_entry {e : OutEntry} (h : s.candidate = some (.entry e)) :
    s.bus.first = some e := by
  unfold State.candidate at h
  split at h
  case h_1 f hf =>
    simp only [Option.some.injEq, Candidate.entry.injEq] at h
    rwa [← h]
  case h_2 =>
    split at h
    · cases hr : s.bus.request <;> simp [hr] at h
    · contradiction

theorem State.candidate_of_entries (h : s.bus.queue ≠ []) : ∃ e, s.candidate = some (.entry e) := by
  unfold State.candidate
  cases hf : s.bus.first with
  | none => exact absurd (Bus.queue_of_first_none hf) h
  | some e => exact ⟨e, rfl⟩

/-- With an empty queue the beacon request is the candidate, where the station sends beacons. -/
theorem State.candidate_of_nil (h : s.bus.queue = []) :
    s.candidate =
      if s.sul.station = .joining ∨ s.sul.station = .active ∨ s.sul.station = .configFault then
        s.bus.request.map .beacon
      else none := by
  unfold State.candidate
  rw [Bus.first_of_queue_nil h]
  simp only [Station.beacons_iff]

end

/-! ### The wait (R23, R25, TABLE XI) -/

/-- A backoff is a multiple of 4 bit times, from 0 to 60. -/
theorem backoff_bounds (station n : Nat) : backoff station n ≤ 60 ∧ backoff station n % 4 = 0 := by
  unfold backoff
  split <;> omega

/-- Settles O11: the queue by its room, the candidate by the first entry in send order, the wait by its
definition. -/
theorem outboundQueueAndCandidate : Obligations.OutboundQueueAndCandidate := by
  unfold Obligations.OutboundQueueAndCandidate
  refine ⟨fun s o => ⟨fun h m => ?_, fun h => ⟨fun v n id => ?_, ?_, ?_, ?_⟩⟩,
    fun s => ⟨fun e h => ?_, State.candidate_of_entries, State.candidate_of_nil⟩, ?_⟩
  · rw [State.enqueue_of_room h]
    rfl
  · exact State.enqueue_full_talk h v n id
  · exact fun k at_ => State.enqueue_full h nofun
  · exact fun t n at_ => State.enqueue_full h nofun
  · exact fun t k oc r d b => State.enqueue_full h nofun
  · obtain ⟨hfirst, hle⟩ := Bus.first_eq_some (State.candidate_eq_entry h)
    obtain ⟨-, before, after, hqueue, hbefore⟩ := Bus.firstOf_eq_some hfirst
    exact ⟨by rw [hqueue]; exact List.mem_append_right _ List.mem_cons_self, hle, before, after, hqueue,
      hbefore⟩
  · intro station n v clip k cue at_ target st scene kind outcome reason data b id o
    exact ⟨rfl, rfl, rfl, rfl, rfl, backoff_bounds station n⟩

end Sys2Proof.Machine
end

section
/-! PROOFS. The ends of an attempt (R24 to R26, R28, R29, R34): a mismatch with its count, what the sixteenth
failure gives up (R134, R172), and what a sent attempt leaves. -/

namespace Sys2Proof.Machine

theorem exec_jam (s : State) : exec .jam s = act (fun s => s.bus.tx = .send) State.jam s := rfl
theorem exec_jamEnd (s : State) : exec .jamEnd s = act (fun s => s.bus.tx = .jam) State.endJam s := rfl
theorem exec_busGiveUp (s : State) : exec .busGiveUp s = act State.giveUpDue State.giveUp s := rfl
theorem exec_attemptSent (s : State) :
    exec .attemptSent s = act (fun s => s.bus.tx = .send) State.sent s := rfl

/-! ### Reports and beacon requests -/

section
variable {s : State}

/-- A report to a list that holds entries is all that it is. -/
theorem State.report_listed (h : s.flt.entries ≠ []) (k : FaultKind) (n : Nat) (d : DropSort) :
    s.report k n d =
      { s with flt := s.flt.report { kind := k, sort := d, number := n } s.clk.showTime } := by
  unfold State.report
  exact if_neg (by simpa using h)

/-- No beacon request stands at 16 failed attempts. -/
abbrev Bus.RequestStands (b : Bus) : Prop := ∀ n, b.request = some n → n < 16

theorem Bus.RequestStands.raiseEarly {b : Bus} (h : b.RequestStands) : b.raiseEarly.RequestStands := by
  unfold Bus.raiseEarly
  split
  · exact h
  · split
    · exact h
    · unfold Bus.raise
      split
      · exact h
      · rintro n ⟨⟩
        decide

theorem Bus.RequestStands.report (h : s.bus.RequestStands) (k : FaultKind) (n : Nat) (d : DropSort) :
    (s.report k n d).bus.RequestStands := by
  unfold State.report
  dsimp only
  split
  · exact h.raiseEarly
  · exact h

end

/-! ### What is given up (R25) -/

section
variable {s : State} {e : OutEntry}

theorem State.giveUpDue_iff :
    s.giveUpDue = true ↔ (∃ e ∈ s.bus.queue, 16 ≤ e.failed) ∨ ∃ n, s.bus.request = some n ∧ 16 ≤ n := by
  unfold State.giveUpDue
  cases s.bus.request <;> simp

/-- Below 16 failed attempts everything is tried again. -/
theorem State.giveUpDue_eq_false (hq : ∀ e ∈ s.bus.queue, e.failed < 16) (hr : s.bus.RequestStands) :
    s.giveUpDue = false := by
  rw [← Bool.not_eq_true, State.giveUpDue_iff]
  rintro (⟨e, he, hfailed⟩ | ⟨n, hn, hle⟩)
  · exact absurd (hq e he) hfailed.not_gt
  · exact absurd (hr n hn) hle.not_gt

theorem find?_eq_some_of_only {α : Type} {p : α → Bool} {l : List α} {x : α} (hx : x ∈ l) (hp : p x = true)
    (honly : ∀ y ∈ l, p y = true → y = x) : l.find? p = some x := by
  cases hf : l.find? p with
  | none => exact absurd hp (List.find?_eq_none.1 hf x hx)
  | some y => rw [honly y (List.mem_of_find?_eq_some hf) (List.find?_some hf)]

theorem State.gaveUp_bus (s : State) (m : OutMsg) : (s.gaveUp m).bus = s.bus := by
  unfold State.gaveUp
  split
  · unfold State.talkLost State.backOff
    dsimp only
    split
    · split
      · exact State.setVoice_bus _ _ _
      · rfl
    · rfl
  · rfl
  · rfl

/-- The one entry at 16 failed attempts is given up, and nothing else. -/
theorem State.giveUp_entry (he : e ∈ s.bus.queue) (hfailed : 16 ≤ e.failed)
    (honly : ∀ f ∈ s.bus.queue, 16 ≤ f.failed → f = e) (hr : s.bus.RequestStands) :
    s.giveUp = s.giveUpEntry e := by
  have hfind : (s.bus.queue.find? fun f => decide (16 ≤ f.failed)) = some e :=
    find?_eq_some_of_only he (decide_eq_true hfailed) fun f hf h => honly f hf (of_decide_eq_true h)
  have hstands : (s.giveUpEntry e).bus.RequestStands := by
    rw [State.giveUpEntry, State.gaveUp_bus]
    exact Bus.RequestStands.report (by exact hr) _ _ _
  unfold State.giveUp
  rw [hfind]
  dsimp only
  split
  case h_1 n hn => exact if_neg (hstands n hn).not_ge
  case h_2 => rfl

/-- A beacon request at 16 failed attempts is given up alone. -/
theorem State.giveUp_beacon {n : Nat} (hq : ∀ e ∈ s.bus.queue, e.failed < 16)
    (hr : s.bus.request = some n) (hn : 16 ≤ n) : s.giveUp = s.giveUpBeacon := by
  have hfind : (s.bus.queue.find? fun f => decide (16 ≤ f.failed)) = none :=
    List.find?_eq_none.2 fun f hf => by simpa using hq f hf
  unfold State.giveUp
  rw [hfind]
  simp only [hr, hn, if_true]

/-- A given-up beacon leaves a deferred mark, raised at once where no spacing runs (R25, R29). -/
theorem State.giveUpBeacon_listed (h : s.flt.entries ≠ []) :
    s.giveUpBeacon =
      ({ s with
          bus :=
            { s.bus with
              request := if s.bus.spacing = none ∧ s.bus.deferred = true then some 0 else none
              deferred := s.bus.deferred && s.bus.spacing.isSome
              markedInFlight := false } }.report .busGiveUp s.sul.number.val) := by
  unfold State.giveUpBeacon
  rw [State.report_listed (by exact h), State.report_listed (by exact h)]
  cases hs : s.bus.spacing <;> cases hd : s.bus.deferred <;>
    simp [State.onBus, Bus.raise, hs, hd]

/-- A voice whose present claim's TALK is given up waits one claim window (R134). -/
theorem State.talkLost_claims {v : Voice} {id : Nat} (hs : (s.voice v).state = .claiming)
    (hid : (s.voice v).claimId = id) :
    s.talkLost v id =
      s.setVoice v { s.voice v with state := .waitQuiet, claim := none, retry := some s.claimWindow } := by
  simp only [State.talkLost, hid, if_true, State.backOff, hs]

theorem State.claimWindow_report (k : FaultKind) (n : Nat) (d : DropSort) :
    (s.report k n d).claimWindow = s.claimWindow := by
  rw [State.claimWindow, State.report_cfg, ← State.claimWindow.eq_def]

end

/-! ### A mismatch (R24, R25) -/

section
variable {s u : State} {frame : List Byte} {what : Carried}

/-- An abandoned attempt that a RESTART outlived is not counted (R34, log entry 17). -/
theorem State.jam_silent (h : s.bus.attempt = some { what := what, frame := frame, silent := true }) :
    s.jam = { s with bus := { s.bus with tx := .jam, attempt := none } } := by
  simp only [State.jam, h, if_true]
  rfl

/-- The state in which the failed attempt has been counted. -/
def State.counted (s : State) (what : Carried) : State :=
  (s.onBus fun b => { b with tx := .jam, attempt := none }).onBus (·.failed what)

theorem State.jam_counts (h : s.bus.attempt = some { what := what, frame := frame, silent := false }) :
    s.jam = if (s.counted what).giveUpDue then (s.counted what).giveUp else s.counted what := by
  simp only [State.jam, h, Bool.false_eq_true, if_false]
  rfl

theorem State.jam_below (h : s.bus.attempt = some { what := what, frame := frame, silent := false })
    (hq : ∀ e ∈ (s.counted what).bus.queue, e.failed < 16) (hr : (s.counted what).bus.RequestStands) :
    s.jam = s.counted what := by
  rw [State.jam_counts h, State.giveUpDue_eq_false hq hr]
  rfl

/-- A mismatch that leaves no signal, with the jam on the line at the end of its instant (TABLE XII). -/
theorem exec_jam_leaves (htx : s.bus.tx = .send)
    (hu : s.tick.jam = { u with bus := { u.bus with tx := .jam } }) (ha : u.agenda = []) :
    ∃ t, exec .jam s = .next t ∧ t.bus.tx = .jam ∧ SameAtEnd u t := by
  have hquiet := State.finish_quiet (u := { u with bus := { u.bus with tx := .jam } }) ha
  refine ⟨_, (exec_jam s).trans (act_may (decide_eq_true htx)), ?_, ?_⟩
  · rw [hu, State.finish_atEnd (by exact ha)]
    simp [State.atEnd]
  · rw [hu]
    exact hquiet

theorem exec_jam_gives (htx : s.bus.tx = .send) (hu : s.tick.jam = u) (ha : u.agenda = []) :
    Gives .jam s u := gives_of_act (exec_jam s) (decide_eq_true htx) hu ha

end

section
variable {s : State} {frame : List Byte} {e : OutEntry}

/-- The entry with one more failed attempt. -/
def OutEntry.failedAgain (e : OutEntry) : OutEntry := { e with failed := e.failed + 1 }

theorem State.counted_entry_queue (id : Nat) :
    (s.counted (.entry id)).bus.queue =
      s.bus.queue.map fun e => if e.id = id then e.failedAgain else e := rfl

theorem failed_lt_of_counted (id : Nat) (h : e.failed < 15) :
    (if e.id = id then e.failedAgain else e).failed < 16 := by
  split
  · exact Nat.succ_lt_succ h
  · exact h.trans (by decide)

/-- An entry that leaves the queue takes its count with it. -/
theorem filter_failedAgain (id : Nat) : ∀ l : List OutEntry,
    ((l.map fun e => if e.id = id then e.failedAgain else e).filter fun x => decide (x.id ≠ id)) =
      l.filter fun x => decide (x.id ≠ id)
  | [] => rfl
  | e :: l => by
    have hrest := filter_failedAgain id l
    by_cases h : e.id = id
    · simpa [h, OutEntry.failedAgain] using hrest
    · simpa [h] using hrest

/-- The sixteenth failure of an entry gives it up at once (R25). -/
theorem State.jam_sixteenth {left : State} (he : e ∈ s.bus.queue) (hfailed : e.failed = 15)
    (hid : ∀ f ∈ s.bus.queue, f.id = e.id → f = e)
    (ha : s.bus.attempt = some { what := .entry e.id, frame := frame, silent := false })
    (hq : ∀ f ∈ s.bus.queue, f.failed < 16) (hr : s.bus.RequestStands)
    (hleft : left = { s with
      bus :=
        { s.bus with
          tx := .jam, attempt := none
          queue := s.bus.queue.filter fun x => decide (x.id ≠ e.id) } }) :
    s.jam = (left.report .busGiveUp (e.msg.detail s.sul.number.val)).gaveUp e.msg := by
  have hmem : e.failedAgain ∈ (s.counted (.entry e.id)).bus.queue :=
    List.mem_map.2 ⟨e, he, if_pos rfl⟩
  have hsixteen : 16 ≤ e.failedAgain.failed := by simp [OutEntry.failedAgain, hfailed]
  have honly : ∀ f ∈ (s.counted (.entry e.id)).bus.queue, 16 ≤ f.failed → f = e.failedAgain := by
    intro f hf hle
    rw [State.counted_entry_queue] at hf
    obtain ⟨x, hx, rfl⟩ := List.mem_map.1 hf
    by_cases h : x.id = e.id
    · rw [if_pos h, hid x hx h]
    · rw [if_neg h] at hle
      exact absurd (hq x hx) hle.not_gt
  have hdue : (s.counted (.entry e.id)).giveUpDue = true :=
    State.giveUpDue_iff.2 (.inl ⟨_, hmem, hsixteen⟩)
  rw [State.jam_counts ha, hdue, if_pos rfl, State.giveUp_entry hmem hsixteen honly (by exact hr),
    State.giveUpEntry]
  have hqueue : (s.counted (.entry e.id)).onBus (fun b =>
      { b with queue := b.queue.filter fun x => decide (x.id ≠ e.failedAgain.id) }) = left := by
    rw [hleft, ← filter_failedAgain e.id s.bus.queue]
    rfl
  rw [hqueue]
  rfl

end

/-- Settles O13: a counted failure below the sixteenth leaves the attempt to be made again; the sixteenth is
`State.giveUp` of what the attempt carried. -/
theorem failedAttemptsAreCounted : Obligations.FailedAttemptsAreCounted := by
  unfold Obligations.FailedAttemptsAreCounted
  refine ⟨fun s frame => ⟨fun htx id ha hq hr => ?_, fun htx n hn ha hq => ?_, fun htx what ha => ?_,
    fun htx e he hfailed hid ha hq hr left hleft => ?_, fun htx ha hq hlist => ?_, fun htx => ?_⟩,
    fun s => ⟨fun e he hfailed honly hr detail hdetail => ?_, fun n hr hn hq hlist => ?_⟩⟩
  · have hjam : s.tick.jam = s.tick.counted (.entry id) :=
      State.jam_below (by exact ha) (List.forall_mem_map.2 fun e he => failed_lt_of_counted id (hq e he)) hr
    exact exec_jam_leaves htx (hjam.trans rfl) rfl
  · have hjam : s.tick.jam = s.tick.counted (.beacon n) :=
      State.jam_below (by exact ha) (by exact hq) (by rintro m ⟨⟩; omega)
    have hlow : n + 1 < 16 := Nat.succ_lt_succ hn
    refine exec_jam_leaves htx (hjam.trans ?_) rfl
    simp [State.counted, State.onBus, Bus.failed, hn, hlow]
  · exact exec_jam_leaves htx (State.jam_silent (by exact ha)) rfl
  · have hjam := State.jam_sixteenth (s := s.tick) he hfailed hid ha hq hr hleft
    have hagenda : ∀ n, (left.report .busGiveUp n).agenda = [] := fun n => by
      rw [State.report_agenda, hleft]
      rfl
    refine ⟨fun st n at_ hm => ?_, fun k at_ hm => ?_, fun st k o r d hm => ?_, fun v n id hm hs hclaim => ?_,
      fun st k o r d hm => ?_⟩
    · exact exec_jam_gives htx (by rw [hjam, hm]; rfl) (hagenda _)
    · exact exec_jam_gives htx (by rw [hjam, hm]; rfl) (hagenda _)
    · exact exec_jam_gives htx (by rw [hjam, hm]; rfl) (hagenda _)
    · have hvoice : ∀ n, (left.report .busGiveUp n).voice v = s.voice v := fun n => by
        rw [State.voice_report, hleft]
        exact State.voice_of_nre rfl v
      have hwindow : ∀ n, (left.report .busGiveUp n).claimWindow = s.claimWindow := fun n => by
        rw [State.claimWindow_report, hleft]
        rfl
      refine exec_jam_gives htx ?_ (by rw [State.setVoice_agenda]; exact hagenda _)
      rw [hjam, hm, State.gaveUp, State.talkLost_claims (by rwa [hvoice]) (by rwa [hvoice]), hvoice, hwindow]
      rfl
    · rw [exec_jam, act_may (decide_eq_true htx), hjam, hm]
      rfl
  · have hcounted : s.tick.counted (.beacon 15) =
        { s.tick with bus := { s.bus with tx := .jam, attempt := none, request := some 16 } } := by
      simp [State.counted, State.onBus, Bus.failed]
    refine exec_jam_gives htx ?_ (State.report_agenda _ _ _ _)
    rw [State.jam_counts (by exact ha), hcounted, if_pos (State.giveUpDue_iff.2 (.inr ⟨16, rfl, le_rfl⟩)),
      State.giveUp_beacon (by exact hq) rfl le_rfl, State.giveUpBeacon_listed (by exact hlist)]
    rfl
  · have hquiet := State.finish_quiet (u := s.tick.endJam) rfl
    refine ⟨_, (exec_jamEnd s).trans (act_may (decide_eq_true htx)), ?_, hquiet⟩
    rw [State.finish_atEnd rfl]
    rfl
  · refine gives_of_act (exec_busGiveUp s) (State.giveUpDue_iff.2 (.inl ⟨e, he, hfailed⟩)) ?_
      (State.report_agenda _ _ _ _)
    rw [State.giveUp_entry (by exact he) hfailed (by exact honly) (by exact hr), State.giveUpEntry]
    obtain ⟨st, n, at_, hm, rfl⟩ | ⟨k, at_, hm, rfl⟩ | ⟨st, k, o, r, d, hm, rfl⟩ := hdetail
    · rw [hm]
      rfl
    · rw [hm]
      rfl
    · rw [hm]
      rfl
  · refine gives_of_act (exec_busGiveUp s) (State.giveUpDue_iff.2 (.inr ⟨n, hr, hn⟩)) ?_
      (State.report_agenda _ _ _ _)
    rw [State.giveUp_beacon (by exact hq) (by exact hr) hn, State.giveUpBeacon_listed (by exact hlist)]
    rfl

/-! ### A sent attempt (R26, R28, R98, R134, R172) -/

section
variable {s : State} {frame : List Byte}

/-- A sent beacon starts the early spacing, one that a RESTART outlived too (R28, log entry 17). -/
theorem State.sent_beacon {n : Nat} {silent : Bool}
    (h : s.bus.attempt = some { what := .beacon n, frame := frame, silent := silent }) :
    s.sent =
      { s with
        bus :=
          { s.bus with
            tx := .defer, attempt := none, spacing := some s.earlySpacing, markedInFlight := false } } := by
  simp only [State.sent, h]
  rfl

theorem State.sent_silent_entry {id : Nat}
    (h : s.bus.attempt = some { what := .entry id, frame := frame, silent := true }) :
    s.sent = { s with bus := { s.bus with tx := .defer, attempt := none } } := by
  simp only [State.sent, h, if_true]
  rfl

/-- A sent message leaves the queue, and its originator is told (R26). -/
theorem State.sent_entry {e : OutEntry} {left : Bus}
    (h : s.bus.attempt = some { what := .entry e.id, frame := frame, silent := false })
    (he : s.bus.queue.find? (fun x => x.id = e.id) = some e)
    (hleft : left = { s.bus with
      tx := .defer, attempt := none, queue := s.bus.queue.filter fun x => decide (x.id ≠ e.id) }) :
    s.sent = ({ s with bus := left } : State).reportSent e.msg := by
  subst hleft
  simp only [State.sent, h, Bool.false_eq_true, if_false]
  unfold State.entrySent
  rw [show ((s.onBus fun b => { b with tx := .defer, attempt := none }).bus.queue.find? fun x => x.id = e.id) =
    some e from he]
  rfl

/-- The claim window of a sent TALK's voice starts where it still claims (R134). -/
theorem State.talkSent_claims {v : Voice} {id : Nat} (hs : (s.voice v).state = .claiming)
    (hid : (s.voice v).claimId = id) :
    s.talkSent v id = s.setVoice v { s.voice v with claim := some s.claimWindow } := by
  simp [State.talkSent, hs, hid]

end

/-- Settles O14, by what the attempt carried, and for a queue entry by its message. -/
theorem sentMessagesAreReported : Obligations.SentMessagesAreReported := by
  unfold Obligations.SentMessagesAreReported
  refine fun s frame htx => ⟨fun n silent ha => ?_, fun id ha => ?_, fun e ha he left hleft => ?_⟩
  · exact gives_of_act (exec_attemptSent s) (decide_eq_true htx) (State.sent_beacon (by exact ha)) rfl
  · exact gives_of_act (exec_attemptSent s) (decide_eq_true htx) (State.sent_silent_entry (by exact ha)) rfl
  · have hsent : s.tick.sent = ({ s.tick with bus := left } : State).reportSent e.msg :=
      State.sent_entry (by exact ha) (by exact he) hleft
    refine ⟨fun hm => ?_, fun v n id hm hs hclaim => ?_, fun st k o r d hm => ?_, fun k at_ hm => ?_⟩
    · refine gives_of_act (exec_attemptSent s) (decide_eq_true htx) ?_ rfl
      obtain ⟨st, n, at_, hm⟩ | ⟨st, k, o, r, d, hm⟩ := hm
      · rw [hsent, hm]
        rfl
      · rw [hsent, hm]
        rfl
    · have hvoice : ({ s.tick with bus := left } : State).voice v = s.voice v := State.voice_of_nre rfl v
      refine gives_of_act (exec_attemptSent s) (decide_eq_true htx) ?_ (State.setVoice_agenda _ _ _)
      rw [hsent, hm, State.reportSent, State.talkSent_claims (by rwa [hvoice]) (by rwa [hvoice]), hvoice]
      rfl
    · rw [exec_attemptSent, act_may (decide_eq_true htx), hsent, hm]
      rfl
    · rw [exec_attemptSent, act_may (decide_eq_true htx), hsent, hm]
      rfl

end Sys2Proof.Machine
end

section
/-! PROOFS. The line code (R15, R17, R174): the stuffed bits come out again, and a run of six equal levels, which
ends a reception as a fragment, does not come about. -/

namespace Sys2Proof.Machine

/-! ### One level of the line -/

section
variable {level b : Bool} {run : Nat} {rest : List Bool}

/-- After five equal levels one of the other level carries no bit. -/
theorem destuffFrom_stuffed : destuffFrom level 5 ((!level) :: rest) = destuffFrom (!level) 1 rest := by
  simp [destuffFrom]

/-- A sixth equal level ends the reception as a fragment (R17). -/
theorem destuffFrom_sixth : destuffFrom level 5 (level :: rest) = none := by
  simp [destuffFrom]

/-- Within a run a level of the same kind is a bit, and the run grows. -/
theorem destuffFrom_same (h : run ≠ 5) :
    destuffFrom level run (level :: rest) = (destuffFrom level (run + 1) rest).map (level :: ·) := by
  simp [destuffFrom, h]

/-- A level of the other kind is a bit that begins a run. -/
theorem destuffFrom_other (h : run ≠ 5) (hb : b ≠ level) :
    destuffFrom level run (b :: rest) = (destuffFrom b 1 rest).map (b :: ·) := by
  simp [destuffFrom, h, hb]

end

/-! ### The stuffed bits come out again -/

theorem destuffFrom_stuffFrom : ∀ (bits : List Bool) (level : Bool) (run : Nat), run < 5 →
    destuffFrom level run (stuffFrom level run bits) = some bits
  | [], level, run, h => if_neg h.ne
  | b :: rest, level, run, h => by
    unfold stuffFrom
    by_cases hb : b = level
    · subst hb
      rw [if_pos rfl]
      by_cases hfive : run + 1 = 5
      · rw [if_pos hfive, destuffFrom_same h.ne, hfive, destuffFrom_stuffed,
          destuffFrom_stuffFrom rest (!b) 1 (by decide)]
        rfl
      · rw [if_neg hfive, destuffFrom_same h.ne, destuffFrom_stuffFrom rest b (run + 1) (by omega)]
        rfl
    · rw [if_neg hb, destuffFrom_other h.ne hb, destuffFrom_stuffFrom rest b 1 (by decide)]
      rfl

theorem destuff_lineLevels (bytes : List Byte) :
    destuff (lineLevels bytes) = some (bytes.flatMap bitsOfByte) :=
  destuffFrom_stuffFrom _ false 1 (by decide)

/-! ### No run of six -/

section
variable {level : Bool} {after : List Bool}

/-- A run that goes on past five levels ends the reception. -/
theorem destuffFrom_long_run : ∀ (more run : Nat), run + more = 5 →
    destuffFrom level run (List.replicate (more + 1) level ++ after) = none
  | 0, run, h => by
    obtain rfl : run = 5 := h
    exact destuffFrom_sixth
  | more + 1, run, h => by
    rw [List.replicate_succ, List.cons_append, destuffFrom_same (by omega),
      destuffFrom_long_run more (run + 1) (by omega)]
    rfl

/-- Six equal levels end the reception, whatever run they follow. -/
theorem destuffFrom_six (level' : Bool) {run : Nat} (h1 : 1 ≤ run) (h5 : run ≤ 5) :
    destuffFrom level' run (List.replicate 6 level ++ after) = none := by
  by_cases hsame : level = level'
  · subst hsame
    have hsplit :
        List.replicate 6 level = List.replicate (5 - run + 1) level ++ List.replicate run level := by
      rw [List.replicate_append_replicate, show 5 - run + 1 + run = 6 by omega]
    rw [hsplit, List.append_assoc]
    exact destuffFrom_long_run (5 - run) run (by omega)
  · have hfive : destuffFrom level 1 (List.replicate 5 level ++ after) = none := destuffFrom_long_run 4 1 rfl
    rw [List.replicate_succ, List.cons_append]
    by_cases hrun : run = 5
    · obtain rfl : level = !level' := Bool.eq_not_of_ne hsame
      rw [hrun, destuffFrom_stuffed, hfive]
    · rw [destuffFrom_other hrun hsame, hfive]
      rfl

/-- A reception does not get past six equal levels. -/
theorem destuffFrom_run_of_six : ∀ (before : List Bool) (level' : Bool) (run : Nat), 1 ≤ run → run ≤ 5 →
    destuffFrom level' run (before ++ (List.replicate 6 level ++ after)) = none
  | [], level', _, h1, h5 => destuffFrom_six level' h1 h5
  | b :: before, level', run, h1, h5 => by
    have hrest := destuffFrom_run_of_six before
    rw [List.cons_append]
    unfold destuffFrom
    split
    · split
      · rfl
      · exact hrest b 1 le_rfl (by decide)
    · split
      · rw [hrest b (run + 1) (by omega) (by omega)]
        rfl
      · rw [hrest b 1 le_rfl (by decide)]
        rfl

end

/-- Settles O17: the line code reads back, which a run of six would not. -/
theorem lineCodeReadsBack : Obligations.LineCodeReadsBack := by
  unfold Obligations.LineCodeReadsBack
  refine fun bytes => ⟨destuff_lineLevels bytes, fun before after level h => ?_⟩
  have hfragment : destuffFrom true 1 (lineLevels bytes) = none := by
    rw [h, List.append_assoc]
    exact destuffFrom_run_of_six before true 1 le_rfl (by decide)
  have hread : destuffFrom true 1 (lineLevels bytes) = some (false :: bytes.flatMap bitsOfByte) := by
    rw [lineLevels, destuffFrom_other (by decide) (by decide), destuffFrom_stuffFrom _ false 1 (by decide)]
    rfl
  rw [hread] at hfragment
  contradiction

end Sys2Proof.Machine
end

section
/-! PROOFS. The lighting frame and the motion periods of a beat (R103, R148): what the period of one axis writes,
and what the periods of the others leave of it. -/

namespace Sys2Proof.Machine

/-! ### What a motion period writes -/

/-- From `s` to `t` only axes, the governor, local hold, the fault list, the BBI and the signals changed. -/
def MotionOnly (s t : State) : Prop :=
  ∃ m g h f b l,
    t = { s with mte := m, lgv := g, hld := { s.hld with localHold := h }, flt := f, bus := b, agenda := l }

section
variable {s t u : State} {a : Fin 4}

theorem MotionOnly.refl (s : State) : MotionOnly s s :=
  ⟨s.mte, s.lgv, s.hld.localHold, s.flt, s.bus, s.agenda, rfl⟩

theorem MotionOnly.trans (h : MotionOnly s t) (g : MotionOnly t u) : MotionOnly s u := by
  obtain ⟨_, _, _, _, _, _, rfl⟩ := h
  obtain ⟨m, g, h, f, b, l, rfl⟩ := g
  exact ⟨m, g, h, f, b, l, rfl⟩

theorem AxesOnly.motionOnly (h : AxesOnly s t) : MotionOnly s t := by
  obtain ⟨m, _, _, l, -, rfl⟩ := h
  exact ⟨m, _, s.hld.localHold, s.flt, s.bus, l, rfl⟩

theorem State.report_motionOnly (k : FaultKind) (n : Nat) (d : DropSort) : MotionOnly s (s.report k n d) := by
  rw [State.report_eq]
  exact ⟨s.mte, s.lgv, s.hld.localHold, _, _, s.agenda, rfl⟩

theorem State.syncLocalHold_motionOnly : MotionOnly s s.syncLocalHold := by
  rw [State.syncLocalHold_eq]
  exact ⟨s.mte, s.lgv, _, s.flt, _, s.agenda, rfl⟩

/-! ### The period of one axis, by its state and what becomes of it -/

/-- A limit or homing fault: the mark, the report, the released reservation, and local hold (R154, R160). -/
def State.axisFails (s : State) (a : Fin 4) (y : Axis) (kind : FaultKind) : State :=
  (((s.putAxis a y).report kind a.val).releaseReservation a).syncLocalHold

theorem State.releaseReservation_axis (b : Fin 4) : (s.releaseReservation b).axis a = s.axis a := by
  rw [State.axis, (s.releaseReservation_eq b).1]
  rfl

theorem State.axis_syncLocalHold : s.syncLocalHold.axis a = s.axis a := by
  rw [State.syncLocalHold_eq]
  rfl

theorem State.axisFails_axis_self (y : Axis) (kind : FaultKind) : (s.axisFails a y kind).axis a = y := by
  rw [State.axisFails, State.axis_syncLocalHold, State.releaseReservation_axis, State.report_axis,
    State.axis_putAxis_self]

theorem State.axisFails_motionOnly (y : Axis) (kind : FaultKind) : MotionOnly s (s.axisFails a y kind) :=
  (((s.putAxis_axesOnly a y).motionOnly.trans (State.report_motionOnly _ _ _)).trans
    (State.releaseReservation_axesOnly _ a).motionOnly).trans State.syncLocalHold_motionOnly

/-- An axis that holds the show is a source of local hold under settings in force (R160). -/
theorem State.syncLocalHold_of_showHold (hc : s.cfg.isSome = true) (h : (s.axis a).showHold = true) :
    s.syncLocalHold.hld.localHold = true := by
  have hshow : s.showHold = true := List.any_eq_true.2 ⟨a, mem_allAxes a, h⟩
  rw [State.syncLocalHold_eq]
  simp [State.localSources, State.configured, hc, hshow]

/-- A fault of an axis brings local hold to the show-hold marks of all. -/
theorem State.axisFails_holds {b : Fin 4} (y : Axis) (kind : FaultKind) (hc : s.cfg.isSome = true)
    (h : ((s.axisFails b y kind).axis a).showHold = true) :
    (s.axisFails b y kind).hld.localHold = true := by
  rw [State.axisFails, State.axis_syncLocalHold] at h
  have hcfg := (((s.putAxis_axesOnly b y).motionOnly.trans (State.report_motionOnly kind b.val .plain)).trans
    (State.releaseReservation_axesOnly _ b).motionOnly)
  obtain ⟨_, _, _, _, _, _, hcfg⟩ := hcfg
  exact State.syncLocalHold_of_showHold (by rw [hcfg]; exact hc) h

variable {k : AxisCfg} {y : Axis} {ev : MotionEvent}

theorem State.axisPeriod_unset (hk : s.axisCfg a = none) : State.axisPeriod a s = s := by
  simp only [State.axisPeriod, hk]

/-- A settled axis only counts no pulse (R148). -/
theorem State.axisPeriod_still (hk : s.axisCfg a = some k) (h : (s.axis a).state.inMotion = false) :
    State.axisPeriod a s = s.setAxis a { s.axis a with pulses := 0 } := by
  simp only [State.axisPeriod, hk, h, Bool.false_eq_true, if_false]

section
variable (hk : s.axisCfg a = some k) (h : (s.axis a).state.inMotion = true)
include hk h

theorem State.axisPeriod_goes_on (hp : (s.axis a).period a k s.pins = (y, .none)) :
    State.axisPeriod a s = s.putAxis a y := by
  simp only [State.axisPeriod, hk, h, hp, if_true]

theorem State.axisPeriod_rests (hp : (s.axis a).period a k s.pins = (y, .rest)) :
    State.axisPeriod a s = ((s.putAxis a y).releaseReservation a).resume a := by
  simp only [State.axisPeriod, hk, h, hp, if_true]

/-- A limit input or the travel limit ends the period in a fault (R153, R154). -/
theorem State.axisPeriod_fails (hp : (s.axis a).period a k s.pins = (y, ev))
    (hev : ev = .limit ∨ ev = .notFound) :
    ∃ kind, State.axisPeriod a s = s.axisFails a (y.markHold k) kind := by
  obtain rfl | rfl := hev
  · exact ⟨.axisLimit, by simp only [State.axisPeriod, hk, h, hp, if_true, State.axisFails]⟩
  · exact ⟨.homeNotFound, by simp only [State.axisPeriod, hk, h, hp, if_true, State.axisFails]⟩

end

/-- A motion period leaves the settings alone, writes its own axis, or fails it. -/
theorem State.axisPeriod_cases (a : Fin 4) (s : State) :
    (AxesOnly s (State.axisPeriod a s) ∧ ∀ b, b ≠ a → (State.axisPeriod a s).axis b = s.axis b) ∨
      ∃ y kind, State.axisPeriod a s = s.axisFails a y kind := by
  cases hk : s.axisCfg a with
  | none => exact .inl (by rw [State.axisPeriod_unset hk]; exact ⟨.refl s, fun _ _ => rfl⟩)
  | some k =>
    cases h : (s.axis a).state.inMotion with
    | false =>
      rw [State.axisPeriod_still hk h]
      exact .inl ⟨s.setAxis_axesOnly a _, fun b hb => State.axis_setAxis_ne s _ hb⟩
    | true =>
      obtain ⟨y, ev, hp⟩ : ∃ y ev, (s.axis a).period a k s.pins = (y, ev) := ⟨_, _, rfl⟩
      cases ev with
      | none =>
        rw [State.axisPeriod_goes_on hk h hp]
        exact .inl ⟨s.putAxis_axesOnly a y, fun b hb => (State.putAxis_same y hb).axis⟩
      | rest =>
        rw [State.axisPeriod_rests hk h hp]
        exact .inl ⟨((s.putAxis_axesOnly a y).trans (State.releaseReservation_axesOnly _ a)).trans
          (State.resume_axesOnly _ a), fun b hb =>
            (((State.putAxis_same y hb).trans State.releaseReservation_same).trans (State.resume_same hb)).axis⟩
      | limit =>
        obtain ⟨kind, hfails⟩ := State.axisPeriod_fails hk h hp (.inl rfl)
        exact .inr ⟨_, kind, hfails⟩
      | notFound =>
        obtain ⟨kind, hfails⟩ := State.axisPeriod_fails hk h hp (.inr rfl)
        exact .inr ⟨_, kind, hfails⟩

/-! ### One axis and the periods of the others -/

/-- What the periods of other axes leave of axis `a`: its record, and local hold while it holds the show. -/
structure OtherPeriods (a : Fin 4) (s t : State) : Prop where
  only : MotionOnly s t
  axis : t.axis a = s.axis a
  hold : s.cfg.isSome = true → (s.axis a).showHold = true → s.hld.localHold = true → t.hld.localHold = true

theorem OtherPeriods.refl (a : Fin 4) (s : State) : OtherPeriods a s s := ⟨.refl s, rfl, fun _ _ h => h⟩

theorem MotionOnly.cfg (h : MotionOnly s t) : t.cfg = s.cfg := by
  obtain ⟨_, _, _, _, _, _, rfl⟩ := h
  rfl

theorem MotionOnly.pins (h : MotionOnly s t) : t.pins = s.pins := by
  obtain ⟨_, _, _, _, _, _, rfl⟩ := h
  rfl

theorem OtherPeriods.trans (h : OtherPeriods a s t) (g : OtherPeriods a t u) : OtherPeriods a s u :=
  ⟨h.only.trans g.only, g.axis.trans h.axis, fun hc hs hl =>
    g.hold (by rwa [h.only.cfg]) (by rwa [h.axis]) (h.hold hc hs hl)⟩

theorem State.axisPeriod_other {b : Fin 4} (hab : a ≠ b) (s : State) :
    OtherPeriods a s (State.axisPeriod b s) := by
  rcases State.axisPeriod_cases b s with ⟨honly, haxis⟩ | ⟨y, kind, hfails⟩
  · refine ⟨honly.motionOnly, haxis a hab, fun _ _ hl => ?_⟩
    obtain ⟨_, _, _, _, -, hwritten⟩ := honly
    rw [hwritten]
    exact hl
  · have haxis : (s.axisFails b y kind).axis a = s.axis a := by
      rw [State.axisFails, State.axis_syncLocalHold, State.releaseReservation_axis, State.report_axis,
        (State.putAxis_same y hab).axis]
    rw [hfails]
    exact ⟨State.axisFails_motionOnly y kind, haxis, fun hc hs _ =>
      State.axisFails_holds (a := a) y kind hc (by rwa [haxis])⟩

theorem State.axisPeriod_motionOnly (a : Fin 4) (s : State) : MotionOnly s (State.axisPeriod a s) := by
  rcases State.axisPeriod_cases a s with ⟨honly, -⟩ | ⟨y, kind, hfails⟩
  · exact honly.motionOnly
  · rw [hfails]
    exact State.axisFails_motionOnly y kind

/-- The show's work of a beat is, for one axis, its own period with what the others leave of it. -/
theorem State.beatShow_at (s : State) (a : Fin 4) :
    ∃ t, OtherPeriods a s.lightingFrame t ∧ OtherPeriods a (State.axisPeriod a t) s.beatShow :=
  forEach_axes_turn (OtherPeriods.refl a) (fun _ _ _ h g => h.trans g)
    (fun _ t hne => State.axisPeriod_other hne t) s.lightingFrame

theorem State.beatShow_motionOnly (s : State) : MotionOnly s.lightingFrame s.beatShow :=
  forEach_induct (P := MotionOnly s.lightingFrame) (fun a t ht => ht.trans (State.axisPeriod_motionOnly a t))
    allAxes _ (.refl _)

end

/-! ### The lighting frame and the motion periods together -/

section
variable {s : State} {c : Config}

/-- The motion periods leave the channels as their frame left them (R103). -/
theorem State.beatShow_channel (k : Fin 16) : s.beatShow.channel k = s.lightingFrame.channel k := by
  obtain ⟨_, _, _, _, _, _, hwritten⟩ := s.beatShow_motionOnly
  rw [hwritten]
  rfl

variable (hc : s.cfg = some c) (a : Fin 4)
include hc

/-- The period of axis `a` finds it as the beat did, with its settings and the pins of the beat. -/
theorem State.beatShow_turn :
    ∃ t, t.axis a = s.axis a ∧ t.axisCfg a = some c.axes[a] ∧ t.pins = s.pins ∧ t.cfg.isSome = true ∧
      OtherPeriods a (State.axisPeriod a t) s.beatShow := by
  obtain ⟨t, ht, hafter⟩ := s.beatShow_at a
  have haxis : t.axis a = s.axis a := by
    rw [ht.axis, State.lightingFrame_eq hc]
    rfl
  have hcfg : t.cfg = some c := by
    rw [ht.only.cfg, State.lightingFrame_eq hc]
    exact hc
  have hpins : t.pins = s.pins := by
    rw [ht.only.pins, State.lightingFrame_eq hc]
    rfl
  exact ⟨t, haxis, by simp [State.axisCfg, hcfg], hpins, by simp [hcfg], hafter⟩

theorem State.beatShow_still (h : (s.axis a).state.inMotion = false) :
    s.beatShow.axis a = { s.axis a with pulses := 0 } := by
  obtain ⟨t, haxis, hk, -, -, hafter⟩ := State.beatShow_turn hc a
  rw [hafter.axis, State.axisPeriod_still hk (by rwa [haxis]), State.axis_setAxis_self, haxis]

section
variable {y : Axis} {ev : MotionEvent} (h : (s.axis a).state.inMotion = true)
include h

theorem State.beatShow_goes_on (hp : (s.axis a).period a c.axes[a] s.pins = (y, .none)) :
    s.beatShow.axis a = y := by
  obtain ⟨t, haxis, hk, hpins, -, hafter⟩ := State.beatShow_turn hc a
  rw [hafter.axis, State.axisPeriod_goes_on hk (by rwa [haxis]) (by rwa [haxis, hpins]),
    State.axis_putAxis_self]

/-- An axis at rest stays as its period left it; one in HELD may resume, which leaves its place (R156). -/
theorem State.beatShow_rests (hp : (s.axis a).period a c.axes[a] s.pins = (y, .rest)) :
    s.beatShow.axis a = y ∨
      y.state = .held ∧ ∃ m, s.beatShow.axis a =
        { y with state := .waitPower, move := some m, waitTimer := 0, v := 0, stopKind := none } := by
  obtain ⟨t, haxis, hk, hpins, -, hafter⟩ := State.beatShow_turn hc a
  have hrest : ((t.putAxis a y).releaseReservation a).axis a = y := by
    rw [State.releaseReservation_axis, State.axis_putAxis_self]
  rw [hafter.axis, State.axisPeriod_rests hk (by rwa [haxis]) (by rwa [haxis, hpins])]
  rcases State.resume_cases ((t.putAxis a y).releaseReservation a) a with hstays | ⟨hheld, m, -, hjoins⟩
  · rw [hstays]
    exact .inl hrest
  · rw [hjoins, State.axis_joinLine_self, hrest]
    exact .inr ⟨hrest ▸ hheld, m, rfl⟩

theorem State.beatShow_fails (hp : (s.axis a).period a c.axes[a] s.pins = (y, ev))
    (hev : ev = .limit ∨ ev = .notFound) :
    s.beatShow.axis a = y.markHold c.axes[a] ∧
      ((y.markHold c.axes[a]).showHold = true → s.beatShow.hld.localHold = true) := by
  obtain ⟨t, haxis, hk, hpins, hcfg, hafter⟩ := State.beatShow_turn hc a
  obtain ⟨kind, hfails⟩ := State.axisPeriod_fails hk (by rwa [haxis]) (by rwa [haxis, hpins]) hev
  rw [hfails] at hafter
  have hself := State.axisFails_axis_self (s := t) (a := a) (y.markHold c.axes[a]) kind
  refine ⟨hafter.axis.trans hself, fun hs => hafter.hold ?_ (by rwa [hself]) ?_⟩
  · rwa [(State.axisFails_motionOnly _ kind).cfg]
  · exact State.axisFails_holds (a := a) _ kind hcfg (by rwa [hself])

end

end

theorem Axis.markHold_eq (y : Axis) (k : AxisCfg) :
    y.markHold k = { y with showHold := y.showHold || k.faultHolds } := by
  unfold Axis.markHold
  cases k.faultHolds <;> simp

end Sys2Proof.Machine
end

section
/-! PROOFS. The counts of a beat, block by block: the inputs and the groups (R49, R55, R58), the hold line (R161,
R163), and the counts of the runs, the voices and the axes (R70, R74, R90, R133, R136, R152, R155). -/

namespace Sys2Proof.Machine

/-! ### The groups at the first beat in ACTIVE (R55, R58) -/

/-- What the arrival of other groups leaves of group `g`, of what its test reads, and of the signals. -/
structure OtherGroups (g : Fin 4) (s t : State) : Prop where
  cfg : t.cfg = s.cfg
  inputs : t.viu.inputs = s.viu.inputs
  group : t.viu.groups[g] = s.viu.groups[g]
  agenda : ∀ x ∈ s.agenda, x ∈ t.agenda

section
variable {s t u : State} {g : Fin 4}

theorem OtherGroups.refl (g : Fin 4) (s : State) : OtherGroups g s s := ⟨rfl, rfl, rfl, fun _ => id⟩

theorem OtherGroups.trans (h : OtherGroups g s t) (k : OtherGroups g t u) : OtherGroups g s u :=
  ⟨k.cfg.trans h.cfg, k.inputs.trans h.inputs, k.group.trans h.group, fun x hx => k.agenda x (h.agenda x hx)⟩

theorem OtherGroups.memberActive (h : OtherGroups g s t) : t.memberActive g = s.memberActive g := by
  simp only [State.memberActive, State.inputCfg, h.cfg, h.inputs]

/-- An arrival writes its group and posts its signals (R56, R57). -/
theorem State.groupArrives_eq (s : State) (g : Fin 4) :
    ∃ l, s.groupArrives g =
        (s.onGroup g fun _ => { state := .occupied, timer := 0 }).post (.groupChanged g :: l) ∧
      ∀ n, (s.groupCfg g).arrival = some n → .request n (.presence g) ∈ l := by
  cases h : (s.groupCfg g).arrival with
  | none => exact ⟨[], State.groupArrives_silent h, nofun⟩
  | some n =>
    refine ⟨[.request n (.presence g)], State.groupArrives_requests h, ?_⟩
    rintro m ⟨⟩
    exact List.mem_singleton_self _

/-- What the first beat in ACTIVE makes of one group. -/
def State.judgeGroup (g : Fin 4) (s : State) : State :=
  if (s.viu.groups[g]).state = .idle && s.memberActive g then s.groupArrives g else s

theorem State.judgeGroup_other {k : Fin 4} (h : g ≠ k) (s : State) : OtherGroups g s (s.judgeGroup k) := by
  have hne : (k : Nat) ≠ g := fun e => h (Fin.ext e.symm)
  unfold State.judgeGroup
  split
  · obtain ⟨l, hl, -⟩ := s.groupArrives_eq k
    rw [hl]
    exact ⟨rfl, rfl, by simp [State.onGroup, hne], fun x hx => List.mem_append_right _ hx⟩
  · exact .refl g s

end

section
variable {s : State} {g : Fin 4}

theorem State.judgeGroups_off (h : s.viu.judgeGroups = false ∨ s.sul.station ≠ .active) :
    s.judgeGroups = s := by
  unfold State.judgeGroups
  exact if_neg (by rcases h with h | h <;> simp [h])

theorem State.judgeGroups_on (h : s.viu.judgeGroups = true) (ha : s.sul.station = .active) :
    s.judgeGroups = forEach allGroups State.judgeGroup (s.onViu fun u => { u with judgeGroups := false }) := by
  unfold State.judgeGroups
  exact if_pos (by simp [h, ha])

/-- The judgement is, for one group, its own test with what the others' arrivals leave of it. -/
theorem State.judgeGroups_at (h : s.viu.judgeGroups = true) (ha : s.sul.station = .active) (g : Fin 4) :
    ∃ t, OtherGroups g s t ∧ OtherGroups g (t.judgeGroup g) s.judgeGroups := by
  obtain ⟨t, ht, hafter⟩ := forEach_axes_turn (f := State.judgeGroup) (OtherGroups.refl g)
    (fun _ _ _ h k => h.trans k) (fun _ u hne => u.judgeGroup_other hne)
    (s.onViu fun u => { u with judgeGroups := false })
  rw [State.judgeGroups_on h ha]
  exact ⟨t, ⟨ht.cfg, ht.inputs, ht.group, ht.agenda⟩, hafter⟩

/-- A group that is not judged, or has no active member, stands. -/
theorem State.judgeGroups_stands
    (h : s.viu.judgeGroups = false ∨ s.sul.station ≠ .active ∨ s.memberActive g = false) :
    s.judgeGroups.viu.groups[g] = s.viu.groups[g] := by
  by_cases hon : s.viu.judgeGroups = true ∧ s.sul.station = .active
  · obtain ⟨hj, ha⟩ := hon
    have hm : s.memberActive g = false := by simpa [hj, ha] using h
    obtain ⟨t, ht, hafter⟩ := State.judgeGroups_at hj ha g
    have hidle : t.judgeGroup g = t := if_neg (by simp [ht.memberActive, hm])
    rw [hafter.group, hidle, ht.group]
  · rw [State.judgeGroups_off (by rwa [not_and_or, Bool.not_eq_true] at hon)]

/-- An idle group with an active member arrives (R56, R58). -/
theorem State.judgeGroups_arrives (h : s.viu.judgeGroups = true) (ha : s.sul.station = .active)
    (hm : s.memberActive g = true) (hi : (s.viu.groups[g]).state = .idle) :
    s.judgeGroups.viu.groups[g] = { state := .occupied, timer := 0 } ∧
      .groupChanged g ∈ s.judgeGroups.agenda ∧
      ∀ n, (s.groupCfg g).arrival = some n → .request n (.presence g) ∈ s.judgeGroups.agenda := by
  obtain ⟨t, ht, hafter⟩ := State.judgeGroups_at h ha g
  have hidle : (t.viu.groups[g]).state = .idle := by rw [ht.group, hi]
  have harrives : t.judgeGroup g = t.groupArrives g := if_pos (by rw [hidle, ht.memberActive, hm]; rfl)
  have hcfg : t.groupCfg g = s.groupCfg g := by rw [State.groupCfg, State.groupCfg, ht.cfg]
  obtain ⟨l, hl, hrequest⟩ := t.groupArrives_eq g
  rw [harrives, hl] at hafter
  rw [hcfg] at hrequest
  refine ⟨by simpa [State.onGroup] using hafter.group, hafter.agenda _ List.mem_cons_self, fun n hn => ?_⟩
  exact hafter.agenda _ (List.mem_cons_of_mem _ (List.mem_append_left _ (hrequest n hn)))

end

/-! ### The Visitor Input Unit at a beat (R49, R55, R58) -/

/-- From `s` to `t` only the inputs, the groups and the signals changed. -/
def HallOnly (s t : State) : Prop := ∃ v l, t = { s with viu := v, agenda := l }

section
variable {s t u : State} {c : Config} {pins : Pins}

theorem HallOnly.refl (s : State) : HallOnly s s := ⟨s.viu, s.agenda, rfl⟩

theorem HallOnly.trans (h : HallOnly s t) (k : HallOnly t u) : HallOnly s u := by
  obtain ⟨_, _, rfl⟩ := h
  obtain ⟨v, l, rfl⟩ := k
  exact ⟨v, l, rfl⟩

theorem State.judgeGroup_hallOnly (g : Fin 4) (s : State) : HallOnly s (s.judgeGroup g) := by
  unfold State.judgeGroup
  split
  · obtain ⟨l, hl, -⟩ := s.groupArrives_eq g
    rw [hl]
    exact ⟨_, _, rfl⟩
  · exact .refl s

theorem State.judgeGroup_inputs (g : Fin 4) (s : State) : (s.judgeGroup g).viu.inputs = s.viu.inputs := by
  unfold State.judgeGroup
  split
  · obtain ⟨l, hl, -⟩ := s.groupArrives_eq g
    rw [hl]
    rfl
  · rfl

/-- The judgement of the groups leaves the inputs as they are. -/
theorem State.judgeGroups_hall (s : State) :
    HallOnly s s.judgeGroups ∧ s.judgeGroups.viu.inputs = s.viu.inputs := by
  by_cases h : s.viu.judgeGroups = true ∧ s.sul.station = .active
  · rw [State.judgeGroups_on h.1 h.2]
    exact forEach_induct (P := fun u => HallOnly s u ∧ u.viu.inputs = s.viu.inputs)
      (fun g u ⟨honly, hinputs⟩ =>
        ⟨honly.trans (u.judgeGroup_hallOnly g), (u.judgeGroup_inputs g).trans hinputs⟩)
      allGroups _ ⟨⟨_, _, rfl⟩, rfl⟩
  · rw [State.judgeGroups_off (by rwa [not_and_or, Bool.not_eq_true] at h)]
    exact ⟨.refl s, rfl⟩

/-- The inputs have their samples of a beat, and the linger timers have fallen. -/
def State.sampled (s : State) (c : Config) (pins : Pins) : State :=
  (forEach allInputs (fun i s => s.onInput i fun x =>
    x.beat c.inputs[i] (pins.vin.getLsbD i.val) (s.sul.station = .active : Bool)) s).onViu fun u =>
      { u with groups := vmap Group.beat u.groups }

theorem State.sampled_hallOnly (s : State) (c : Config) (pins : Pins) : HallOnly s (s.sampled c pins) := by
  refine HallOnly.trans (forEach_induct (P := HallOnly s) (fun i u hu => hu.trans ⟨_, _, rfl⟩) allInputs s
    (.refl s)) ⟨_, _, rfl⟩

theorem State.sampled_input (s : State) (c : Config) (pins : Pins) (i : Fin 8) :
    (s.sampled c pins).viu.inputs[i] =
      (s.viu.inputs[i]).beat c.inputs[i] (pins.vin.getLsbD i.val) (decide (s.sul.station = .active)) := by
  have hread := forEach_reads (read := fun u (i : Fin 8) => u.viu.inputs[i])
    (f := fun i u => u.onInput i fun x =>
      x.beat c.inputs[i] (pins.vin.getLsbD i.val) (decide (s.sul.station = .active)))
    (g := fun i x => x.beat c.inputs[i] (pins.vin.getLsbD i.val) (decide (s.sul.station = .active)))
    (fun i u => by simp [State.onInput]) (fun i j u hne => u.input_onInput_ne _ hne) (xs := allInputs)
    (by decide) s i
  rwa [if_pos (mem_allInputs i)] at hread

theorem InputRec.beat_level (x : InputRec) (c : InputCfg) (pin active : Bool) :
    (x.beat c pin active).level = x.level := by
  unfold InputRec.beat
  split <;> rfl

/-- A beat's sample is no change of a level, so that the groups have the members that they had. -/
theorem State.sampled_memberActive (s : State) (c : Config) (pins : Pins) (g : Fin 4) :
    (s.sampled c pins).memberActive g = s.memberActive g := by
  have hcfg : (s.sampled c pins).cfg = s.cfg := by
    obtain ⟨_, _, h⟩ := s.sampled_hallOnly c pins
    rw [h]
  simp only [State.memberActive, State.inputCfg, hcfg, State.sampled_input, InputRec.beat_level]

theorem State.sampled_groups (s : State) (c : Config) (pins : Pins) :
    (s.sampled c pins).viu.groups = vmap Group.beat s.viu.groups ∧
      (s.sampled c pins).viu.judgeGroups = s.viu.judgeGroups := by
  have hstand := forEach_induct
    (P := fun u => u.viu.groups = s.viu.groups ∧ u.viu.judgeGroups = s.viu.judgeGroups)
    (f := fun i u => u.onInput i fun x =>
      x.beat c.inputs[i] (pins.vin.getLsbD i.val) (decide (s.sul.station = .active)))
    (fun i u hu => hu) allInputs s ⟨rfl, rfl⟩
  exact ⟨congrArg (vmap Group.beat) hstand.1, hstand.2⟩

theorem State.inputsBeat_eq (hc : s.cfg = some c) : s.inputsBeat pins = (s.sampled c pins).judgeGroups := by
  simp only [State.inputsBeat, hc]
  rfl

theorem State.inputsBeat_hallOnly (s : State) (pins : Pins) : HallOnly s (s.inputsBeat pins) := by
  cases hc : s.cfg with
  | none =>
    have hstands : s.inputsBeat pins = s := by simp only [State.inputsBeat, hc]
    rw [hstands]
    exact .refl s
  | some c =>
    rw [State.inputsBeat_eq hc]
    exact (s.sampled_hallOnly c pins).trans (State.judgeGroups_hall _).1

theorem State.inputsBeat_input (hc : s.cfg = some c) (i : Fin 8) :
    (s.inputsBeat pins).viu.inputs[i] =
      (s.viu.inputs[i]).beat c.inputs[i] (pins.vin.getLsbD i.val) (decide (s.sul.station = .active)) := by
  rw [State.inputsBeat_eq hc, (State.judgeGroups_hall _).2, State.sampled_input]

variable {g : Fin 4}

theorem State.sampled_sul (s : State) (c : Config) (pins : Pins) : (s.sampled c pins).sul = s.sul := by
  obtain ⟨_, _, h⟩ := s.sampled_hallOnly c pins
  rw [h]

/-- A group that is not judged, or has no active member, only counts its linger timer (R55). -/
theorem State.inputsBeat_group_stands (hc : s.cfg = some c)
    (h : s.viu.judgeGroups = false ∨ s.sul.station ≠ .active ∨ s.memberActive g = false) :
    (s.inputsBeat pins).viu.groups[g] = (s.viu.groups[g]).beat := by
  have hgroups := s.sampled_groups c pins
  rw [State.inputsBeat_eq hc, State.judgeGroups_stands
    (by rwa [hgroups.2, State.sampled_sul, State.sampled_memberActive]), hgroups.1]
  exact vmap_getElem _ _ g

/-- At the first beat in ACTIVE an idle group with an active member arrives (R56, R58). -/
theorem State.inputsBeat_group_arrives (hc : s.cfg = some c) (h : s.viu.judgeGroups = true)
    (ha : s.sul.station = .active) (hm : s.memberActive g = true) (hi : (s.viu.groups[g]).state = .idle) :
    (s.inputsBeat pins).viu.groups[g] = { state := .occupied, timer := 0 } ∧
      .groupChanged g ∈ (s.inputsBeat pins).agenda ∧
      ∀ n, c.groups[g].arrival = some n → .request n (.presence g) ∈ (s.inputsBeat pins).agenda := by
  have hgroups := s.sampled_groups c pins
  have hidle : ((s.sampled c pins).viu.groups[g]).state = .idle := by
    have hbeat : (s.sampled c pins).viu.groups[g] = (s.viu.groups[g]).beat := by
      rw [hgroups.1]
      exact vmap_getElem _ _ g
    rw [hbeat, Group.beat, if_neg (by rw [hi]; decide), hi]
  have hcfg : (s.sampled c pins).groupCfg g = c.groups[g] := by
    obtain ⟨_, _, hwritten⟩ := s.sampled_hallOnly c pins
    rw [State.groupCfg, hwritten, hc]
  have harrives := State.judgeGroups_arrives (s := s.sampled c pins) (by rwa [hgroups.2])
    (by rwa [State.sampled_sul]) (by rwa [State.sampled_memberActive]) hidle
  rwa [hcfg, ← State.inputsBeat_eq hc] at harrives

end

/-! ### The hold line at a beat (R161, R163) -/

section
variable {s : State} {c : Config}

theorem State.holdBeat_hldOnly (s : State) (other : Bool) : ∃ h : Hld,
    s.holdBeat other = { s with hld := h } ∧ h.inEffect = s.hld.inEffect := by
  unfold State.holdBeat
  dsimp only
  split
  · exact ⟨_, rfl, rfl⟩
  · exact ⟨_, rfl, rfl⟩

/-- The Hold Logic's work at a beat under settings in force. -/
theorem State.holdBeat_hld (hc : s.cfg = some c) {other low : Bool} {t : Option Nat}
    (hlow : low = (other || s.hld.localHold)) (ht : t = releaseNext low s.held s.hld.release) :
    (s.holdBeat other).hld =
      { s.hld with
        lineLow := low, release := t, releaseDue := releaseReached c.releaseDelay t
        stuck :=
          if low = true ∧ s.hld.localHold = false ∧ s.peerHold = false then
            if s.hld.stuckReported = false ∧ s.hld.stuck < 3 * c.beaconPeriod then s.hld.stuck + 1
            else s.hld.stuck
          else 0
        stuckReported := low && !s.hld.localHold && !s.peerHold && s.hld.stuckReported } := by
  subst hlow ht
  have hcfg : s.configured = true := by simp [State.configured, hc]
  have hdelay : s.releaseDelay = c.releaseDelay := by simp only [State.releaseDelay, hc]
  have hlimit : s.stuckLimit = 3 * c.beaconPeriod := by simp only [State.stuckLimit, State.beaconPeriod, hc]
  simp only [State.holdBeat, hcfg, if_true, State.onHld, hdelay, hlimit, Bool.and_eq_true,
    Bool.not_eq_true', decide_eq_true_eq, and_assoc]
  rfl

end

/-! ### The counts of the runs, the voices and the axes (R70, R74, R90, R133, R136, R152, R155) -/

/-- A run's clocks at a beat move out of hold, scene time in RUNNING and the await in WAITING. -/
theorem Slot.beat_eq (x : Slot) (hold : Bool) :
    x.beat hold =
      if hold = false ∧ x.state = .running then { x with sceneTime := x.sceneTime + 1#32 }
      else if hold = false ∧ x.state = .waiting then
        { x with await := x.await.map fun w => { w with remaining := w.remaining - 1 } }
      else x := by
  unfold Slot.beat
  split
  next h => simp [h]
  next h =>
    rw [if_neg (by simp [h]), if_pos ⟨rfl, h⟩]
    rfl
  next hrunning hwaiting => rw [if_neg fun h => hrunning h.1 h.2, if_neg fun h => hwaiting h.1 h.2]

theorem VoiceRec.gateBeat_eq (x : VoiceRec) (hold : Bool) :
    x.gateBeat hold =
      { x with
        retry := x.retry.map (· - 1), claim := x.claim.map (· - 1)
        quiet :=
          if hold = false ∧ (x.state = .waitQuiet ∨ x.state = .claiming) then min (x.quiet + 1) 60001
          else x.quiet } := by
  have hquiet : (x.gateBeat hold).quiet =
      if hold = false ∧ (x.state = .waitQuiet ∨ x.state = .claiming) then min (x.quiet + 1) 60001
      else x.quiet := by
    cases hold <;> cases hs : x.state <;> simp [VoiceRec.gateBeat, hs]
  rw [← hquiet]
  rfl

theorem Axis.timers_eq (x : Axis) (k : AxisCfg) (hold active : Bool) :
    x.timers k hold active =
      { x with
        waitTimer := if hold = false ∧ x.state = .waitPower then min (x.waitTimer + 1) 60000 else x.waitTimer
        guardTimer :=
          if active = true then 0
          else if x.guardTimer < k.guardDelay then x.guardTimer + 1
          else x.guardTimer
        guardClear := decide (k.guardMask = 0#8) || x.guardClear } := by
  unfold Axis.timers
  cases hold <;> by_cases hm : k.guardMask = 0#8 <;> simp [hm]

/-- The turn of one axis among the counts of a beat. -/
def State.axisCounts (a : Fin 4) (s : State) : State :=
  match s.axisCfg a with
  | some k => s.onAxis a fun x => x.timers k s.held (s.guardActive k.guardMask)
  | none => s

section
variable {s : State} {a b : Fin 4}

theorem State.axisCounts_same (h : a ≠ b) (s : State) : SameFor a s (s.axisCounts b) := by
  unfold State.axisCounts
  split
  · exact ⟨rfl, rfl, rfl, State.axis_setAxis_ne s _ h, Iff.rfl⟩
  · exact .refl a s

theorem State.axisCounts_self {k : AxisCfg} (h : s.axisCfg a = some k) :
    (s.axisCounts a).axis a = (s.axis a).timers k s.held (s.guardActive k.guardMask) := by
  simp only [State.axisCounts, h, State.axis_onAxis_self]

/-- Each axis under settings counts by its own. -/
theorem State.forEach_axisCounts {k : AxisCfg} (h : s.axisCfg a = some k) :
    (forEach allAxes State.axisCounts s).axis a =
      (s.axis a).timers k s.held (s.guardActive k.guardMask) := by
  obtain ⟨t, ht, hafter⟩ := forEach_allAxes_at (f := State.axisCounts) (a := a)
    (fun _ u hne => u.axisCounts_same hne) s
  rw [hafter.axis, State.axisCounts_self (by rwa [ht.axisCfg]), ht.axis, ht.held, ht.guardActive]

theorem State.forEach_axisCounts_mteOnly (s : State) :
    ∃ m, forEach allAxes State.axisCounts s = { s with mte := m } :=
  forEach_induct (P := fun u => ∃ m, u = { s with mte := m })
    (fun a u ⟨m, hu⟩ => by
      subst hu
      unfold State.axisCounts
      split
      · exact ⟨_, rfl⟩
      · exact ⟨m, rfl⟩) allAxes s ⟨s.mte, rfl⟩

/-- The counts of the bus, the port, the runs, the requests, the voices and the JOINING interval at a beat. -/
def State.blockCounts (s : State) : State :=
  { s with
    bus := s.bus.beat
    smp := s.smp.beat
    sce := { s.sce with
      queue := s.sce.queue.map fun q => { q with patience := q.patience - 1 }
      slots := vmap (·.beat s.held) s.sce.slots }
    nre := { s.nre with a := s.nre.a.gateBeat s.held, b := s.nre.b.gateBeat s.held }
    sul := { s.sul with
      joinTimer := if s.sul.station = .joining then s.sul.joinTimer + 1 else s.sul.joinTimer } }

/-- The counts of a beat are those of the blocks with those of the axes. -/
theorem State.beatCounts_eq (s : State) : ∃ m : Vector Axis 4,
    s.beatCounts = { s.blockCounts with mte := m } ∧
      ∀ c, s.cfg = some c → ∀ a : Fin 4,
        m[a] = (s.axis a).timers c.axes[a] s.held (s.guardActive c.axes[a].guardMask) := by
  obtain ⟨m, hm⟩ := State.forEach_axisCounts_mteOnly { s.blockCounts with sul := s.sul }
  refine ⟨m, ?_, fun c hc a => ?_⟩
  · have hcounts : s.beatCounts =
        (forEach allAxes State.axisCounts { s.blockCounts with sul := s.sul }).onSul fun u =>
          if u.station = .joining then { u with joinTimer := u.joinTimer + 1 } else u := rfl
    rw [hcounts, hm]
    unfold State.onSul State.blockCounts
    dsimp only
    split <;> rfl
  · have hself := State.forEach_axisCounts (s := { s.blockCounts with sul := s.sul }) (a := a)
      (k := c.axes[a]) (by simp [State.axisCfg, State.blockCounts, hc])
    rw [hm] at hself
    exact hself

end

/-! ### The state of a beat before its lighting frame -/

/-- What a beat has made of the blocks when the lighting frame begins. -/
def State.beatCounted (s : State) (pins : Pins) : State := ((s.beatStart pins).beatOutside pins).beatCounts

section
variable {s : State} {c : Config} {pins : Pins}

/-- A beat's sample is no change of a level, so that the guards that stand are those that stood. -/
theorem State.inputsBeat_guardActive (hc : s.cfg = some c) (mask : BitVec 8) :
    (s.inputsBeat pins).guardActive mask = s.guardActive mask := by
  have hcfg : (s.inputsBeat pins).cfg = s.cfg := by
    obtain ⟨_, _, hwritten⟩ := s.inputsBeat_hallOnly pins
    rw [hwritten]
  have hkind (i : Fin 8) : (s.inputsBeat pins).inputKind i = s.inputKind i := by
    rw [State.inputKind, State.inputKind, State.inputCfg, State.inputCfg, hcfg]
  simp only [State.guardActive, hkind, State.inputsBeat_input hc, InputRec.beat_level]

/-- The counts of a beat, with what the inputs, the hold line and the axes make of it. -/
theorem State.beatCounted_eq (s : State) (pins : Pins) : ∃ v l h, ∃ m : Vector Axis 4,
    (s.beatClock pins).inputsBeat pins = { s.beatClock pins with viu := v, agenda := l } ∧
      (({ s.beatClock pins with viu := v, agenda := l } : State).holdBeat pins.holdOther).hld = h ∧
      s.beatCounted pins = { (s.beatClock pins).blockCounts with viu := v, agenda := l, hld := h, mte := m } ∧
      ∀ c, s.cfg = some c → ∀ a : Fin 4,
        m[a] = (s.axis a).timers c.axes[a] s.held (s.guardActive c.axes[a].guardMask) := by
  obtain ⟨v, l, hhall⟩ := (s.beatClock pins).inputsBeat_hallOnly pins
  obtain ⟨h, hhold, heffect⟩ :=
    ({ s.beatClock pins with viu := v, agenda := l } : State).holdBeat_hldOnly pins.holdOther
  obtain ⟨m, hcounts, haxes⟩ :=
    ({ s.beatClock pins with viu := v, agenda := l, hld := h } : State).beatCounts_eq
  have hheld : h.inEffect = s.held := heffect
  refine ⟨v, l, h, m, hhall, by rw [hhold], ?_, fun c hc a => ?_⟩
  · have hparts : s.beatCounted pins =
        (((s.beatClock pins).inputsBeat pins).holdBeat pins.holdOther).beatCounts := rfl
    rw [hparts, hhall, hhold, hcounts]
    simp only [State.blockCounts, State.held, hheld]
    rfl
  · have hguard := State.inputsBeat_guardActive (s := s.beatClock pins) (pins := pins) hc
      c.axes[a].guardMask
    rw [hhall] at hguard
    rw [haxes c hc a]
    simp only [State.held, hheld]
    exact congrArg ((s.axis a).timers c.axes[a] s.held) hguard

theorem State.beatCounted_smp (s : State) (pins : Pins) : (s.beatCounted pins).smp = s.smp.beat := by
  obtain ⟨_, _, _, _, -, -, hcounts, -⟩ := s.beatCounted_eq pins
  rw [hcounts]
  rfl

theorem State.beatCounted_slot (s : State) (pins : Pins) (i : Fin 4) :
    (s.beatCounted pins).slot i = (s.slot i).beat s.held := by
  obtain ⟨_, _, _, _, -, -, hcounts, -⟩ := s.beatCounted_eq pins
  rw [hcounts]
  exact vmap_getElem _ _ i

theorem State.beatCounted_voice (s : State) (pins : Pins) (v : Voice) :
    (s.beatCounted pins).voice v = (s.voice v).gateBeat s.held := by
  obtain ⟨_, _, _, _, -, -, hcounts, -⟩ := s.beatCounted_eq pins
  rw [hcounts]
  cases v <;> rfl

section
variable (hc : s.cfg = some c)
include hc

theorem State.beatCounted_axis (a : Fin 4) :
    (s.beatCounted pins).axis a =
      (s.axis a).timers c.axes[a] s.held (s.guardActive c.axes[a].guardMask) := by
  obtain ⟨_, _, _, _, -, -, hcounts, haxes⟩ := s.beatCounted_eq pins
  rw [hcounts]
  exact haxes c hc a

theorem State.beatCounted_input (i : Fin 8) :
    (s.beatCounted pins).viu.inputs[i] =
      (s.viu.inputs[i]).beat c.inputs[i] (pins.vin.getLsbD i.val) (decide (s.sul.station = .active)) := by
  obtain ⟨_, _, _, _, hhall, -, hcounts, -⟩ := s.beatCounted_eq pins
  have hinput := State.inputsBeat_input (s := s.beatClock pins) (pins := pins) hc i
  rw [hhall] at hinput
  rw [hcounts]
  exact hinput

theorem State.beatCounted_group_stands {g : Fin 4}
    (h : s.viu.judgeGroups = false ∨ s.sul.station ≠ .active ∨ s.memberActive g = false) :
    (s.beatCounted pins).viu.groups[g] = (s.viu.groups[g]).beat := by
  obtain ⟨_, _, _, _, hhall, -, hcounts, -⟩ := s.beatCounted_eq pins
  have hgroup := State.inputsBeat_group_stands (s := s.beatClock pins) (pins := pins) hc h
  rw [hhall] at hgroup
  rw [hcounts]
  exact hgroup

theorem State.beatCounted_group_arrives {g : Fin 4} (h : s.viu.judgeGroups = true)
    (ha : s.sul.station = .active) (hm : s.memberActive g = true) (hi : (s.viu.groups[g]).state = .idle) :
    (s.beatCounted pins).viu.groups[g] = { state := .occupied, timer := 0 } ∧
      .groupChanged g ∈ (s.beatCounted pins).agenda ∧
      ∀ n, c.groups[g].arrival = some n → .request n (.presence g) ∈ (s.beatCounted pins).agenda := by
  obtain ⟨_, _, _, _, hhall, -, hcounts, -⟩ := s.beatCounted_eq pins
  have hgroup := State.inputsBeat_group_arrives (s := s.beatClock pins) (pins := pins) hc h ha hm hi
  rw [hhall] at hgroup
  rw [hcounts]
  exact hgroup

theorem State.beatCounted_hld {low : Bool} {t : Option Nat}
    (hlow : low = (pins.holdOther || s.hld.localHold)) (ht : t = releaseNext low s.held s.hld.release) :
    (s.beatCounted pins).hld =
      { s.hld with
        lineLow := low, release := t, releaseDue := releaseReached c.releaseDelay t
        stuck :=
          if low = true ∧ s.hld.localHold = false ∧ s.peerHold = false then
            if s.hld.stuckReported = false ∧ s.hld.stuck < 3 * c.beaconPeriod then s.hld.stuck + 1
            else s.hld.stuck
          else 0
        stuckReported := low && !s.hld.localHold && !s.peerHold && s.hld.stuckReported } := by
  obtain ⟨v, l, _, _, -, hhold, hcounts, -⟩ := s.beatCounted_eq pins
  have hpeers : (s.beatClock pins).peerHold = s.peerHold := List.any_map
  rw [hcounts, ← hhold, ← hpeers]
  exact State.holdBeat_hld (s := { s.beatClock pins with viu := v, agenda := l }) hc hlow ht

end

end

/-- The release timer starts at 0 and counts while hold is in effect on a high line (R161). -/
theorem releaseNext_eq (low inEffect : Bool) (t : Option Nat) :
    releaseNext low inEffect t =
      if low = true ∨ inEffect = false then none
      else
        match t with
        | none => some 0
        | some n => some (n + 1) := by
  cases low <;> cases inEffect <;> rfl

theorem Group.beat_eq (x : Group) :
    x.beat = if x.state = .linger then { state := .linger, timer := x.timer - 1 } else x := by
  unfold Group.beat
  split
  next h => rw [← h]
  next => rfl

theorem Port.beat_free {p : Port} (h : ∀ x b, p.state ≠ .busy x b) : p.beat = p := by
  rcases p.beat_cases with ⟨x, b, hbusy, -⟩ | ⟨-, hstands⟩
  · exact absurd hbusy (h x b)
  · exact hstands

theorem Port.beat_busy {p : Port} {x : Transfer} {b : Bool} (h : p.state = .busy x b) :
    p.beat = { p with timer := min (p.timer + 1) 3 } := by
  rcases p.beat_cases with ⟨-, -, -, hcounts⟩ | ⟨hfree, -⟩
  · exact hcounts
  · exact absurd h (hfree x b)

/-- Whatever a motion period ends in, its place, its pulses, its direction and its home mark stand. -/
theorem State.beatShow_keeps_motion {s : State} {c : Config} {y : Axis} {ev : MotionEvent}
    (hc : s.cfg = some c) (a : Fin 4) (h : (s.axis a).state.inMotion = true)
    (hp : (s.axis a).period a c.axes[a] s.pins = (y, ev)) :
    ∃ st mv wait v stop mark, s.beatShow.axis a =
      { y with state := st, move := mv, waitTimer := wait, v := v, stopKind := stop, showHold := mark } := by
  have hfails (hev : ev = .limit ∨ ev = .notFound) :
      s.beatShow.axis a = { y with showHold := y.showHold || c.axes[a].faultHolds } := by
    rw [(State.beatShow_fails hc a h hp hev).1, Axis.markHold_eq]
  cases ev with
  | none => exact ⟨_, _, _, _, _, _, State.beatShow_goes_on hc a h hp⟩
  | rest =>
    rcases State.beatShow_rests hc a h hp with hstays | ⟨-, m, hresumes⟩
    · exact ⟨_, _, _, _, _, _, hstays⟩
    · exact ⟨_, _, _, _, _, _, hresumes⟩
  | limit => exact ⟨_, _, _, _, _, _, hfails (.inl rfl)⟩
  | notFound => exact ⟨_, _, _, _, _, _, hfails (.inr rfl)⟩

/-- Settles O40: the counts from the equation of the state before the lighting frame, the frame and the motion
periods from what the periods of the other axes leave of each. -/
theorem beatDoesTheShow : Obligations.BeatDoesTheShow := by
  unfold Obligations.BeatDoesTheShow
  refine ⟨?counts, ?motion⟩
  case counts =>
    rintro s pins leave hr hs p u w hp hu rfl
    have hcounted : u = p.beatCounted pins := hu
    have hbeats : p.beats = s.beats := by
      rw [hp]
      exact (State.takeDue_keeps (Keeps.refl s.tick)).beats
    obtain ⟨v, l, h, m, -, -, hwritten, -⟩ := p.beatCounted_eq pins
    rw [← hcounted] at hwritten
    refine ⟨?exec, ?pins, ?beats, ?cfg, ?lte, ?busy, ?free, ?ptb, ?bus, ?sul, ?queue, ?slots, ?voices,
      fun c hc => ⟨?axes, ?inputs, ?groups, ?hold⟩⟩
    case exec =>
      rw [exec_beat_due pins leave hr hs, hu, hp]
      rfl
    case beats =>
      rw [hwritten, ← hbeats]
      rfl
    case busy =>
      intro x b hbusy
      rw [hcounted, State.beatCounted_smp, Port.beat_busy hbusy]
    case free =>
      intro hfree
      rw [hcounted, State.beatCounted_smp, Port.beat_free hfree]
    case slots =>
      intro i
      rw [hcounted, State.beatCounted_slot, Slot.beat_eq]
    case voices =>
      intro v
      rw [hcounted, State.beatCounted_voice, VoiceRec.gateBeat_eq]
    case axes =>
      rintro a k rfl
      rw [hcounted, State.beatCounted_axis hc, Axis.timers_eq]
    case inputs =>
      intro i
      rw [hcounted, State.beatCounted_input hc]
    case groups =>
      intro g
      rw [hcounted, ← Group.beat_eq]
      exact ⟨State.beatCounted_group_stands hc, State.beatCounted_group_arrives hc⟩
    case hold =>
      intro low t hlow ht
      rw [hcounted, State.beatCounted_hld hc hlow (ht.trans (releaseNext_eq low p.held p.hld.release).symm)]
      cases t <;> rfl
    all_goals
      rw [hwritten]
      rfl
  case motion =>
    intro s c hc
    refine ⟨fun k => by rw [State.beatShow_channel, State.lightingFrame_channel hc], fun a y ev =>
      ⟨State.beatShow_still hc a, fun h hp => ?_⟩⟩
    obtain ⟨_, _, _, _, _, _, hkept⟩ := State.beatShow_keeps_motion hc a h hp
    refine ⟨by rw [hkept], by rw [hkept], by rw [hkept], by rw [hkept], ?goes_on, ?rests, ?fails⟩
    case goes_on =>
      rintro rfl
      exact State.beatShow_goes_on hc a h hp
    case rests =>
      rintro rfl hheld
      rcases State.beatShow_rests hc a h hp with hstays | ⟨hresumes, -⟩
      · exact hstays
      · exact absurd hresumes hheld
    case fails =>
      intro hev
      obtain ⟨haxis, hhold⟩ := State.beatShow_fails hc a h hp hev
      rw [Axis.markHold_eq] at haxis hhold
      exact ⟨haxis, fun hmark => hhold (Bool.or_eq_true_iff.2 (.inr hmark))⟩

end Sys2Proof.Machine
end
